-- ==== Sys2Proof/Word.lean ====
section
/-! DEFINITION. The word types of the W460 and the bytes of a number, little-endian (00_scope.md R8, R9). -/

namespace Sys2Proof

/-- A scalar register, and a word of local memory (06_cores_threads.md R138, R143). -/
abbrev Word := BitVec 64

/-- A vector register: 64 bytes (06_cores_threads.md R138). -/
abbrev Vec := BitVec 512

/-- One byte. -/
abbrev Byte := BitVec 8

/-- Bits `hi` down to `lo` of a number (00_scope.md R8: both ends included). -/
def bits (n hi lo : Nat) : Nat := n / 2 ^ lo % 2 ^ (hi + 1 - lo)

/-- Bit `i` of a number. -/
def bit (n i : Nat) : Bool := n / 2 ^ i % 2 = 1

/-- The first `k` bytes of a number, lowest first (00_scope.md R9). -/
def bytesOf : Nat → Nat → List Nat
  | 0, _ => []
  | k + 1, n => n % 256 :: bytesOf k (n / 256)

/-- The number whose bytes these are, lowest first (00_scope.md R9). -/
def ofBytes : List Nat → Nat
  | [] => 0
  | b :: r => b % 256 + 256 * ofBytes r

/-- 1 for true, 0 for false. -/
def boolNat (b : Bool) : Nat := if b then 1 else 0

end Sys2Proof
end

