-- ==== Sys2Proof/Args.lean ====
section
/-! DEFINITION. The operand types of the commands: who sends one, and the units it names (00_scope.md "Identifiers
and names"). Numbers that the spec bounds are bounded by their type, so that no command names a unit that is not there. -/

namespace Sys2Proof

/-- A host port: 0 HPA, 1 HPB (14_host_ports.md). -/
abbrev Port := Fin 2
/-- A partition P0-P3 (03_partitions_admission.md). -/
abbrev Part := Fin 4
/-- A field F00-F63 (02_wafer_fields_pace.md). -/
abbrev FieldId := Fin 64
/-- A mapped core of a field, 0-151 (R33). -/
abbrev CoreId := Fin 152
/-- A hardware thread T0-T31 (06_cores_threads.md). -/
abbrev ThreadId := Fin 32
/-- A crossing, 0-139 (R37). -/
abbrev Crossing := Fin 140
/-- A Thijolink port, on its own link die (13_thijolink.md). -/
abbrev Tjl := Fin 8
/-- A flash die FD0-FD15 (05_repository.md). -/
abbrev FlashDie := Fin 16
/-- A sideband pin SBP0-SBP15 (22_management_sideband.md). -/
abbrev Sbp := Fin 16
/-- A scalar register s0-s31. -/
abbrev SReg := Fin 32
/-- A vector register v0-v7. -/
abbrev VReg := Fin 8

/-- Who makes a register access (R581): a function of a host port, the management interface, the JTAG mailbox. -/
inductive Req where
  | host (x : Port) (pf : Fin 5)
  | mgmt
  | jtag
deriving DecidableEq, Repr

/-- A thread of a mapped core of a field. -/
structure Thr where
  f : FieldId
  m : CoreId
  t : ThreadId
deriving DecidableEq, Repr

/-- A stream engine: E0-E3 of a mapped core, or shelf engine S0-S15 of a field (R162). -/
inductive Eng where
  | core (f : FieldId) (m : CoreId) (e : Fin 4)
  | shelf (f : FieldId) (n : Fin 16)
deriving DecidableEq, Repr

/-- The operand fields of an F/E or SYNC instruction (R205). -/
structure SyncIns where
  tag : Fin 4
  f : Bool
  sd : SReg
  sa : SReg
  sb : SReg
  rsv : BitVec 22
  imm : BitVec 16
deriving DecidableEq, Repr

/-- What the governor reads of a field in one period: pace in M issues/s, hottest junction in degrees Celsius,
and the estimated saving of a 10 mV step in W (R44). -/
structure FieldMeas where
  pace : Nat
  junction : Nat
  saving : Nat
deriving DecidableEq, Repr

/-- What a configuration request names of a function (R347, R350, R351): identity, a BAR or an enable read, or written with a
value; any other doubleword. -/
inductive CfgReq where
  | ids
  | cls
  | subsys
  | serial (high : Bool)
  | bar (n : Fin 3) (w : Option (BitVec 64))
  | msix (w : Option (Bool × Bool))
  | power (w : Option Bool)
  | other (off : Fin 1024) (write : Bool)
deriving DecidableEq, Repr

/-- The unit that a transfer timeout names (R488): the last to hold the transfer without acknowledging it. -/
inductive UnitRef where
  | core (f : FieldId) (m : CoreId)
  | field (f : FieldId)
  | tower (f : FieldId) (w : Fin 4)
  | edge (k : Fin 28)
deriving DecidableEq, Repr

/-- A lower recovery level that holds a transfer (R486): a swap on a crossing, a link retry or retrain, a flash read retry. -/
inductive Lower where
  | swap (x : Crossing)
  | retry (n : Tjl)
  | retrain (n : Tjl)
  | flash (p : Part) (page : BitVec 33) (t : Fin 4)
deriving DecidableEq, Repr

end Sys2Proof
end

