-- ==== Sys2Proof/Syntax.lean ====
section
/-! DEFINITION. The commands of the W460: one constructor per row of spec/opcode_table.json, in the table's order,
with the operands the row's rule gives it. -/

namespace Sys2Proof

/-- A command the device takes, or an event that reaches it. -/
inductive Instr where
  /-- REGISTER_WRITE (R16). A host or management write to a register that has no row of its own sets its writable fields under the access codes. -/
  | registerWrite (r : Req) (bar2 : Bool) (off : Nat) (wide : Bool) (data : BitVec 64)
  /-- MISALIGNED_ACCESS (R14). A BAR0 or BAR2 request of the wrong size or alignment is completed: a read returns 0xFF bytes and a write is discarded. -/
  | misalignedAccess (r : Req) (bar2 : Bool) (off : Nat) (len : Nat) (write : Bool)
  /-- SNAPSHOT_READ (R516). A read of the lowest word of a multi-word register captures all its words into the requester's shadow. -/
  | snapshotRead (r : Req) (off : Nat)
  /-- RC_READ (R16). A read of an RC field returns its value and clears it to 0. -/
  | rcRead (r : Req) (off : Nat)
  /-- PEVT_READ (R363). A read of HPT_PEVT re-enables vector-0 messages on that function. -/
  | pevtRead (r : Req) (p : Part)
  /-- FLOG_HEAD_READ (R489). A read of PAR_FLOG_HEAD or PAR_DLOG_HEAD re-enables vector-3 messages and clears the FLOG alert source. -/
  | flogHeadRead (r : Req) (ring : Option Part)
  /-- GOVERNOR_PERIOD (R44). At each governor period the governor applies thermal rules, the power cap and pace-band raises and lowers. -/
  | governorPeriod (ms : List FieldMeas) (watts : Nat)
  /-- TB_BROADCAST (R49). The full 64-bit count is broadcast every 4,096 tk and each leaf is compared with it. -/
  | tbBroadcast (errs : List (Fin 92 × Int))
  /-- TB_WRAP (R48). The master counter wraps to 0 and sets SYS_TB_STAT.WRAP. -/
  | tbWrap
  /-- TB_TRIM_WRITE (R50). A write to SYS_TB_TRIM sets the rate trim, or is discarded while the timebase follows another wafer. -/
  | tbTrimWrite (r : Req) (data : BitVec 32)
  /-- PPS_EDGE (R51). A rising PPS edge captures the master count and counts, or is ignored as a glitch. -/
  | ppsEdge
  /-- PPS_MISSED (R51). No PPS edge within 1.1 s of the previous one sets MISSED. -/
  | ppsMissed
  /-- TB_REF_LOSS (R54). TB_REF absent for 200 ns or off by more than 1,000 ppm puts the timebase into holdover. -/
  | tbRefLoss
  /-- TB_RELOCK (R54). After TB_REF has been within 100 ppm for 10 ms, the loop relocks without a step and HOLDOVER clears. -/
  | tbRelock
  /-- FLIT_CRC_ERROR (R52). A flit with a CRC error is replayed from the transmit hold buffer. -/
  | flitCrcError (x : Crossing) (g : Fin 10)
  /-- LINK_GROUP_TIMEOUT (R52). A handshake on a link group is unacknowledged for 1 µs and the group fails. -/
  | linkGroupTimeout (x : Crossing) (g : Fin 10)
  /-- SWAP_PAUSE_END (R52). The swap pause ends and in-flight flits are resent in order without loss or duplication. -/
  | swapPauseEnd (x : Crossing)
  /-- THERM_SHUTDOWN (R55). A field at or above CRIT for 10 ms at its floor is powered down and failed. -/
  | thermShutdown (f : FieldId)
  /-- PACE_RANGE (R56). A guarded partition's field outside the operating range for 100 µs signals its checker pair. -/
  | paceRange (p : Part)
  /-- RUN (R74). PAR_CMD RUN moves an ADMITTED partition to RUNNING and seals it. -/
  | run (r : Req) (p : Part) (seq : BitVec 16)
  /-- SUSPEND (R75). PAR_CMD SUSPEND sets BUSY and waits for fences before saving context. -/
  | suspend (r : Req) (p : Part) (seq : BitVec 16)
  /-- SUSPEND_DRAINED (R75). All programs have reached a fence, so streams halt and the context save starts. -/
  | suspendDrained (p : Part)
  /-- SUSP_WAIT_TIMEOUT (R75). SUSP_WAIT elapses before all fences are reached, so streams halt and the save starts. -/
  | suspWaitTimeout (p : Part)
  /-- CONTEXT_SAVE_DONE (R75). The context has been written and sealed and the partition enters SUSPENDED. -/
  | contextSaveDone (p : Part) (ok : Bool)
  /-- RESUME (R77). PAR_CMD RESUME restores the saved context to the same fields and cores. -/
  | resume (r : Req) (p : Part) (seq : BitVec 16)
  /-- CONTEXT_RESTORE_DONE (R77). The context is restored and checked, its pages are freed and the partition is RUNNING. -/
  | contextRestoreDone (p : Part) (ok : Bool)
  /-- STOP (R79). PAR_CMD STOP moves the partition to STOPPED with the effects of R79. -/
  | stop (r : Req) (p : Part) (seq : BitVec 16)
  /-- RESTART (R80). PAR_CMD RESTART stops the partition, discards its state and re-enters LOADING. -/
  | restart (r : Req) (p : Part) (seq : BitVec 16) (keep : Bool)
  /-- ADMIT (R66). Admission of one partition checks its layout, edges and checker, chooses placement and plan, and reserves resources. -/
  | admitPart (p : Part) (inj : Option (Fin 11))
  /-- T2_EXHAUSTED (R71). A T2_SHORT halt lasts T2_WAIT and the partition stops. -/
  | t2Exhausted (p : Part) (f : FieldId)
  /-- T1_EXHAUSTED (R71). A T1_SHORT halt lasts T2_WAIT and the partition stops. -/
  | t1Exhausted (p : Part) (f : FieldId)
  /-- SCALAR_OP (R142). A scalar integer, FP32 or address instruction executes. -/
  | scalarOp (t : Thr) (w : BitVec 59)
  /-- VECTOR_OP (R142). A vector elementwise, reduction or conversion instruction executes. -/
  | vectorOp (t : Thr) (w : BitVec 59)
  /-- BR (R152). Unconditional branch. -/
  | br (t : Thr) (dest : BitVec 13)
  /-- BRC (R152). Conditional branch. -/
  | brc (t : Thr) (w : BitVec 59) (dest : BitVec 13)
  /-- CALL (R152). Subroutine call. -/
  | call (t : Thr) (sd : SReg) (dest : BitVec 13)
  /-- RET (R152). Subroutine return. -/
  | ret (t : Thr) (sa : SReg)
  /-- MMA (R142). Matrix multiply-accumulate into a claimed accumulator bank. -/
  | mma (t : Thr) (bank : Fin 4) (w : BitVec 59)
  /-- ACC_LD (R152). Loads an accumulator bank from local memory. -/
  | accLd (t : Thr) (bank : Fin 4) (addr : BitVec 64)
  /-- ACC_ST (R152). Stores an accumulator bank to local memory. -/
  | accSt (t : Thr) (bank : Fin 4) (addr : BitVec 64)
  /-- ACC_ZERO (R152). Zeroes an accumulator bank. -/
  | accZero (t : Thr) (bank : Fin 4)
  /-- LD (R143). Plain load of local memory, ignoring the F/E bit. -/
  | ld (t : Thr) (lg : Fin 4) (sext : Bool) (sd : SReg) (addr : BitVec 64)
  /-- ST (R143). Plain store to local memory, leaving the F/E bit unchanged. -/
  | st (t : Thr) (lg : Fin 4) (sb : SReg) (addr : BitVec 64)
  /-- LD_V (R143). Vector load of 64 bytes. -/
  | ldV (t : Thr) (vd : VReg) (addr : BitVec 64)
  /-- ST_V (R143). Vector store of 64 bytes. -/
  | stV (t : Thr) (vb : VReg) (addr : BitVec 64)
  /-- LD_HDR (R147). Loads a tile header from the header store into a vector register. -/
  | ldHdr (t : Thr) (vd : VReg) (slot : Fin 32)
  /-- ST_HDR (R585). Writes one header-store slot from a vector register. -/
  | stHdr (t : Thr) (vb : VReg) (slot : Fin 32)
  /-- ILLEGAL_OP (R152). Issue of an unlisted class or reserved encoding faults the thread. -/
  | illegalOp (t : Thr)
  /-- ISTORE_UE (R156). An uncorrectable instruction-store error holds the core and fails it. -/
  | istoreUe (f : FieldId) (m : CoreId)
  /-- THR_START (R154). Starts an IDLE or DONE thread of the core. -/
  | thrStart (t : Thr) (target : ThreadId)
  /-- THR_EXIT (R154). The thread becomes DONE. -/
  | thrExit (t : Thr)
  /-- THR_ID (R152). Returns the thread identity. -/
  | thrId (t : Thr) (sd : SReg)
  /-- CORE_MEM_DATA_WRITE (R161). Debug write of a local memory word, clearing poison, logged. -/
  | coreMemDataWrite (r : Req) (f : FieldId) (m : CoreId) (data : BitVec 64)
  /-- CORE_MEM_FE_WRITE (R161). Debug write of a word's F/E bit; setting it full wakes waiters. -/
  | coreMemFeWrite (r : Req) (f : FieldId) (m : CoreId) (data : BitVec 32)
  /-- LD_FE (R194). F/E load that parks until the word is full and optionally empties it. -/
  | ldFe (t : Thr) (ins : SyncIns)
  /-- ST_FE (R195). Writes the word and sets it full, or faults FE_FULL. -/
  | stFe (t : Thr) (ins : SyncIns)
  /-- LD_PEEK (R196). Returns the word and its F/E bit without waiting. -/
  | ldPeek (t : Thr) (ins : SyncIns)
  /-- FE_CLR (R196). Sets the word empty without reading it. -/
  | feClr (t : Thr) (ins : SyncIns)
  /-- SQ_PUSH (R163). Reads and checks a descriptor batch into an engine batch slot. -/
  | sqPush (t : Thr) (e : Fin 4) (addr : BitVec 64)
  /-- SQ_KICK (R174). Adds one kick to the engine's count. -/
  | sqKick (t : Thr) (e : Fin 4)
  /-- SQ_STAT (R174). Returns the engine's status word. -/
  | sqStat (t : Thr) (e : Fin 4) (sd : SReg)
  /-- SQ_RESUME_REISSUE (R185). SQ.RESUME mode 0 re-issues a halted engine from its cursor. -/
  | sqResumeReissue (t : Thr) (e : Fin 4)
  /-- SQ_RESUME_ABANDON (R185). SQ.RESUME mode 1 abandons the rest of the halted stream. -/
  | sqResumeAbandon (t : Thr) (e : Fin 4)
  /-- TILE_ISSUE (R170). An engine takes its credits and issues the next tile of its descriptors. -/
  | tileIssue (e : Eng)
  /-- TILE_READ_OUT (R171). A tile's bytes have left its source and SIG_SRC is signalled. -/
  | tileReadOut (e : Eng) (n : Fin 4)
  /-- TILE_LANDING (R171). A tile lands, sets its F/E bits full, and signals SIG_DST in issue order. -/
  | tileLanding (e : Eng) (n : Fin 4)
  /-- FENCE (R176). A participating thread arrives at its lane's next fence and parks. -/
  | fence (t : Thr)
  /-- FENCE_COMPLETE (R178). A lane's fence completes, wakes its threads and reports progress to the Residency Engines. -/
  | fenceComplete (p : Part) (g : Fin 16) (l : Fin 4)
  /-- SEAL (R584). TIER SEAL of a logical page returns a status and seals an OPEN page of its engine. -/
  | sealPage (t : Thr) (lpage : BitVec 40)
  /-- PAGE_SEAL_COMMIT (R93). After its writes land, a page seals, VOID tiles are marked and CRCs computed. -/
  | pageSealCommit (p : Part) (lpage : BitVec 40)
  /-- FREE (R584). TIER FREE moves a page to FREEING. -/
  | freePage (t : Thr) (lpage : BitVec 40)
  /-- PAGE_FREE_COMPLETE (R92). A FREEING page with READERS 0 and no mirror returns to FREE. -/
  | pageFreeComplete (p : Part) (tier : Fin 4) (f : FieldId) (idx : BitVec 40)
  /-- FLIP (R583). Requests the flip of a flip group, or returns a refusal status. -/
  | flip (t : Thr) (g : BitVec 16)
  /-- FLIP_COMMIT (R97). All pending pages are sealed and no stream holds the old version, so the group flips. -/
  | flipCommit (p : Part) (g : BitVec 16)
  /-- SCRUB_PASS (R85). The patrol scrubber reads an allocated T2 page and writes corrected data back. -/
  | scrubPass (f : FieldId) (idx : BitVec 40) (ue : Fin 16)
  /-- AGING_BOUNDARY (R103). At each aging boundary the heat engine promotes candidates into mirrors and halves heat. -/
  | agingBoundary (p : Part)
  /-- MIRROR_COMMIT (R104). A mirror copy commits and reads go to the mirror. -/
  | mirrorCommit (p : Part) (lpage : BitVec 40)
  /-- SIG (R198). Adds a count to a sync object, saturating, and serves waiters. -/
  | sig (t : Thr) (ins : SyncIns)
  /-- SEM_ADD (R199). Adds a signed delta to a sync object without waiting. -/
  | semAdd (t : Thr) (ins : SyncIns)
  /-- WAIT (R200). Parks until COUNT ≥ n and optionally takes n. -/
  | wait (t : Thr) (ins : SyncIns)
  /-- BAR_ARRIVE (R213). Counts one arrival of the core toward the barrier's next episode. -/
  | barArrive (t : Thr) (ins : SyncIns)
  /-- BAR_WAIT (R215). Parks until the barrier's generation reaches g. -/
  | barWait (t : Thr) (ins : SyncIns)
  /-- BARRIER_COMPLETE (R214). All arrivals and reports are in, so GEN is incremented and completion broadcast. -/
  | barrierComplete (p : Part) (b : Fin 64)
  /-- DB_SIG (R360). Doorbell SIG to a sync object after the host landing rule. -/
  | dbSig (x : Port) (pf : Fin 5) (slot : Fin 64) (cmd : BitVec 64)
  /-- DB_SEM_ADD (R360). Doorbell SEM.ADD to a sync object. -/
  | dbSemAdd (x : Port) (pf : Fin 5) (slot : Fin 64) (cmd : BitVec 64)
  /-- DB_WAIT (R211). Doorbell WAIT arms a host wait in the pool park table. -/
  | dbWait (x : Port) (pf : Fin 5) (slot : Fin 64) (cmd : BitVec 64)
  /-- DB_CANCEL (R360). Cancels the slot's pending host wait. -/
  | dbCancel (x : Port) (pf : Fin 5) (slot : Fin 64) (cmd : BitVec 64)
  /-- DB_ARRIVE (R360). One host arrival at a barrier. -/
  | dbArrive (x : Port) (pf : Fin 5) (slot : Fin 64) (cmd : BitVec 64)
  /-- LDG_ACC (R233). Accessions a tensor shard into a new Ledger entry, parking if entries or budget are short. -/
  | ldgAcc (t : Thr) (ins : SyncIns)
  /-- LDG_USE (R246). Pins an entry, optionally waiting until READY. -/
  | ldgUse (t : Thr) (ins : SyncIns)
  /-- LDG_REL (R244). Releases uses and deaccessions the entry when USES and DEPS are 0. -/
  | ldgRel (t : Thr) (ins : SyncIns)
  /-- LDG_PROG (R238). Sets the lane's progress mark and triggers re-decisions and a scan. -/
  | ldgProg (t : Thr) (ins : SyncIns)
  /-- POLICY_INVOCATION (R257). The policy unit runs a class's placement program for one pending entry. -/
  | policyInvocation (f : FieldId)
  /-- POLICY_SCAN (R267). Periodic scan of the need list issues call slips for entries whose TTN is within their lead. -/
  | policyScan (f : FieldId)
  /-- LEDGER_MOVE_START (R243). A queued press, spill, fetch or input fetch starts on a shelf engine. -/
  | ledgerMoveStart (f : FieldId)
  /-- SPILL_COMMIT (R239). The last spilled page is sealed and the entry is SPILLED. -/
  | spillCommit (f : FieldId) (n : BitVec 16)
  /-- FETCH_COMMIT (R239). Every fetched tile has landed and been checked; the entry is READY. -/
  | fetchCommit (f : FieldId) (n : BitVec 16)
  /-- PRESS_COMMIT (R305). A press writes its directory and header and the entry enters PRESSED. -/
  | pressCommit (f : FieldId) (n : BitVec 16) (mismatch : Bool)
  /-- SPAN_BEGIN (R277). Hands a span part's arguments to a slot and parks the issuing thread. -/
  | spanBegin (t : Thr) (ins : SyncIns)
  /-- GANG_START (R278). All parts have begun and span threads are IDLE, so the parts start together. -/
  | gangStart (f : FieldId) (n : BitVec 12)
  /-- SPAN_END (R282). Ends a span part; the last end closes the slot or compares replay digests. -/
  | spanEnd (t : Thr) (ins : SyncIns)
  /-- RNG (R285). Writes 512 counter-keyed AES-128 random bits to a vector register. -/
  | rng (t : Thr) (ins : SyncIns)
  /-- REPLAY_START (R288). A queued replay starts its parts on their span threads, or is lost as STALE. -/
  | replayStart (f : FieldId)
  /-- FLASH_READ (R120). A flash die reads, decodes and decrypts a chunk, retrying or reconstructing on failure. -/
  | flashRead (p : Part) (page : BitVec 33) (t : Fin 4) (bits : BitVec 8) (fail : Bool)
  /-- PATROL_READ (R122). The patrol reads one page of a programmed segment and may queue relocation. -/
  | patrolRead (c : Fin 256) (l : BitVec 17) (bits : BitVec 8) (fail : Bool)
  /-- RELOCATION_COMMIT (R121). A relocated segment's map entry switches in one commit. -/
  | relocationCommit (c : Fin 256) (l : BitVec 17)
  /-- SEGMENT_ERASE (R121). An old segment is erased once its reads have completed, retiring it at PE_LIMIT. -/
  | segmentErase (c : Fin 256) (seg : BitVec 17) (ok : Bool)
  /-- TARGET_BUSY_TIMEOUT (R132). A target not ready within BUSY makes its channel SUSPECT or FAILED. -/
  | targetBusyTimeout (c : Fin 256)
  /-- CHANNEL_REBUILD_DONE (R134). A rebuilding channel has every chunk reconstructed and returns to OK. -/
  | channelRebuildDone (c : Fin 256)
  /-- OPEN (R126). Opens a volume as a loading window. -/
  | openVolume (r : Req) (p : Part) (v : Fin 256) (seq : BitVec 16)
  /-- CLOSE (R128). Fills unloaded pages with VOID tiles and programs the remaining parity. -/
  | closeVolume (r : Req) (p : Part) (v : Fin 256) (seq : BitVec 16)
  /-- VOLUME_SEALED (R125). The volume record commits to the journal and the volume is SEALED. -/
  | volumeSealed (p : Part) (v : Fin 256)
  /-- ABANDON (R125). Returns a LOADING volume to FREE. -/
  | abandonVolume (r : Req) (p : Part) (v : Fin 256) (seq : BitVec 16)
  /-- VOLUME_FREE (R125). REPO_CMD FREE moves a SEALED volume to FREEING. -/
  | volumeFree (r : Req) (p : Part) (v : Fin 256) (seq : BitVec 16)
  /-- VOLUME_FREEING_DONE (R125). Reads in flight complete and the volume returns to FREE. -/
  | volumeFreeingDone (p : Part) (v : Fin 256)
  /-- FREE_UNBOUND (R125). Returns an UNBOUND volume to FREE. -/
  | freeUnbound (r : Req) (p : Part) (v : Fin 256) (seq : BitVec 16)
  /-- REPO_LOAD (R127). Appends a run of sealed T2 pages to the open volume. -/
  | repoLoad (r : Req) (p : Part) (src : BitVec 40) (count : BitVec 24) (seq : BitVec 16)
  /-- LOAD_DONE (R127). The run's last page is programmed and LOAD_DONE is set. -/
  | loadDone (p : Part)
  /-- PORT_TRAINED (R320). A Thijolink port completes training and is UP. -/
  | portTrained (n : Tjl) (peerW : Fin 32) (peerP : Tjl) (cluster : BitVec 32) (gen2 : Bool) (lanes : BitVec 16) (flight : BitVec 8) (auth : Bool)
  /-- TRAINING_TIMEOUT (R320). A port not UP within 100 ms stays DOWN. -/
  | trainingTimeout (n : Tjl)
  /-- RESTORE_TIMER (R320). Every RESTORE_S a DOWN or LOST port tries training again. -/
  | restoreTimer (n : Tjl)
  /-- FRAME_RECEIVE (R327). A frame is decoded, authenticated and accepted in LSEQ order, or NAKed or discarded. -/
  | frameReceive (n : Tjl) (ok : Bool) (tagOk : Bool) (hdr : BitVec 256) (body : BitVec 4736)
  /-- NAK (R327). A NAK makes the sender replay from NAKSEQ. -/
  | nak (n : Tjl) (seq : BitVec 16)
  /-- RETRY_BUDGET_EXPIRY (R327). Replays or time without ACK exceed the retry budget and the port retrains. -/
  | retryBudgetExpiry (n : Tjl)
  /-- RETRAIN_DONE (R321). A retrain completes, possibly narrowed, without changing sequences or keys. -/
  | retrainDone (n : Tjl) (lanes : BitVec 16)
  /-- LINK_LOST (R343). A retrain exceeds its budget and the end declares LINK_LOST. -/
  | linkLost (n : Tjl)
  /-- TIE_DATA (R332). A DATA frame's tile bytes are written by the import engines. -/
  | tieData (n : Tjl) (srcw : Fin 32) (spart : Part) (dpart : Part) (dh : BitVec 128) (bytes : List (BitVec 8))
  /-- SIGNAL (R333). A cross-wafer signal is held until its bytes land, then applied or answered DUP. -/
  | signal (n : Tjl) (pkt : BitVec 256)
  /-- SIG_ACK (R334). Completes the sender's signal with its status. -/
  | sigAck (n : Tjl) (tie : BitVec 12) (sseq : BitVec 32) (status : BitVec 8)
  /-- TIE_ACK (R331). Advances the landed prefix and frees export buffer. -/
  | tieAck (n : Tjl) (tie : BitVec 12) (landed : BitVec 64)
  /-- TIE_RESET (R345). Resets or blocks a tie at the receiving end. -/
  | tieReset (n : Tjl) (fromW : Fin 32) (tie : BitVec 12) (reason : Fin 4)
  /-- BAR_UP (R337). A child's completion report in a barrier tree. -/
  | barUp (n : Tjl) (p : Part) (b : Fin 64) (gen : BitVec 16)
  /-- BAR_DOWN (R337). The root's completion travels down the barrier tree. -/
  | barDown (n : Tjl) (p : Part) (b : Fin 64) (gen : BitVec 16) (lost : Bool)
  /-- TS (R339). A timestamp exchange packet is stamped and answered. -/
  | ts (n : Tjl) (answer : Bool) (num : BitVec 16) (t1 : BitVec 64) (t2 : BitVec 64) (t3 : BitVec 64)
  /-- NEGOTIATE (R344). After restoration, sequences, key epoch, landed prefixes and SSEQs are reconciled. -/
  | negotiate (n : Tjl) (epoch : BitVec 8) (ties : List (Nat × Nat × Nat))
  /-- TS_EXCHANGE (R339). Every PERIOD a follower starts a time exchange and adjusts offset and trim. -/
  | tsExchange
  /-- ROUTE_DOWN (R319). A WAITING tie's route has no port UP 100 ms after phase DEVICE. -/
  | routeDown (p : Part) (tie : BitVec 12)
  /-- TJL_RESUME (R344). TJL_PCMD RESUME clears HALT and returns rerouted ties to their primary ports. -/
  | tjlResume (r : Req) (p : Part) (seq : BitVec 16)
  /-- PERST_ASSERT (R369). PERST# asserted fails the host port. -/
  | perstAssert (x : Port)
  /-- PERST_DEASSERT (R352). PERST# deasserted starts link training and readiness. -/
  | perstDeassert (x : Port)
  /-- HOT_RESET (R369). A hot reset or link disable fails the port. -/
  | hotReset (x : Port)
  /-- DL_DOWN (R369). The link enters DL_Down and the DOWN_MS timer starts. -/
  | dlDown (x : Port)
  /-- PORT_FAILED (R369). DL_Down lasts DOWN_MS; staging pages become INVALID and semaphores pass over. -/
  | portFailed (x : Port)
  /-- PORT_UP (R369). A port trains and returns to UP with its functions reset. -/
  | portUp (x : Port) (rate : Fin 3) (width : Fin 17) (flit : Bool)
  /-- HOST_READY (R352). The functions stop answering CRS and answer configuration requests. -/
  | hostReady (x : Port)
  /-- CONFIG_REQUEST (R352). A PCI Express configuration request is answered, with CRS before readiness. -/
  | configRequest (x : Port) (pf : Fin 5) (q : CfgReq)
  /-- BAR4_WRITE (R354). A staging write allocates or lands into an OPEN page, or is discarded. -/
  | bar4Write (x : Port) (pf : Fin 5) (off : BitVec 36) (data : List (Option (BitVec 8)))
  /-- BAR4_READ (R355). A staging read returns a sealed page's bytes or a poisoned completion. -/
  | bar4Read (x : Port) (pf : Fin 5) (off : BitVec 36) (len : Fin 4097)
  /-- STAGING_SEAL (R356). HPT_STG_SEAL seals the port's OPEN staging pages in a range. -/
  | stagingSeal (r : Req) (p : Part) (first : BitVec 20) (count : BitVec 20) (dtype : Fin 16) (seq : BitVec 16)
  /-- STAGING_FREE (R357). HPT_STG_FREE frees sealed or invalid staging pages the port may free. -/
  | stagingFree (r : Req) (p : Part) (first : BitVec 20) (count : BitVec 20) (seq : BitVec 16)
  /-- CLAIM (R365). Claims a host semaphore or restarts its lease. -/
  | claim (r : Req) (n : Fin 16) (seq : BitVec 16)
  /-- RELEASE (R365). The holder releases a host semaphore. -/
  | release (r : Req) (n : Fin 16) (seq : BitVec 16)
  /-- HANDOVER (R365). The holder hands a semaphore to the other port. -/
  | handover (r : Req) (n : Fin 16) (seq : BitVec 16)
  /-- LEASE_LOW (R366). A quarter of the lease is left. -/
  | leaseLow (n : Fin 16)
  /-- LEASE_EXPIRED (R366). The lease runs out and the semaphore becomes FREE. -/
  | leaseExpired (n : Fin 16)
  /-- ENTROPY_HEALTH_FAIL (R372). A continuous entropy test fails and the Security Monitor enters ERROR. -/
  | entropyHealthFail
  /-- UNLOCK (R386). Checks a debug token and unlocks debug with its scope and capabilities. -/
  | unlock (r : Req)
  /-- LOCK (R388). Ends a debug unlock. -/
  | lock (r : Req)
  /-- DEBUG_EXPIRY (R388). The unlock lifetime expires. -/
  | debugExpiry
  /-- ARM (R390). SEC_ZCMD ARM enables a ZERO within 1 ms. -/
  | arm (r : Req)
  /-- ZERO (R390). SEC_ZCMD ZERO after a valid ARM triggers zeroization. -/
  | zero (r : Req) (permanent : Bool)
  /-- TAMPER (R390). TAMPER_N held low for 1 µs triggers zeroization. -/
  | tamper
  /-- SUPPLY_TAMPER (R390). The system-die supply outside its range for 1 µs triggers zeroization. -/
  | supplyTamper
  /-- TEMP_TAMPER (R390). The system-die temperature outside −20 to 125 °C triggers zeroization. -/
  | tempTamper
  /-- PWR_GOOD (R418). PWR_GOOD assertion resets the device and begins power-up. -/
  | pwrGood (cold : Bool) (maddr : Fin 4)
  /-- PWR_GOOD_LOW (R564). PWR_GOOD low for at least 1 µs is a device reset. -/
  | pwrGoodLow
  /-- SYS_RESET (R418). Writing 0x0000_D5E7 to SYS_RESET resets the device. -/
  | sysReset (r : Req)
  /-- TB_LOCK (R405). TB_REF locks, the master counter starts and the leaves are calibrated. -/
  | tbLock
  /-- TB_LOCK_TIMEOUT (R406). TB_REF does not lock within 10 ms and the timebase starts in holdover. -/
  | tbLockTimeout
  /-- SECMON (R372). Self-tests and root key derivation complete. -/
  | secmon (ok : Bool)
  /-- XING (R38). Link-group test and selection on all crossings completes. -/
  | xing (fails : List (Crossing × BitVec 10))
  /-- MEMORY (R406). Supplies rise and tower, shelf and store tests complete. -/
  | memory (badF : BitVec 64) (badT : BitVec 256)
  /-- NTEST (R408). Two rounds of neighbour testing complete. -/
  | ntest (r1 : List (FieldId × Fin 160 × Fin 4)) (r2 : List (FieldId × Fin 160 × Fin 4))
  /-- MAP (R33). Cores are mapped, sentinels calibrated and the governor started. -/
  | map
  /-- SELECT (R410). Headers are read and candidate slots checked in order. -/
  | select (modeA : Fin 4) (modeB : Fin 4) (capA : BitVec 32) (capB : BitVec 32) (busyA : Bool) (busyB : Bool)
  /-- VERIFY (R411). A slot's verification pass completes or refuses it. -/
  | verify
  /-- DEVICE (R405). The device section is read again and applied. -/
  | device
  /-- FLASH (R415). A flash die completes start-up, segment maps and volume bindings. -/
  | flash (d : FlashDie) (good : Bool) (trained : BitVec 16) (empty : BitVec 16) (mirrors : BitVec 2) (mts : BitVec 12) (targets : List (BitVec 8)) (pages : BitVec 14) (segments : BitVec 18)
  /-- LOAD (R412). A partition section is read again and verified. -/
  | load (p : Part) (copyOk : Bool)
  /-- COMPLETE (R416). Start-up completes, device RWL fields seal and BOOT_DONE is sent. -/
  | complete
  /-- NVM_READ_TIMEOUT (R411). An NVM read without completion for 10 ms ends with NVM_ERR. -/
  | nvmReadTimeout (p : Option Part)
  /-- NVM_ERASE (R417). Erases a 64 KiB sector of the inactive slot. -/
  | nvmErase (r : Req) (seq : BitVec 16)
  /-- NVM_PROGRAM (R417). Programs 4 KiB of the inactive slot from the buffer. -/
  | nvmProgram (r : Req) (seq : BitVec 16)
  /-- NVM_READ (R417). Reads 4 KiB of a slot into the buffer. -/
  | nvmRead (r : Req) (seq : BitVec 16)
  /-- NVM_CMD_DONE (R417). An NVM command completes and reports in SYS_NVM_STAT. -/
  | nvmCmdDone (ok : Bool)
  /-- TAP_ITEM (R428). A tap packet reaches the guard die and is taken into its open frame or discarded. -/
  | tapItem (p : Part) (crcOk : Bool) (room : Bool)
  /-- JUDGE_RETURN (R430). JUDGE returns its judgement for a complete frame. -/
  | judgeReturn (p : Part) (verdict : BitVec 8) (ritem : BitVec 16) (checks : BitVec 32) (rlen : BitVec 16) (susp : List (BitVec 16))
  /-- CHK_TIME (R432). JUDGE exceeds its budget and the partition enters SAFE. -/
  | chkTime (p : Part)
  /-- VERDICT_COMMIT (R434). A frame's verdict record commits, after any result delivery. -/
  | verdictCommit (p : Part)
  /-- LOCKSTEP_MISMATCH (R423). A comparator mismatch fails the pair and drives the pins low. -/
  | lockstepMismatch (p : Part)
  /-- CHECKER_PAIR_FAILURE (R423). An uncorrectable checker memory error or a trap fails the pair. -/
  | checkerPairFailure (p : Part)
  /-- PIN_READBACK (R442). Every 1 µs each fault pin's level is compared with its command. -/
  | pinReadback (a : Bool) (b : Bool)
  /-- GRD_TRIP_WRITE (R445). The steward sets or clears TRIP, asserting or releasing the pins. -/
  | grdTripWrite (r : Req) (p : Part) (v : Bool)
  /-- AGE_EXPIRY (R451). A frame reaches its age limit without a verdict and STALE is presented. -/
  | ageExpiry (p : Part) (k : Fin 4)
  /-- WATCH_UPDATE (R452). A watch object update is reported as a kick, an early kick or a sequence loss. -/
  | watchUpdate (p : Part)
  /-- WINDOW_MAX_EXPIRY (R453). No kick by MAX is a window miss and FAIL WDOG. -/
  | windowMaxExpiry (p : Part) (st : Fin 16)
  /-- BUDGET_OVERRUN (R455). A task's busy count exceeds BUDGET. -/
  | budgetOverrun (p : Part) (t : Fin 64)
  /-- TEST_SEGMENT_START (R460). A rotation or extra test segment holds a core. -/
  | testSegmentStart (f : FieldId) (m : CoreId)
  /-- TEST_SEGMENT_END (R457). A segment ends, queued requests are applied and a FAIL is handled. -/
  | testSegmentEnd (f : FieldId) (m : CoreId) (pass : Bool)
  /-- ROTATION_DEADLINE (R461). A core's rotation is incomplete at its deadline and the partition enters SAFE. -/
  | rotationDeadline (f : FieldId) (m : CoreId)
  /-- TB_CHECK (R467). Every 1 ms the guard die compares the timebase with its own clock. -/
  | tbCheck (ppm : BitVec 16)
  /-- INJ_DUE (R470). Hours since injection reach MAX_H and the event is sent. -/
  | injDue (p : Part)
  /-- UNIT_HANDSHAKE_TIMEOUT (R477). A shelf island, Residency Engine or guard die leaves a handshake unacknowledged and fails. -/
  | unitHandshakeTimeout (u : Option FieldId)
  /-- HALT_TIMEOUT (R479). HALT_MS passes before every fence group stops and issue stops at once. -/
  | haltTimeout (p : Part)
  /-- ABORT_COMPLETE (R501). Every commit point of an abort has decided, so the ordering procedure proceeds. -/
  | abortComplete (p : Part)
  /-- TRANSFER_TIMEOUT (R488). A transfer timeout expires, aborting the transfer and halting its stream. -/
  | transferTimeout (e : Eng) (n : Fin 4) (u : UnitRef) (paused : BitVec 64)
  /-- TIMEOUT_HARD_CAP (R487). The hard cap ends a pause and orders the lower level to conclude. -/
  | timeoutHardCap (e : Eng) (n : Fin 4) (l : Lower)
  /-- CAPTURE (R517). CNT_SNAP_CMD schedules a group capture at tick T. -/
  | capture (r : Req) (scope : Fin 4) (p : Part) (f : FieldId) (m : BitVec 8) (first : BitVec 11) (count : Fin 1024) (clear : Bool) (seq : BitVec 16)
  /-- CAPTURE_TICK (R517). Counters are copied, and optionally cleared, when leaves reach T. -/
  | captureTick (r : Req)
  /-- DEADLOCK (R523). A partition quiet for MS fires the detector and takes the waiter graph. -/
  | deadlock (p : Part)
  /-- WAITER_GRAPH_DONE (R524). The waiter-graph capture completes. -/
  | waiterGraphDone (p : Part)
  /-- DL_REARM (R523). Writing 1 to FIRED re-arms the deadlock detector. -/
  | dlRearm (r : Req) (p : Part)
  /-- SO_SET (R527). DBG_SO_SET sets a sync object by hand under unlock and is logged. -/
  | soSet (r : Req) (value : BitVec 32) (live : Bool) (clrSat : Bool) (clrBroken : Bool) (seq : BitVec 16)
  /-- TRACE_START (R529). Starts trace capture. -/
  | traceStart (r : Req)
  /-- TRACE_STOP (R529). Stops trace capture. -/
  | traceStop (r : Req)
  /-- WRITE (R539). Management WRITE of 1–8 register words. -/
  | mgmtWrite (bytes : List (BitVec 8))
  /-- READ (R539). Management READ of 1–8 register words. -/
  | mgmtRead (bytes : List (BitVec 8))
  /-- LAST (R539). Returns the status and sequence of the last management WRITE. -/
  | mgmtLast
  /-- SMB_TIMEOUT (R536). SCL held low for 35 ms discards the transaction. -/
  | smbTimeout
  /-- ALERT_RESPONSE (R536). The device answers the Alert Response Address while ALERT_N is asserted. -/
  | alertResponse
  /-- ENTDAA (R538). I3C dynamic address assignment. -/
  | entdaa (addr : BitVec 7)
  /-- SETDASA (R538). Sets the dynamic address from the static one. -/
  | setdasa (static : BitVec 7) (dyn : BitVec 7)
  /-- RSTDAA (R538). Resets the dynamic address and returns to I2C mode. -/
  | rstdaa
  /-- ENEC (R538). Enables in-band interrupts. -/
  | enec
  /-- DISEC (R538). Disables in-band interrupts. -/
  | disec
  /-- GETPID (R538). Returns the provisioned ID. -/
  | getpid
  /-- GETBCR (R538). Returns BCR. -/
  | getbcr
  /-- GETDCR (R538). Returns DCR. -/
  | getdcr
  /-- GETSTATUS (R538). Returns the target status. -/
  | getstatus
  /-- GETMWL (R538). Returns the maximum write length. -/
  | getmwl
  /-- GETMRL (R538). Returns the maximum read length. -/
  | getmrl
  /-- SETMWL (R538). Sets the maximum write length. -/
  | setmwl (len : BitVec 16)
  /-- SETMRL (R538). Sets the maximum read length. -/
  | setmrl (len : BitVec 16)
  /-- BYPASS (R543). JTAG BYPASS instruction. -/
  | bypass
  /-- IDCODE (R543). JTAG IDCODE instruction. -/
  | idcode
  /-- MBOX (R543). JTAG mailbox to the debug token and command registers. -/
  | mbox (token : BitVec 2560) (cmd : BitVec 32)
  /-- SAMPLE_PRELOAD (R543). JTAG SAMPLE/PRELOAD under the JTAG capability. -/
  | samplePreload (cells : BitVec 16)
  /-- EXTEST (R543). JTAG EXTEST while no partition runs. -/
  | extest
  /-- CLAMP (R543). JTAG CLAMP while no partition runs. -/
  | clamp
  /-- HIGHZ (R543). JTAG HIGHZ while no partition runs. -/
  | highz
  /-- IJTAG (R545). Selects the IEEE 1687 instrument network. -/
  | ijtag (segs : List (Fin 5 × FieldId))
  /-- SYNC_IN (R547). An accepted SBP input edge signals its target pool object. -/
  | syncIn (n : Sbp) (level : Bool)
  /-- TB_OUT (R549). Cluster time reaching a multiple of PERIOD starts a pulse. -/
  | tbOut (n : Sbp)
  /-- TRIG_IN (R550). An accepted input edge starts or stops trace capture. -/
  | trigIn (n : Sbp) (level : Bool)
  /-- PULSE_END (R548). An output pulse's WIDTH expires and the pin returns low. -/
  | pulseEnd (n : Sbp)
  /-- PIN_SWITCH (R552). A write of FUNC or PULL releases the pin and starts the quiet interval. -/
  | pinSwitch (r : Req) (n : Sbp) (func : BitVec 4) (pull : BitVec 2) (edge : BitVec 2) (width : BitVec 16)
  /-- SWITCH_QUIET_END (R552). The quiet interval ends and the new function takes the pin. -/
  | switchQuietEnd (n : Sbp) (level : Bool)
  /-- FEED_LOSS (R559). Loss of one 48 V feed while the other carries the load. -/
  | feedLoss
  /-- REG_FAULT (R561). A field regulator switches its field off and the field fails. -/
  | regFault (f : FieldId)
  /-- DL_UP (R369). A host port's PCI Express link reaches DL_Up, after training or after recovering from DL_Down before DOWN_MS has run out. -/
  | dlUp (x : Port)
  /-- TARGET_READY (R132). A flash target that was issued RESET LUN reports ready, and its SUSPECT channel returns to OK. -/
  | targetReady (c : Fin 256)
  /-- CK_SELF_CHECK (R423). The guard die's start self-check of a checker pair completes and marks the pair OK or FAILED. -/
  | ckSelfCheck (p : Part) (ok : Bool)
  /-- TOWER_CHANNEL_RETRAIN (R477). A tower channel retrains at run time, and a failed retrain fails its tower. -/
  | towerChannelRetrain (f : FieldId) (w : Fin 4) (ok : Bool)
  /-- SYSTEM_DIE_FAILED (R477). An uncorrectable error in the timebase master, the Security Monitor key paths, the pool memory control or the admission logic fails the device, stopping every partition and asserting the fault pins. -/
  | systemDieFailed
  /-- COOL_FAULT (R566). The carrier asserts COOL_FAULT_N when flow stays below 24 L/min, or the inlet stays above 30 °C, for 1 s. -/
  | coolFault
  /-- LEAK (R566). The carrier asserts LEAK_N when its leak sensor under the couplings becomes wet. -/
  | leak
deriving DecidableEq, Repr

end Sys2Proof
end

