-- ==== Sys2Proof/Config.lean ====
section
/-! DEFINITION. What the spec leaves open: free values, with no body, so that no proof can see a number the model chose
(notes/assumptions/). Each is applied to what it may depend on, or to the state's counter of free values. -/

namespace Sys2Proof.Config

/-- The DETAIL of a fault log entry, for the codes whose detail the spec does not lay out (R490), from the facts it is
about. -/
opaque detail : List Nat → Nat

/-- The DATA of a trace record, whose layout within 160 bits the spec does not give (R531), from the kind and facts. -/
opaque traceData : List Nat → Nat

/-- Result of a compute-class instruction whose encoding the manual does not give: destination register (R142). -/
opaque scalarDest : Nat → Nat
/-- Scalar result, from the instruction's bits and the scalar registers (R142). -/
opaque scalarValue : Nat → List Word → Word
/-- Destination of a vector instruction: a vector register below 8, or a scalar register at 8 and above (R142). -/
opaque vectorDest : Nat → Nat
/-- Vector result, from the instruction's bits, the vector registers and the scalar registers (R142). -/
opaque vectorValue : Nat → List Vec → List Word → Vec
/-- Whether a compute-class instruction reads s0, from its bits (R140, R152). -/
opaque readsS0 : Nat → Bool
/-- Whether a conditional branch is taken, from its bits and the scalar registers (R152). -/
opaque branchTaken : Nat → List Word → Bool
/-- One word of an accumulator bank after MMA, from its bits, the word's number, the bank before and the vector
registers (R142). -/
opaque mmaWord : Nat → Nat → List Word → List Vec → Word
/-- The thread identity THR.ID returns, from field, mapped core and thread (R152). -/
opaque threadIdent : Nat → Nat → Nat → Word
/-- The place where a search for a free page begins: the spec names no order of choice (R92). -/
opaque pageStart : Nat → Nat → Nat

/-- A word of a tile that was never written before its page sealed (R93): the spec states no content. -/
opaque voidWord : Nat → Nat → Word

/-- Bytes of a result page after the first RLEN (R435), by draw and word: the spec states no content. -/
opaque resultTail : Nat → Nat → Word

/-- CAUSE of the FAIL record that entry into SAFE commits for a frame that carries no cause (R440), from SAFE's cause. -/
opaque safeCause : Nat → Nat

/-- The bits below PTYPE of a control packet whose layout the spec does not give (R328), from its type and its content. -/
opaque packet : Nat → List Nat → Nat

/-- The trim that alignment steers to, from the present trim and the last offset errors: the filter is not given (R339). -/
opaque trimSteer : Nat → List Int → Nat

/-- TJL_TB_STAT.HOPS: the spec names no source for it (R339); from the time master's number and the time port. -/
opaque timeHops : Nat → Nat → Nat

/-- CODE of the fault log record written at CLOSE, which the table of codes does not list (05_repository.md REPO_VOL_STATE). -/
opaque closeCode : Nat

/-- The Device Serial Number, derived from the fused identity (14_host_ports.md R350). -/
opaque serial : Nat

/-- A doubleword of a function's configuration space whose content this spec leaves to the PCI Express standard (R347), by
function and offset. -/
opaque cfgSpace : Nat → Nat → Nat

/-- SHA-384 of a string of bytes (R371). -/
opaque sha384 : List Nat → Nat

/-- ECDSA P-384 verification (FIPS 186-5): public key bytes, signed digest, signature bytes. -/
opaque sigOk : List Nat → Nat → List Nat → Bool

/-- The digest that an OTP image key slot holds (R371). -/
opaque imgKey : Nat → Nat

/-- The digest that an OTP debug authority slot holds (R371). -/
opaque dbgKey : Nat → Nat

/-- What the DRBG draws, by the count of draws (R371). -/
opaque drbg : Nat → Nat

/-- SHA-384 of the identity public key (SEC_IDPUB, R371). -/
opaque identity : Nat

/-- A byte of a sector or page whose erase or program was interrupted (R511), by draw and address. -/
opaque nvmByte : Nat → Nat → Nat

/-- CODE of a logged register access for which the table of codes lists none (R491): 0 SYS_NVM_BUF written while a command is
PENDING, 1 CORE_MEM_DATA, 2 CORE_MEM_FE, 3 an unknown CODE in SEC_ZCMD, 4 a refused TAP instruction. -/
opaque accessCode : Nat → Nat

/-- How far beyond 2 µs a capture tick lies (R517), by draw. -/
opaque captureDelay : Nat → Nat

/-- SINCE of a waiter whose tick the machine's record does not hold (R524): an engine's kick or flip wait, a held signal. -/
opaque waitTick : Nat → Nat → Nat

/-- SUNIT of an object set by hand through the management interface, which R525 does not number. -/
opaque mgmtUnit : Nat

/-- SUNIT of a signal from an SBP pin, which SYN_FLT does not number. -/
opaque pinUnit : Nat

/-- Whether an island of a register is up before start-up completes, by phase and BAR0 offset (R540): the spec names no phase. -/
opaque islandUp : Nat → Nat → Bool

/-- Bytes that follow a STATUS for which the spec states no data (R539, R540), by draw and place. -/
opaque mgmtByte : Nat → Nat → Nat

/-- What GETSTATUS returns: the layout of the target status is the I3C standard's, by draw. -/
opaque i3cStatus : Nat → Nat

/-- What the boundary cells capture beside SBP0-SBP15, by draw. -/
opaque boundary : Nat → Nat

/-- The level of a pin that no command of this model gives (SBM_DPIN), by pin and tick. -/
opaque pinLevel : Nat → Nat → Bool

end Sys2Proof.Config
end

