-- ==== Sys2Proof/Machine/Store.lean ====
section
/-! DEFINITION. Sparse contents by number, in one canonical form: keys strictly rising, no entry equal to the
value that an unlisted key reads as. Equal contents are then equal data. -/

namespace Sys2Proof.Machine

/-- Contents by key; what an unlisted key reads as is given at each use. -/
abbrev Store (α : Type) := List (Nat × α)

/-- The value at a key, `d` where the key is not listed. -/
def Store.get {α : Type} (d : α) : Store α → Nat → α
  | [], _ => d
  | (k', v) :: r, k => if k = k' then v else Store.get d r k

/-- The key removed. -/
def Store.del {α : Type} (m : Store α) (k : Nat) : Store α := m.filter fun e => decide (e.1 ≠ k)

/-- The key listed with a value. -/
def Store.ins {α : Type} : Store α → Nat → α → Store α
  | [], k, v => [(k, v)]
  | (k', v') :: r, k, v =>
    if k = k' then (k, v) :: r
    else if k < k' then (k, v) :: (k', v') :: r
    else (k', v') :: Store.ins r k v

/-- The write of one key: listed, or removed where the value is what an unlisted key reads as. -/
def Store.set {α : Type} [DecidableEq α] (d : α) (m : Store α) (k : Nat) (v : α) : Store α :=
  if v = d then Store.del m k else Store.ins m k v

/-- One key changed by a function of its value. -/
def Store.upd {α : Type} [DecidableEq α] (d : α) (m : Store α) (k : Nat) (f : α → α) : Store α :=
  Store.set d m k (f (Store.get d m k))

/-- Every key of a list is above `n` and rising, and no value is `d`. -/
def Store.wfFrom {α : Type} [DecidableEq α] (d : α) : Nat → Store α → Bool
  | _, [] => true
  | n, (k, v) :: r => decide (n ≤ k) && decide (v ≠ d) && Store.wfFrom d (k + 1) r

/-- The canonical form. -/
def Store.wf {α : Type} [DecidableEq α] (d : α) (m : Store α) : Bool := Store.wfFrom d 0 m

/-- The entries whose key passes a test. -/
def Store.keep {α : Type} (p : Nat → Bool) (m : Store α) : Store α := m.filter fun e => p e.1

/-- The entries whose key and value pass a test. -/
def Store.sel {α : Type} (p : Nat → α → Bool) (m : Store α) : Store α := m.filter fun e => p e.1 e.2

/-- How many entries pass a test. -/
def Store.count {α : Type} (p : Nat → α → Bool) (m : Store α) : Nat := (Store.sel p m).length

/-- Every listed value changed by a function of key and value, in canonical form. -/
def Store.mapAll {α : Type} [DecidableEq α] (d : α) (f : Nat → α → α) (m : Store α) : Store α :=
  (m.map fun e => (e.1, f e.1 e.2)).filter fun e => decide (e.2 ≠ d)

/-- Bytes `a` to below `b` of a list. -/
def slice (l : List Nat) (a b : Nat) : List Nat := (l.drop a).take (b - a)

/-- An element put in its place in an ordered list. -/
def insertBy {α : Type} (le : α → α → Bool) (x : α) : List α → List α
  | [] => [x]
  | y :: r => if le x y then x :: y :: r else y :: insertBy le x r

/-- A list in order; equal elements keep their order. -/
def sortBy {α : Type} (le : α → α → Bool) (l : List α) : List α := l.foldr (insertBy le) []

end Sys2Proof.Machine
end

