-- ==== Sys2Proof/Machine/Types.lean ====
section
/-! DEFINITION. The data the state is made of, chapter by chapter. Keys of the sparse contents are numbers built by
the functions of Machine/Keys.lean. -/

namespace Sys2Proof.Machine

/-! ### 08_synchronisation.md, 06_cores_threads.md: words, threads, objects -/

/-- A memory word: 64 data bits, its full/empty bit, and whether an uncorrectable error has poisoned it (R84). -/
structure MWord where
  data : Word
  full : Bool
  poison : Bool
deriving DecidableEq, Repr

/-- The thread states, numbered as CORE_THR_STATE shows them (R139). -/
inductive ThrSt where
  | idle | ready | parked | held | faulted | done
deriving DecidableEq, Repr

/-- A thread's context beside its registers: state, program counter, the state a hold put aside (R157), the tick of
its last issue (R141). -/
structure Thread where
  st : ThrSt
  pc : Nat
  prev : ThrSt
  issued : Nat
deriving DecidableEq, Repr

/-- A held signal of a landing counter: source engine (its number plus 1), count, announced bytes (R207). -/
structure Held where
  src : Nat
  n : Nat
  bytes : Nat
deriving DecidableEq, Repr

/-- The last signaller of an object, for the debug view (21_counters_debug.md R527). -/
structure Signaller where
  field : Nat
  core : Nat
  unit : Nat
  op : Nat
  tick : Nat
deriving DecidableEq, Repr

/-- A sync object (R189) with its landing counter (R207). -/
structure SyncObj where
  count : Nat
  sat : Bool
  broken : Bool
  live : Bool
  landed : Nat
  src : Nat
  held : List Held
  last : Option Signaller
deriving DecidableEq, Repr

/-- Who waits: a thread (its number), an engine's take, or a doorbell slot of a function (R202, R211). -/
inductive Who where
  | thread (k : Nat)
  | engine (k : Nat)
  | host (pf slot : Nat)
deriving DecidableEq, Repr

/-- What a parked poll waits on (CORE_THR_INFO.PARK_KIND). -/
inductive Target where
  | word (k : Nat)
  | obj (k : Nat)
  | fence (p g l : Nat)
  | barrier (p b g : Nat)
  | accession (f : Nat)
  | entry (f n : Nat)
  | slot (p n : Nat)
deriving DecidableEq, Repr

/-- A parked poll (R202): `take` for take-mode, consume-mode and engine takes; `sd` the register that receives data;
`ref` the reference or instruction detail its completion needs. -/
structure Park where
  who : Who
  tgt : Target
  take : Bool
  n : Nat
  tag : Nat
  since : Nat
  sd : Nat
deriving DecidableEq, Repr

/-- One barrier's episode state (R213, R214): generation, status of the last episode, arrivals of each core toward
GEN+1 and GEN+2, host arrivals ahead, wafers that reported toward GEN+1 (bit mask), whether the parent was told. -/
structure BarSt where
  gen : Nat
  status : Nat
  arr : Store Nat
  host : Nat
  wafers : Nat
  lost : Bool
  told : Bool
deriving DecidableEq, Repr

/-! ### 07_streams_fences.md: descriptors and engines -/

/-- A stream descriptor (R165). -/
structure Desc where
  op : Nat
  fin : Bool
  seals : Bool
  wgt : Bool
  xf : Bool
  gate : Bool
  lane : Nat
  tiles : Nat
  sbufs : Nat
  dbufs : Nat
  src : Nat
  dst : Nat
  takeSrc : Nat
  takeDst : Nat
  sigDst : Nat
  sigSrc : Nat
deriving DecidableEq, Repr

/-- A descriptor an engine has accepted: the slot and place it came from, tiles issued and retired in order, and
which of the next tile's conditions are met already (gate, TAKE_SRC, TAKE_DST), and the tick of its first tile's issue (R262). -/
structure Work where
  slot : Nat
  idx : Nat
  d : Desc
  issued : Nat
  retired : Nat
  gated : Bool
  gotSrc : Bool
  gotDst : Bool
  first : Nat
deriving DecidableEq, Repr

/-- The states of a tile in flight: issued, its bytes read out, landed (its signal due in order), failed. -/
inductive FlightSt where
  | issued | out | landed | failed
deriving DecidableEq, Repr

/-- A tile in flight (R170, R171): its descriptor's slot and place, tile number, whether SIG_SRC
has been delivered, page it reads (counted in READERS),
page it writes, tick of acceptance, and what was read out: header and payload words. -/
structure Flight where
  slot : Nat
  idx : Nat
  tile : Nat
  st : FlightSt
  sig : Bool
  rpage : Option Nat
  wpage : Option Nat
  since : Nat
  hdr : Nat
  data : Store Word
deriving DecidableEq, Repr

/-- Why an engine has halted, with the cause code of CORE_SQ_STAT and the page concerned (R185). -/
structure Halt where
  cause : Nat
  since : Nat
  lpage : Nat
deriving DecidableEq, Repr

/-- What an engine waits on beside takes and kicks: a flip (R98), a Ledger entry (R230), injection or READERS. -/
inductive EngWait where
  | none
  | flip (g : Nat)
  | entry (f n : Nat)
  | back
deriving DecidableEq, Repr

/-- A stream engine (R162): accepted descriptors in order, tiles in flight in issue order, kick count, halt, the
cursor last saved, and the flip versions its stream holds (group numbers, R98). -/
structure Engine where
  work : List Work
  flight : List Flight
  kicks : Nat
  halt : Option Halt
  cursor : Nat
  groups : List Nat
  wait : EngWait
deriving DecidableEq, Repr

/-- A lane of a fence group (R176-R181): threads arrived, whether the fence before was marked late, pages hinted since. -/
structure LaneSt where
  arrived : List Nat
  late : Bool
  hinted : List Nat
deriving DecidableEq, Repr

/-! ### 04_memory_tiers.md: pages -/

/-- The page states, in the numbering of R88. -/
inductive PgSt where
  | free | opened | sealed | freeing | invalid
deriving DecidableEq, Repr

/-- The recorded writer of a page (R92): a stream engine, a host port's staging path, the guard die, the heat engine,
or the import engine of a tie (R332). -/
inductive Writer where
  | none
  | engine (k : Nat)
  | port (x : Nat)
  | guard
  | heat
  | link (k : Nat)
deriving DecidableEq, Repr

/-- A physical page: state, class (R89), partition, logical page, the pool it counts against (T1: its class, or the
Ledger budget; T2: the declared pages, the staging sub-reservation, the context area, the spill reserve, the heat pool,
or pages held after a stop), recorded writer, reads in flight, tiles written (bit mask), the thread plus 1 that waits
for its seal, seal requested, whether a sealed region encrypts it (15_security.md R376). -/
structure Page where
  st : PgSt
  cls : Nat
  part : Nat
  lpage : Nat
  pool : Nat
  writer : Writer
  readers : Nat
  written : Nat
  sealer : Nat
  sealReq : Bool
  region : Bool
deriving DecidableEq, Repr

/-- A page directory entry (R583, R104): current and pending page, mirror, the mirror copy in progress (its page, the page it reads), heat. -/
structure DirEnt where
  cur : Option Nat
  pend : Option Nat
  mirror : Option Nat
  copy : Option (Nat × Nat)
  heat : Nat
deriving DecidableEq, Repr

/-- A checkpoint version of a flip group (R97): partition, group, and its (logical, physical) pages. -/
structure Ckpt where
  part : Nat
  group : Nat
  pages : List (Nat × Nat)
deriving DecidableEq, Repr

/-- A flip that waits for its condition: partition, group, the thread that asked (R98). -/
structure FlipReq where
  part : Nat
  group : Nat
  thr : Nat
deriving DecidableEq, Repr

/-! ### 09_ledger.md, 10_policy_fetchback.md -/

/-- A Ledger entry (R228), with what its record does not show: tiles of the plain form that have landed (bit mask), the
state its spill began in, whether emergency spill leaves it until the lane's next fence (R251), the tick of its first
late use, whether that use is still unserved, the size ratio of its last cupping pass, coded bytes and coding table use
are held with the pressed form (12_compression.md). -/
structure Entry where
  st : Nat
  action : Nat
  gen : Nat
  cls : Nat
  lane : Nat
  grp : Nat
  uses : Nat
  users : Nat
  deps : Nat
  tiles : Nat
  span : Nat
  lpage : Nat
  slip : Bool
  late : Bool
  emerg : Bool
  lost : Bool
  ctab : Nat
  spages : Nat
  spage : Nat
  needF : Nat
  needM : Nat
  lastTk : Nat
  step : Nat
  landed : Nat
  from_ : Nat
  spared : Bool
  lateAt : Nat
  ratio : Nat
  stiles : Nat
  tcode : Nat
deriving DecidableEq, Repr

/-- The classes of queued moves, in the order of R243. -/
inductive MoveKind where
  | slip | input | emerg | spill | press
deriving DecidableEq, Repr

/-- A queued or started move of a field's Residency Engine: entry, class, whether it has started, the shelf engines
that carry it, tiles still to land and in all, tick it was queued, whether it is a demand slip (R268), and for a press
the first logical page kept for its pressed form, the stream bytes coded so far and its table slot. -/
structure Move where
  f : Nat
  n : Nat
  kind : MoveKind
  started : Bool
  codec : Bool
  left : Nat
  total : Nat
  first : Nat
  demand : Bool
  page : Nat
  len : Nat
  table : Nat
deriving DecidableEq, Repr

/-- A pending invocation of the policy unit: field, entry, reason (R257, R260). -/
structure Invoc where
  f : Nat
  n : Nat
  reason : Nat
deriving DecidableEq, Repr

/-! ### 11_replay.md -/

/-- A part of a span execution: its number, the thread that began it, s1-s15, the register for the slot number, whether
it has ended (R277, R282). -/
structure PartRun where
  part : Nat
  thr : Nat
  frame : List Word
  sd : Nat
  ended : Bool
deriving DecidableEq, Repr

/-- A replay-span slot (R275): header, part frames; digests of the present run, the outputs under replay, LDG.ACCs made
so far in this run, whether its parts have started, the tick since which it waits for its span threads. -/
structure Slot where
  st : Nat
  sid : Nat
  step : Nat
  beginTk : Nat
  spanTk : Nat
  ins : List Nat
  outs : List Nat
  digs : List Nat
  cur : List Nat
  live : Nat
  wgt : Bool
  stale : Bool
  broken : Bool
  runs : List PartRun
  redo : List Nat
  accs : Nat
  going : Bool
  since : Nat
deriving DecidableEq, Repr

/-! ### 19_failures.md: the fault log -/

/-- A fault log entry (R490). -/
structure LogEnt where
  detail : Nat
  tick : Nat
  dseq : Nat
  pseq : Nat
  block : Nat
  code : Nat
  die : Nat
  unit : Nat
  sunit : Nat
  part : Nat
  dev : Bool
  cls : Nat
  rep : Nat
deriving DecidableEq, Repr

/-- An error to be logged: what R490 records of it, and the partitions whose rings take it (none: device scope). -/
structure Err where
  block : Nat
  code : Nat
  die : Nat := 0xFF
  unit : Nat := 0xFF
  sunit : Nat := 0
  parts : List Nat := []
  cls : Nat
  detail : Nat := 0
deriving DecidableEq, Repr

/-- Where a request on an object comes from (SYN_FLT.SFIELD, SCORE, SUNIT): its partition, field, core, unit, and
whether it has a core of its own (R166). -/
structure Source where
  part : Nat
  field : Nat
  core : Nat
  unit : Nat
  own : Bool
deriving DecidableEq, Repr

/-- A partition's part of the state that no register shows: start epoch (R501), the section digest kept (R374), whether
CHECKPOINT pages are held (R79), ticks at which recovery restarts began (R481), tick of the last entry into RUNNING,
whether the restart in progress keeps pages (R81), whether a unit failed while SUSPENDED, whether a halt is in progress
(R479), tick at which SUSPEND or the halt began, fields below T2_LOW (R71), fence groups that have stopped (R479),
whether issue has stopped in every core, what follows once the abort has decided (R501: 0 nothing, 1 recovery, 2 the
RESTART ordered, 3 re-admission in place), the fields and cores (by number) to remap, VERIFY_FAIL ticks by field (R478),
fields whose presses are declined with VERIFY; whether its RWL fields are sealed (R17); the function (its number plus 1)
that a PENDING command came from; the step of a SUSPEND or RESUME (1 waits for fences, 2 saves, 3 restores); a RESTART
that waits for LOADING to end (1, with KEEP 2); whether its section is loaded; whether the restart in progress is a
recovery; whether KEEP was denied. -/
structure PartSt where
  epoch : Nat
  digest : Nat
  held : Bool
  restarts : List Nat
  since : Nat
  keep : Bool
  recover : Bool
  halting : Bool
  began : Nat
  low : List Nat
  stopped : List Nat
  frozen : Bool
  next : Nat
  lost : List Nat
  verify : List (Nat × Nat)
  noPress : List Nat
  isSealed : Bool
  cmd : Nat
  save : Nat
  after : Nat
  loaded : Bool
  recovering : Bool
  denied : Bool
deriving DecidableEq, Repr

/-! ### 17_guard_checker.md, 18_guard_timing.md -/

/-- An item tapped for a frame (R426): its watch point, header and payload. -/
structure Item where
  wp : Nat
  hdr : Nat
  data : Store Word
deriving DecidableEq, Repr

/-- A judgement (R430). -/
structure Judged where
  verdict : Nat
  ritem : Nat
  checks : Nat
  rlen : Nat
  susp : List Nat
deriving DecidableEq, Repr

/-- An open frame (R428): its number, ingress tick, items in arrival order, samples dropped, the cause presented for it
(0 none), the tick plus 1 at which JUDGE was called, its judgement. -/
structure Frame where
  num : Nat
  ingress : Nat
  items : List Item
  dropped : Nat
  mark : Nat
  called : Nat
  judged : Option Judged
deriving DecidableEq, Repr

/-- A window of a stage for a frame (R453): partition, stage, frame, tick of the opening, whether its kick can still come in
time, whether a segment has started in its critical window, and whether the kick has come; the critical window runs from the
opening, the kick notwithstanding (R448, R460). -/
structure Window where
  part : Nat
  stage : Nat
  frame : Nat
  since : Nat
  open_ : Bool
  tested : Bool
  kicked : Bool
deriving DecidableEq, Repr

/-- The rotation of a core (R459-R463): segments passed, deadline, tick its last segment ended, segment running plus 1,
its tester (a physical core), whether that is an extra segment, whether an extra segment is due, whether it has been
urgent; after a FAIL, the step of R463 (1 the repeat runs, 2 this core is tested as a tester, 3 a spare that tested it is)
and the testers tried; segments that a hardware error report still asks for (R478). -/
structure CoreTest where
  pos : Nat
  deadline : Nat
  last : Nat
  seg : Nat
  tester : Nat
  extra : Bool
  due : Bool
  urgent : Bool
  step : Nat
  tried : List Nat
  report : Nat
deriving DecidableEq, Repr

/-- An update of a watch object that the pool memory reports to the guard die (R452): partition, stage, COUNT after it,
whether it was a SIG of count 1 from a core, its tick. -/
structure WatchRep where
  part : Nat
  stage : Nat
  count : Nat
  kick : Bool
  tick : Nat
deriving DecidableEq, Repr

/-- A tap packet on its way to the guard die (R424): partition, watch point, header and payload of the tile. -/
structure Tap where
  part : Nat
  wp : Nat
  hdr : Nat
  data : Store Word
deriving DecidableEq, Repr

/-- A group capture that waits for its tick (R517): requester, scope, target, first index, count, CLEAR, capture tick,
sequence. -/
structure Snap where
  key : Nat
  scope : Nat
  tgt : Nat
  first : Nat
  count : Nat
  clear : Bool
  tick : Nat
  seq : Nat
deriving DecidableEq, Repr

/-- What waits at a held core's router (R457): a tile's read-out or landing, a signal (whom its status is owed to, object,
count or delta), a posted signal, a cross-wafer signal of an import. -/
inductive HeldKind where
  | readOut (e : Eng) (n : Fin 4)
  | landing (e : Eng) (n : Fin 4)
  | signal (owner : Nat) (bell : Option (Nat × Nat)) (obj : Nat) (n : Int) (sem : Bool) (src : Source)
  | posted (obj eng : Nat) (src : Source)
  | remote (imp sseq obj n op : Nat) (src : Source)
deriving DecidableEq, Repr

/-- A request queued at the router of a held core. -/
structure HeldReq where
  core : Nat
  since : Nat
  kind : HeldKind
deriving DecidableEq, Repr

/-- An ingress whose frame waits for an open frame to close (R450): frame, ingress tick, host port, doorbell slot,
object, count. -/
structure Ingress where
  part : Nat
  frame : Nat
  tick : Nat
  port : Nat
  slot : Nat
  obj : Nat
  n : Nat
deriving DecidableEq, Repr

/-! ### 14_host_ports.md: requests from hosts -/

/-- A doorbell slot (R359): DB_ARG, the record's sequence, state, DUP bit and status, DB_TICK, the port of the request, the vector
it sends at its end (0 none), its operation. -/
structure Bell where
  arg : Nat
  seq : Nat
  state : Nat
  dup : Bool
  status : Nat
  tick : Nat
  port : Nat
  vec : Nat
  op : Nat
deriving DecidableEq, Repr

/-- A host semaphore (R365): holder (0 free, 1 HPA, 2 HPB), generation, tick its lease started, whether LEASE_LOW was sent. -/
structure Hsem where
  holder : Nat
  gen : Nat
  start : Nat
  low : Bool
deriving DecidableEq, Repr

/-- The record of one port's requests to a semaphore (HSEM_STAT). -/
structure HsemReq where
  seq : Nat
  dup : Bool
  result : Nat
deriving DecidableEq, Repr

/-- One MSI-X table entry and its pending bit (R362). -/
structure Msix where
  addr : Nat
  data : Nat
  ctrl : Nat
  pend : Bool
deriving DecidableEq, Repr

/-- A function's power state, enables and BAR assignments (R347, R350, R351), from its configuration space. -/
structure Func where
  d3 : Bool
  msixEn : Bool
  maskAll : Bool
  bar0 : Nat
  bar2 : Nat
  bar4 : Nat
deriving DecidableEq, Repr

/-! ### 13_thijolink.md -/

/-- A numbered or waiting frame of a port (R324, R326): its LSEQ, type (1 DATA, 2 CTRL), virtual channel, source wafer, number of
packets, target wafer, partitions, and its body: packets of a CTRL frame, or the data header and the data bytes of a DATA frame. -/
structure LFrame where
  lseq : Nat
  kind : Nat
  vc : Nat
  src : Nat
  npkt : Nat
  dst : Nat
  spart : Nat
  dpart : Nat
  body : List Nat
deriving DecidableEq, Repr

/-- A port direction (R325-R327, R340): next LSEQ to send and LSEQ expected, replay buffer, frames that wait for a credit
or a place in it, credits and round-robin quotas, replays since ACK advanced and the tick it last did, key epoch, frames
built in the epoch, key epoch of the frames that arrive, numbered frames accepted in it, ticks of failed tags, whether it
has been UP and whether it was lost, tick of its next training. -/
structure LPort where
  next : Nat
  expect : Nat
  replay : List LFrame
  wait : List LFrame
  cred : List Nat
  quota : List Nat
  tries : Nat
  since : Nat
  epoch : Nat
  built : Nat
  inEpoch : Nat
  taken : Nat
  bad : List Nat
  lost : Bool
  began : Nat
deriving DecidableEq, Repr

/-- A cross-wafer signal (R329): sequence, whom its status is owed to (0 nobody, thread number plus 1, or a doorbell
slot), target reference, operation, value, announced bytes, source, urgency, port it was sent over plus 1. -/
structure XSig where
  sseq : Nat
  owner : Nat
  bell : Option (Nat × Nat)
  target : Nat
  op : Nat
  value : Nat
  ac : Nat
  field : Nat
  core : Nat
  unit : Nat
  urgent : Bool
  port : Nat
deriving DecidableEq, Repr

/-- A tile in an export buffer (R331): stream offset, index in the remote range, SEAL, header and payload bytes. -/
structure XTile where
  off : Nat
  tix : Nat
  toSeal : Bool
  bytes : List Nat
deriving DecidableEq, Repr

/-- A tie at its source (R316, R319, R331-R335): source partition, state, port plus 1, bytes accepted, prefix landed,
SSEQ last sent and last applied, tiles held, bytes put into frames, signals outstanding, signals that wait, whether it
has been UP, whether it returns to its primary port once its tiles are acknowledged (R344). -/
structure TieOut where
  part : Nat
  st : Nat
  port : Nat
  acc : Nat
  landed : Nat
  sent : Nat
  applied : Nat
  tiles : List XTile
  pos : Nat
  outst : List XSig
  queue : List XSig
  up : Bool
  home : Bool
deriving DecidableEq, Repr

/-- A tie at its target (R332-R334): landed prefix, highest applied SSEQ, applied SSEQs within the window, held signals in
arrival order, tiles landed since the last TIE_ACK, the port plus 1 it arrives on, the prefix last acknowledged and when, the bytes of
the tile that is arriving. -/
structure TieIn where
  landed : Nat
  applied : Nat
  seen : List Nat
  held : List XSig
  tiles : Nat
  port : Nat
  told : Nat
  toldAt : Nat
  bytes : List Nat
deriving DecidableEq, Repr

/-! ### 05_repository.md -/

/-- A volume (R125, R126, R130): state (0 FREE, 1 LOADING, 2 SEALED, 3 FREEING, 4 UNBOUND), base page, length, pages loaded,
THIN, the dies of its share binding as a mask, whether its CLOSE is PENDING. -/
structure Vol where
  st : Nat
  base : Nat
  len : Nat
  loaded : Nat
  thin : Bool
  dies : Nat
  closing : Bool
deriving DecidableEq, Repr

/-- A physical segment of a channel (R117, R121-R123): 0 erased, 1 programmed, 2 left by a relocation or a freed volume and
not yet erased, 3 retired; erase count, reads since it was programmed. -/
structure Seg where
  st : Nat
  erases : Nat
  reads : Nat
deriving DecidableEq, Repr

/-- A flash channel (R132): ticks of its uncorrectable chunks within 1 s, the tick plus 1 at which it was last SUSPECT, whether a
RESET LUN is outstanding. -/
structure Chan where
  bad : List Nat
  suspect : Nat
  reset : Bool
deriving DecidableEq, Repr

/-- A run of pages to load (R127): partition, first source page, pages, sequence, port and function. -/
structure LoadRun where
  part : Nat
  src : Nat
  count : Nat
  seq : Nat
  port : Nat
  pf : Nat
deriving DecidableEq, Repr

/-! ### 15_security.md, 16_image_startup.md -/

/-- An entry of the section table (R397). -/
structure SectEnt where
  typ : Nat
  part : Nat
  off : Nat
  len : Nat
  digest : Nat
deriving DecidableEq, Repr

/-- A command of the configuration NVM in progress (R417): 1 ERASE, 2 PROGRAM, 3 READ, its slot (0 A, 1 B) and address, and
the port, function and sequence it came with. -/
structure NvmCmd where
  op : Nat
  slot : Nat
  addr : Nat
  port : Nat
  pf : Nat
  seq : Nat
deriving DecidableEq, Repr

/-- What leaves the device: vectors, data of reads, completions, Thijolink frames, levels of output pins (0-15 SBP, 16 FAULT_A_N,
17 FAULT_B_N, 18 REG_FAULT_N, 19 COOL_FAULT_N, 20 LEAK_N) and released drivers, bytes of the management interface, in-band
interrupts, what the TAP has captured. -/
inductive Out where
  | msix (x pf v : Nat)
  | read (r : Req) (off : Nat) (data : Nat)
  | completion (x : Nat) (bytes : List Nat) (poisoned : Bool)
  | config (x pf : Nat) (crs : Bool) (data : Nat)
  | frame (port kind : Nat) (words : List Nat)
  | pin (n : Nat) (level : Bool)
  | release (n : Nat)
  | mgmt (bytes : List Nat)
  | ibi (payload : Nat)
  | jtag (instr bits : Nat)
deriving DecidableEq, Repr

end Sys2Proof.Machine
end

