-- ==== Sys2Proof/Machine/Image.lean ====
section
/-! DEFINITION. The Zhevorn image as the device reads it: the records of the device section and of a partition section
(16_image_startup.md R395-R404, R586-R588, and the chapters that decide each record). -/

namespace Sys2Proof.Machine

/-- A range of a page directory (R586). `init` holds the payload words of the range where it has initial content. -/
structure Range where
  lbase : Nat
  pages : Nat
  tier : Nat
  cls : Nat
  pin : Bool
  spread : Bool
  field : Nat
  fields : Nat
  group : Option Nat
  t1class : Nat
  dtype : Nat
  pbase : Nat
  hasInit : Bool
  init : Store Word
deriving DecidableEq, Repr

/-- A page directory (R586). -/
structure PageDir where
  groups : Nat
  ranges : List Range
deriving DecidableEq, Repr

/-- The per-field record of a plan (R587). -/
structure FieldPlan where
  t1ldg : Nat
  t1cls : List Nat
  t2 : Nat
  t2heat : Nat
  ledger : Nat
  replay : Nat
  lbase : Nat
  lpages : Nat
  sbase : Nat
  spages : Nat
deriving DecidableEq, Repr

/-- A plan (R587): reservations, T1 class kinds, seeds of the estimates, policy program words and class records. -/
structure Plan where
  t3 : Nat
  syncBlocks : Nat
  netShare : Nat
  t1kinds : List Nat
  seedT2r : Nat
  seedT2w : Nat
  seedPress : Nat
  seedDec : Nat
  seedTf : Nat
  fields : Store FieldPlan
  prog : List Nat
  pclass : List (List Nat)
deriving DecidableEq, Repr

/-- A placement (R401). -/
structure Placement where
  ffail : Nat
  tfail : Nat
  main : Nat
  tight : Option Nat
  coremap : Nat
  pagedir : Nat
deriving DecidableEq, Repr

/-- A thread that a program declares: entry point, AUTO, claimed accumulator banks (R138, R139). -/
structure ThreadDecl where
  t : Nat
  entry : Nat
  auto : Bool
  banks : Nat
deriving DecidableEq, Repr

/-- A program (R138, R146, R148, R273): threads, handler fault word, replay-span threads, instruction words, initial
local words, header slots and local sync object counts. -/
structure Program where
  threads : List ThreadDecl
  handler : Option Nat
  spans : List Nat
  istore : Store Word
  mem : List (Nat × Word)
  hdrs : List (Nat × Nat)
  objs : List (Nat × Nat)
deriving DecidableEq, Repr

/-- A core map entry: field, mapped core, PROGRAM instance (R401). -/
structure CoreMapEnt where
  f : Nat
  m : Nat
  prog : Nat
deriving DecidableEq, Repr

/-- A barrier definition (R212). `cores` and `fields` and `wafers` are bit masks; `percore` counts arrivals. -/
structure BarDef where
  num : Nat
  wafers : Nat
  fields : Nat
  cores : Nat
  percore : Nat
  host : Bool
deriving DecidableEq, Repr

/-- The SYNC record (R400): pool initial counts, barriers, urgent sources, route set. -/
structure SyncRec where
  pool : List (Nat × Nat)
  bars : List BarDef
  urgent : List (Nat × Nat)
  route : List Nat
deriving DecidableEq, Repr

/-- A participant of a fence group: core, thread, lane (R176). -/
structure Member where
  f : Nat
  m : Nat
  t : Nat
  lane : Nat
deriving DecidableEq, Repr

/-- A fence group (R176). -/
structure Group where
  g : Nat
  lanes : Nat
  members : List Member
deriving DecidableEq, Repr

/-- A register setting (R403). -/
structure Setting where
  off : Nat
  mask : Nat
  value : Nat
  flags : Nat
deriving DecidableEq, Repr

/-- A tie of the partition (R316): number, target wafer and partition, remote range of logical pages, first logical
page at the target. -/
structure Tie where
  num : Nat
  wafer : Nat
  part : Nat
  lbase : Nat
  pages : Nat
  tbase : Nat
deriving DecidableEq, Repr

/-- An import (R316, R318): source wafer and partition, tie number, target page base, tile count. -/
structure Import where
  srcw : Nat
  srcp : Nat
  tie : Nat
  tbase : Nat
  tiles : Nat
deriving DecidableEq, Repr

/-- An export object (R317): pool index, tie, sync reference on the target wafer. -/
structure Export where
  pool : Nat
  tie : Nat
  ref : Nat
deriving DecidableEq, Repr

/-- A barrier's tree edges on this wafer (R337): port toward the parent, ports toward the children. -/
structure BarTree where
  bar : Nat
  parent : Option Nat
  children : List Nat
deriving DecidableEq, Repr

/-- The LINKS record (R400). -/
structure Links where
  ties : List Tie
  imports : List Import
  exports : List Export
  trees : List BarTree
deriving DecidableEq, Repr

/-- A part of a span (R273). -/
structure SpanPart where
  priv : Nat
  core : Nat
  thread : Nat
  pc : Nat
  scrLen : Nat
  scrBase : Nat
deriving DecidableEq, Repr

/-- A span of the span table (R273). -/
structure SpanDef where
  sid : Nat
  parts : List SpanPart
deriving DecidableEq, Repr

/-- A watch point (R425). -/
structure WatchPt where
  kind : Nat
  stage : Nat
  field : Nat
  core : Nat
  base : Nat
  bufs : Nat
  rate : Nat
  per : Nat
  pair : Nat
deriving DecidableEq, Repr

/-- The CHECKER record (R425, R435), less the program, whose instruction set the manual does not give (R422). -/
structure Checker where
  points : List WatchPt
  rfirst : Nat
  rpages : Nat
deriving DecidableEq, Repr

/-- A stage of the GUARD record (R448). -/
structure GStage where
  watch : Nat
  prev : Nat
  min : Nat
  max : Nat
  crit : Nat
  fields : Nat
deriving DecidableEq, Repr

/-- A task of the GUARD record (R448). -/
structure GTask where
  field : Nat
  core : Nat
  stage : Nat
  threads : Nat
  budget : Nat
deriving DecidableEq, Repr

/-- The GUARD record (R448). -/
structure GuardRec where
  ftti : Nat
  test : Nat
  age : Nat
  slot : Nat
  run : Nat
  seg : Nat
  par : Nat
  gap : Nat
  stages : List GStage
  tasks : List GTask
deriving DecidableEq, Repr

/-- A partition section (R400). -/
structure Section where
  mode : Nat
  auto : Bool
  steward : Nat
  target : Nat
  stgBase : Nat
  stgPages : Nat
  placements : List (Nat × Placement)
  plans : List (Nat × Plan)
  programs : List (Nat × Program)
  coremaps : List (Nat × List CoreMapEnt)
  pagedirs : List (Nat × PageDir)
  sync : SyncRec
  fence : List Group
  links : Links
  spans : List SpanDef
  regions : List (Nat × Nat)
  replayKey : Nat
  checker : Option Checker
  guard : Option GuardRec
  regset : List Setting
deriving DecidableEq, Repr

/-! ### The device section (R399) -/

/-- A Thijolink port of the PORTS record: expected peer wafer and port (none: UNUSED), gen2 permission, its place as a
time port (0 none, 1 first, 2 alternative). -/
structure PortRec where
  peer : Option (Nat × Nat)
  gen2 : Bool
  time : Nat
deriving DecidableEq, Repr

/-- The function and weak pull of an SBP pin from the PINS record. -/
structure PinRec where
  func : Nat
  pull : Nat
deriving DecidableEq, Repr

/-- The device section: LAYOUT (R59-R61), DEVSET with subsystem IDs, CLUSTER, PORTS, ROUTES with transit pairs, PINS. -/
structure DevSect where
  cols : List Nat
  flash : List (Option Nat)
  links : List (Option Nat)
  devset : List Setting
  subsys : Nat
  cluster : Nat
  wafer : Nat
  master : Nat
  digests : List Nat
  ports : List PortRec
  routes : List (Nat × List Nat)
  transit : List (Nat × Nat)
  pins : List PinRec
deriving DecidableEq, Repr

end Sys2Proof.Machine
end

