-- ==== Sys2Proof/Machine/Keys.lean ====
section
/-! DEFINITION. The numbers by which the state's sparse contents are keyed. -/

namespace Sys2Proof.Machine

/-- A mapped core of the wafer. -/
def coreKey (f m : Nat) : Nat := f * 152 + m
/-- A thread of the wafer. -/
def thrKey (f m t : Nat) : Nat := coreKey f m * 32 + t
/-- The thread an operand names. -/
def thrOf (t : Thr) : Nat := thrKey t.f.val t.m.val t.t.val
/-- Field of a core number. -/
def keyField (c : Nat) : Nat := c / 152
/-- Mapped core of a core number. -/
def keyCore (c : Nat) : Nat := c % 152
/-- A stream engine E0-E3 of a core. -/
def engKey (f m e : Nat) : Nat := coreKey f m * 4 + e
/-- First number above every core engine: shelf engines are numbered from here. -/
def shelfBase : Nat := 64 * 152 * 4
/-- A shelf engine S0-S15 of a field. -/
def shelfKey (f n : Nat) : Nat := shelfBase + f * 16 + n
/-- The engine an operand names. -/
def engOf : Eng → Nat
  | .core f m e => engKey f.val m.val e.val
  | .shelf f n => shelfKey f.val n.val
/-- Whether an engine number is a shelf engine's. -/
def isShelf (k : Nat) : Bool := decide (shelfBase ≤ k)
/-- The field of an engine. -/
def engField (k : Nat) : Nat := if isShelf k then (k - shelfBase) / 16 else k / 4 / 152
/-- The mapped core of a core engine. -/
def engCore (k : Nat) : Nat := k / 4 % 152
/-- The number of an engine in its core or shelf. -/
def engUnit (k : Nat) : Nat := if isShelf k then (k - shelfBase) % 16 else k % 4
/-- A physical page: tier, field (tier 3: partition), index within the tier (R87). -/
def pageKey (tier f idx : Nat) : Nat := (tier * 64 + f) * 2 ^ 40 + idx
/-- The tier of a physical page. -/
def pageTier (k : Nat) : Nat := k / 2 ^ 40 / 64
/-- The field of a physical page (tier 3: the partition). -/
def pageField (k : Nat) : Nat := k / 2 ^ 40 % 64
/-- The index of a physical page within its tier. -/
def pageIdx (k : Nat) : Nat := k % 2 ^ 40
/-- A tile of a physical page. -/
def tileKey (page t : Nat) : Nat := page * 4 + t
/-- A word of a tile: 2,048 words of 8 bytes. -/
def tileWord (tile w : Nat) : Nat := tile * 2048 + w
/-- A word of a core's local memory: T0 pages 8m to 8m+7 of its field (R87). -/
def localWord (f m w : Nat) : Nat := tileWord (tileKey (pageKey 0 f (m * 8)) 0) w
/-- A tile position of a core's local memory, 0-31 (R585). -/
def localTile (f m n : Nat) : Nat := tileKey (pageKey 0 f (m * 8)) n
/-- A logical page of a partition. -/
def dirKey (p lpage : Nat) : Nat := p * 2 ^ 40 + lpage
/-- A local sync object of a core. -/
def objKey (f m n : Nat) : Nat := coreKey f m * 64 + n
/-- First number above every local object: pool objects are numbered from here. -/
def poolBase : Nat := 64 * 152 * 64
/-- A pool object by its absolute number. -/
def poolKey (n : Nat) : Nat := poolBase + n
/-- A barrier of a partition. -/
def barKey (p b : Nat) : Nat := p * 64 + b
/-- A fence group of a partition. -/
def grpKey (p g : Nat) : Nat := p * 16 + g
/-- A lane of a fence group. -/
def laneKey (p g l : Nat) : Nat := grpKey p g * 4 + l
/-- A Ledger entry of a field. -/
def entKey (f n : Nat) : Nat := f * 65536 + n
/-- A replay-span slot of a field. -/
def slotKey (f n : Nat) : Nat := f * 4096 + n
/-- A lane of a group, as a field's Residency Engine counts it. -/
def progKey (f g l : Nat) : Nat := (f * 16 + g) * 4 + l
/-- A function of a host port. -/
def funcKey (x pf : Nat) : Nat := x * 5 + pf
/-- The number of a requester (R581). -/
def reqKey : Req → Nat
  | .host x pf => funcKey x.val pf.val
  | .mgmt => 10
  | .jtag => 11

end Sys2Proof.Machine
end

