-- ==== Sys2Proof/Machine/Regs.lean ====
section
/-! DEFINITION. The registers of BAR0, field by field, from the register tables of spec/ (00_scope.md R11-R24, R581):
where each lies, its width, access code, reset value and the encodings its table lists. A field named Reserved has no
entry: it reads 0 and takes no write (R22). -/

namespace Sys2Proof.Machine

/-- The access codes (00_scope.md R16). -/
inductive Access where
  | ro | rw | wo | w1c | rc | rwl
deriving DecidableEq, Repr

/-- The encodings that a writable field's table lists (R23): all, a range, or a signed 32-bit value up to a bound. -/
inductive Legal where
  | any
  | range (lo hi : Nat)
  | signed (bound : Nat)
deriving DecidableEq, Repr

/-- A field of a register: its number (the model's own), highest and lowest bit, access, reset value, encodings. -/
structure Field where
  id : Nat
  hi : Nat
  lo : Nat
  acc : Access
  reset : Nat
  legal : Legal
deriving DecidableEq, Repr

/-- The blocks of BAR0 (25_register_index.md). -/
inductive Block where
  | sys | hpt | par | tier | repo | ldg | cmp | str | syn | tjl | grd | sec | cnt | dbg | sbm | core
deriving DecidableEq, Repr

/-- A register: BAR0 offset of its first copy, how many copies per index and how far apart, its 32-bit words, its
fields, and whether each requester has a copy (R581). -/
structure Reg where
  name : String
  block : Block
  base : Nat
  dims : List (Nat × Nat)
  words : Nat
  perReq : Bool
  fields : List Field
deriving DecidableEq, Repr

/-- Width of a field in bits. -/
def Field.width (f : Field) : Nat := f.hi + 1 - f.lo


/-- SYS_ID.PART, 02_wafer_fields_pace.md. -/
def SYS_ID.PART : Field := ⟨0, 31, 16, .ro, 1120, .any⟩
/-- SYS_ID.STEP, 02_wafer_fields_pace.md. -/
def SYS_ID.STEP : Field := ⟨1, 15, 8, .ro, 176, .any⟩
/-- SYS_ID.GRADE, 02_wafer_fields_pace.md. -/
def SYS_ID.GRADE : Field := ⟨2, 7, 4, .ro, 1, .any⟩
/-- SYS_ID, 02_wafer_fields_pace.md, offset 0x0000. -/
def SYS_ID : Reg := ⟨"SYS_ID", .sys, 0, [], 1, false,
  [SYS_ID.PART, SYS_ID.STEP, SYS_ID.GRADE]⟩

/-- SYS_TB.COUNT, 02_wafer_fields_pace.md. -/
def SYS_TB.COUNT : Field := ⟨3, 63, 0, .ro, 0, .any⟩
/-- SYS_TB, 02_wafer_fields_pace.md, offset 0x0100. -/
def SYS_TB : Reg := ⟨"SYS_TB", .sys, 256, [], 2, false,
  [SYS_TB.COUNT]⟩

/-- SYS_TB_STAT.WRAP, 02_wafer_fields_pace.md. -/
def SYS_TB_STAT.WRAP : Field := ⟨4, 3, 3, .w1c, 0, .any⟩
/-- SYS_TB_STAT.FOLLOW, 02_wafer_fields_pace.md. -/
def SYS_TB_STAT.FOLLOW : Field := ⟨5, 2, 2, .ro, 0, .any⟩
/-- SYS_TB_STAT.REF_BAD, 02_wafer_fields_pace.md. -/
def SYS_TB_STAT.REF_BAD : Field := ⟨6, 1, 1, .w1c, 0, .any⟩
/-- SYS_TB_STAT.HOLDOVER, 02_wafer_fields_pace.md. -/
def SYS_TB_STAT.HOLDOVER : Field := ⟨7, 0, 0, .ro, 0, .any⟩
/-- SYS_TB_STAT, 02_wafer_fields_pace.md, offset 0x0108. -/
def SYS_TB_STAT : Reg := ⟨"SYS_TB_STAT", .sys, 264, [], 1, false,
  [SYS_TB_STAT.WRAP, SYS_TB_STAT.FOLLOW, SYS_TB_STAT.REF_BAD, SYS_TB_STAT.HOLDOVER]⟩

/-- SYS_TB_TRIM.PPB, 02_wafer_fields_pace.md. -/
def SYS_TB_TRIM.PPB : Field := ⟨8, 31, 0, .rw, 0, .signed 100000⟩
/-- SYS_TB_TRIM, 02_wafer_fields_pace.md, offset 0x010C. -/
def SYS_TB_TRIM : Reg := ⟨"SYS_TB_TRIM", .sys, 268, [], 1, false,
  [SYS_TB_TRIM.PPB]⟩

/-- SYS_TB_PPS.CAPTURE, 02_wafer_fields_pace.md. -/
def SYS_TB_PPS.CAPTURE : Field := ⟨9, 63, 0, .ro, 0, .any⟩
/-- SYS_TB_PPS, 02_wafer_fields_pace.md, offset 0x0110. -/
def SYS_TB_PPS : Reg := ⟨"SYS_TB_PPS", .sys, 272, [], 2, false,
  [SYS_TB_PPS.CAPTURE]⟩

/-- SYS_TB_PPS_SEQ.GLITCH, 02_wafer_fields_pace.md. -/
def SYS_TB_PPS_SEQ.GLITCH : Field := ⟨10, 17, 17, .w1c, 0, .any⟩
/-- SYS_TB_PPS_SEQ.MISSED, 02_wafer_fields_pace.md. -/
def SYS_TB_PPS_SEQ.MISSED : Field := ⟨11, 16, 16, .w1c, 0, .any⟩
/-- SYS_TB_PPS_SEQ.COUNT, 02_wafer_fields_pace.md. -/
def SYS_TB_PPS_SEQ.COUNT : Field := ⟨12, 15, 0, .ro, 0, .any⟩
/-- SYS_TB_PPS_SEQ, 02_wafer_fields_pace.md, offset 0x0118. -/
def SYS_TB_PPS_SEQ : Reg := ⟨"SYS_TB_PPS_SEQ", .sys, 280, [], 1, false,
  [SYS_TB_PPS_SEQ.GLITCH, SYS_TB_PPS_SEQ.MISSED, SYS_TB_PPS_SEQ.COUNT]⟩

/-- SYS_PACE_CTL.GOV_EN, 02_wafer_fields_pace.md. -/
def SYS_PACE_CTL.GOV_EN : Field := ⟨13, 16, 16, .rw, 1, .any⟩
/-- SYS_PACE_CTL.PERIOD, 02_wafer_fields_pace.md. -/
def SYS_PACE_CTL.PERIOD : Field := ⟨14, 15, 8, .rw, 10, .range 1 255⟩
/-- SYS_PACE_CTL.BAND, 02_wafer_fields_pace.md. -/
def SYS_PACE_CTL.BAND : Field := ⟨15, 7, 0, .rw, 5, .any⟩
/-- SYS_PACE_CTL, 02_wafer_fields_pace.md, offset 0x0200. -/
def SYS_PACE_CTL : Reg := ⟨"SYS_PACE_CTL", .sys, 512, [], 1, false,
  [SYS_PACE_CTL.GOV_EN, SYS_PACE_CTL.PERIOD, SYS_PACE_CTL.BAND]⟩

/-- SYS_PWR_CAP.WATTS, 02_wafer_fields_pace.md. -/
def SYS_PWR_CAP.WATTS : Field := ⟨16, 15, 0, .rw, 18500, .range 4000 18500⟩
/-- SYS_PWR_CAP, 02_wafer_fields_pace.md, offset 0x0204. -/
def SYS_PWR_CAP : Reg := ⟨"SYS_PWR_CAP", .sys, 516, [], 1, false,
  [SYS_PWR_CAP.WATTS]⟩

/-- SYS_PWR_NOW.WATTS, 02_wafer_fields_pace.md. -/
def SYS_PWR_NOW.WATTS : Field := ⟨17, 15, 0, .ro, 0, .any⟩
/-- SYS_PWR_NOW, 02_wafer_fields_pace.md, offset 0x0208. -/
def SYS_PWR_NOW : Reg := ⟨"SYS_PWR_NOW", .sys, 520, [], 1, false,
  [SYS_PWR_NOW.WATTS]⟩

/-- SYS_THERM.CRIT, 02_wafer_fields_pace.md. -/
def SYS_THERM.CRIT : Field := ⟨18, 15, 8, .rw, 110, .range 90 115⟩
/-- SYS_THERM.THROTTLE, 02_wafer_fields_pace.md. -/
def SYS_THERM.THROTTLE : Field := ⟨19, 7, 0, .rw, 100, .range 80 110⟩
/-- SYS_THERM, 02_wafer_fields_pace.md, offset 0x020C. -/
def SYS_THERM : Reg := ⟨"SYS_THERM", .sys, 524, [], 1, false,
  [SYS_THERM.CRIT, SYS_THERM.THROTTLE]⟩

/-- SYS_VFLOOR.MV, 02_wafer_fields_pace.md. -/
def SYS_VFLOOR.MV : Field := ⟨20, 11, 0, .rw, 680, .range 600 900⟩
/-- SYS_VFLOOR, 02_wafer_fields_pace.md, offset 0x0210. -/
def SYS_VFLOOR : Reg := ⟨"SYS_VFLOOR", .sys, 528, [], 1, false,
  [SYS_VFLOOR.MV]⟩

/-- SYS_XING.LOST, 02_wafer_fields_pace.md. -/
def SYS_XING.LOST : Field := ⟨21, 25, 25, .ro, 0, .any⟩
/-- SYS_XING.DEGRADED, 02_wafer_fields_pace.md. -/
def SYS_XING.DEGRADED : Field := ⟨22, 24, 24, .ro, 0, .any⟩
/-- SYS_XING.SPARES, 02_wafer_fields_pace.md. -/
def SYS_XING.SPARES : Field := ⟨23, 23, 20, .ro, 2, .any⟩
/-- SYS_XING.FAILED, 02_wafer_fields_pace.md. -/
def SYS_XING.FAILED : Field := ⟨24, 19, 10, .ro, 0, .any⟩
/-- SYS_XING.USED, 02_wafer_fields_pace.md. -/
def SYS_XING.USED : Field := ⟨25, 9, 0, .ro, 255, .any⟩
/-- SYS_XING, 02_wafer_fields_pace.md, offset 0x0400 + x × 4, x = 0–139. -/
def SYS_XING : Reg := ⟨"SYS_XING", .sys, 1024, [(140, 4)], 1, false,
  [SYS_XING.LOST, SYS_XING.DEGRADED, SYS_XING.SPARES, SYS_XING.FAILED, SYS_XING.USED]⟩

/-- SYS_CMAP.MAPPED, 02_wafer_fields_pace.md. -/
def SYS_CMAP.MAPPED : Field := ⟨26, 31, 0, .ro, 0, .any⟩
/-- SYS_CMAP, 02_wafer_fields_pace.md, offset 0x1000 + f × 0x20 + w × 4, w = 0–4. -/
def SYS_CMAP : Reg := ⟨"SYS_CMAP", .sys, 4096, [(64, 32), (5, 4)], 1, false,
  [SYS_CMAP.MAPPED]⟩

/-- SYS_FPACE.MV, 02_wafer_fields_pace.md. -/
def SYS_FPACE.MV : Field := ⟨27, 27, 16, .ro, 0, .any⟩
/-- SYS_FPACE.PACE, 02_wafer_fields_pace.md. -/
def SYS_FPACE.PACE : Field := ⟨28, 15, 0, .ro, 0, .any⟩
/-- SYS_FPACE, 02_wafer_fields_pace.md, offset 0x2000 + f × 0x10. -/
def SYS_FPACE : Reg := ⟨"SYS_FPACE", .sys, 8192, [(64, 16)], 1, false,
  [SYS_FPACE.MV, SYS_FPACE.PACE]⟩

/-- SYS_FTGT.TARGET, 02_wafer_fields_pace.md. -/
def SYS_FTGT.TARGET : Field := ⟨29, 15, 0, .rw, 850, .any⟩
/-- SYS_FTGT, 02_wafer_fields_pace.md, offset 0x2004 + f × 0x10. -/
def SYS_FTGT : Reg := ⟨"SYS_FTGT", .sys, 8196, [(64, 16)], 1, false,
  [SYS_FTGT.TARGET]⟩

/-- SYS_FTEMP.RANGE, 02_wafer_fields_pace.md. -/
def SYS_FTEMP.RANGE : Field := ⟨30, 10, 10, .w1c, 0, .any⟩
/-- SYS_FTEMP.CRIT, 02_wafer_fields_pace.md. -/
def SYS_FTEMP.CRIT : Field := ⟨31, 9, 9, .w1c, 0, .any⟩
/-- SYS_FTEMP.THROTTLED, 02_wafer_fields_pace.md. -/
def SYS_FTEMP.THROTTLED : Field := ⟨32, 8, 8, .ro, 0, .any⟩
/-- SYS_FTEMP.JUNCTION, 02_wafer_fields_pace.md. -/
def SYS_FTEMP.JUNCTION : Field := ⟨33, 7, 0, .ro, 0, .any⟩
/-- SYS_FTEMP, 02_wafer_fields_pace.md, offset 0x2008 + f × 0x10. -/
def SYS_FTEMP : Reg := ⟨"SYS_FTEMP", .sys, 8200, [(64, 16)], 1, false,
  [SYS_FTEMP.RANGE, SYS_FTEMP.CRIT, SYS_FTEMP.THROTTLED, SYS_FTEMP.JUNCTION]⟩

/-- SYS_FSTAT.OFF, 02_wafer_fields_pace.md. -/
def SYS_FSTAT.OFF : Field := ⟨34, 17, 17, .ro, 0, .any⟩
/-- SYS_FSTAT.SHORT, 02_wafer_fields_pace.md. -/
def SYS_FSTAT.SHORT : Field := ⟨35, 16, 16, .ro, 0, .any⟩
/-- SYS_FSTAT.SPARES, 02_wafer_fields_pace.md. -/
def SYS_FSTAT.SPARES : Field := ⟨36, 15, 8, .ro, 0, .any⟩
/-- SYS_FSTAT.GOOD, 02_wafer_fields_pace.md. -/
def SYS_FSTAT.GOOD : Field := ⟨37, 7, 0, .ro, 0, .any⟩
/-- SYS_FSTAT, 02_wafer_fields_pace.md, offset 0x200C + f × 0x10. -/
def SYS_FSTAT : Reg := ⟨"SYS_FSTAT", .sys, 8204, [(64, 16)], 1, false,
  [SYS_FSTAT.OFF, SYS_FSTAT.SHORT, SYS_FSTAT.SPARES, SYS_FSTAT.GOOD]⟩

/-- PAR_LAYOUT.COL_P3, 03_partitions_admission.md. -/
def PAR_LAYOUT.COL_P3 : Field := ⟨38, 31, 24, .ro, 0, .any⟩
/-- PAR_LAYOUT.COL_P2, 03_partitions_admission.md. -/
def PAR_LAYOUT.COL_P2 : Field := ⟨39, 23, 16, .ro, 0, .any⟩
/-- PAR_LAYOUT.COL_P1, 03_partitions_admission.md. -/
def PAR_LAYOUT.COL_P1 : Field := ⟨40, 15, 8, .ro, 0, .any⟩
/-- PAR_LAYOUT.COL_P0, 03_partitions_admission.md. -/
def PAR_LAYOUT.COL_P0 : Field := ⟨41, 7, 0, .ro, 0, .any⟩
/-- PAR_LAYOUT, 03_partitions_admission.md, offset 0x0000. -/
def PAR_LAYOUT : Reg := ⟨"PAR_LAYOUT", .par, 2097152, [], 1, false,
  [PAR_LAYOUT.COL_P3, PAR_LAYOUT.COL_P2, PAR_LAYOUT.COL_P1, PAR_LAYOUT.COL_P0]⟩

/-- PAR_FD_OWN.VALID0, 03_partitions_admission.md. -/
def PAR_FD_OWN.VALID0 : Field := ⟨42, 3, 3, .ro, 0, .any⟩
/-- PAR_FD_OWN.VALID1, 03_partitions_admission.md. -/
def PAR_FD_OWN.VALID1 : Field := ⟨43, 7, 7, .ro, 0, .any⟩
/-- PAR_FD_OWN.VALID2, 03_partitions_admission.md. -/
def PAR_FD_OWN.VALID2 : Field := ⟨44, 11, 11, .ro, 0, .any⟩
/-- PAR_FD_OWN.VALID3, 03_partitions_admission.md. -/
def PAR_FD_OWN.VALID3 : Field := ⟨45, 15, 15, .ro, 0, .any⟩
/-- PAR_FD_OWN.VALID4, 03_partitions_admission.md. -/
def PAR_FD_OWN.VALID4 : Field := ⟨46, 19, 19, .ro, 0, .any⟩
/-- PAR_FD_OWN.VALID5, 03_partitions_admission.md. -/
def PAR_FD_OWN.VALID5 : Field := ⟨47, 23, 23, .ro, 0, .any⟩
/-- PAR_FD_OWN.VALID6, 03_partitions_admission.md. -/
def PAR_FD_OWN.VALID6 : Field := ⟨48, 27, 27, .ro, 0, .any⟩
/-- PAR_FD_OWN.VALID7, 03_partitions_admission.md. -/
def PAR_FD_OWN.VALID7 : Field := ⟨49, 31, 31, .ro, 0, .any⟩
/-- PAR_FD_OWN.VALID8, 03_partitions_admission.md. -/
def PAR_FD_OWN.VALID8 : Field := ⟨50, 35, 35, .ro, 0, .any⟩
/-- PAR_FD_OWN.VALID9, 03_partitions_admission.md. -/
def PAR_FD_OWN.VALID9 : Field := ⟨51, 39, 39, .ro, 0, .any⟩
/-- PAR_FD_OWN.VALID10, 03_partitions_admission.md. -/
def PAR_FD_OWN.VALID10 : Field := ⟨52, 43, 43, .ro, 0, .any⟩
/-- PAR_FD_OWN.VALID11, 03_partitions_admission.md. -/
def PAR_FD_OWN.VALID11 : Field := ⟨53, 47, 47, .ro, 0, .any⟩
/-- PAR_FD_OWN.VALID12, 03_partitions_admission.md. -/
def PAR_FD_OWN.VALID12 : Field := ⟨54, 51, 51, .ro, 0, .any⟩
/-- PAR_FD_OWN.VALID13, 03_partitions_admission.md. -/
def PAR_FD_OWN.VALID13 : Field := ⟨55, 55, 55, .ro, 0, .any⟩
/-- PAR_FD_OWN.VALID14, 03_partitions_admission.md. -/
def PAR_FD_OWN.VALID14 : Field := ⟨56, 59, 59, .ro, 0, .any⟩
/-- PAR_FD_OWN.VALID15, 03_partitions_admission.md. -/
def PAR_FD_OWN.VALID15 : Field := ⟨57, 63, 63, .ro, 0, .any⟩
/-- PAR_FD_OWN.OWNER0, 03_partitions_admission.md. -/
def PAR_FD_OWN.OWNER0 : Field := ⟨58, 1, 0, .ro, 0, .any⟩
/-- PAR_FD_OWN.OWNER1, 03_partitions_admission.md. -/
def PAR_FD_OWN.OWNER1 : Field := ⟨59, 5, 4, .ro, 0, .any⟩
/-- PAR_FD_OWN.OWNER2, 03_partitions_admission.md. -/
def PAR_FD_OWN.OWNER2 : Field := ⟨60, 9, 8, .ro, 0, .any⟩
/-- PAR_FD_OWN.OWNER3, 03_partitions_admission.md. -/
def PAR_FD_OWN.OWNER3 : Field := ⟨61, 13, 12, .ro, 0, .any⟩
/-- PAR_FD_OWN.OWNER4, 03_partitions_admission.md. -/
def PAR_FD_OWN.OWNER4 : Field := ⟨62, 17, 16, .ro, 0, .any⟩
/-- PAR_FD_OWN.OWNER5, 03_partitions_admission.md. -/
def PAR_FD_OWN.OWNER5 : Field := ⟨63, 21, 20, .ro, 0, .any⟩
/-- PAR_FD_OWN.OWNER6, 03_partitions_admission.md. -/
def PAR_FD_OWN.OWNER6 : Field := ⟨64, 25, 24, .ro, 0, .any⟩
/-- PAR_FD_OWN.OWNER7, 03_partitions_admission.md. -/
def PAR_FD_OWN.OWNER7 : Field := ⟨65, 29, 28, .ro, 0, .any⟩
/-- PAR_FD_OWN.OWNER8, 03_partitions_admission.md. -/
def PAR_FD_OWN.OWNER8 : Field := ⟨66, 33, 32, .ro, 0, .any⟩
/-- PAR_FD_OWN.OWNER9, 03_partitions_admission.md. -/
def PAR_FD_OWN.OWNER9 : Field := ⟨67, 37, 36, .ro, 0, .any⟩
/-- PAR_FD_OWN.OWNER10, 03_partitions_admission.md. -/
def PAR_FD_OWN.OWNER10 : Field := ⟨68, 41, 40, .ro, 0, .any⟩
/-- PAR_FD_OWN.OWNER11, 03_partitions_admission.md. -/
def PAR_FD_OWN.OWNER11 : Field := ⟨69, 45, 44, .ro, 0, .any⟩
/-- PAR_FD_OWN.OWNER12, 03_partitions_admission.md. -/
def PAR_FD_OWN.OWNER12 : Field := ⟨70, 49, 48, .ro, 0, .any⟩
/-- PAR_FD_OWN.OWNER13, 03_partitions_admission.md. -/
def PAR_FD_OWN.OWNER13 : Field := ⟨71, 53, 52, .ro, 0, .any⟩
/-- PAR_FD_OWN.OWNER14, 03_partitions_admission.md. -/
def PAR_FD_OWN.OWNER14 : Field := ⟨72, 57, 56, .ro, 0, .any⟩
/-- PAR_FD_OWN.OWNER15, 03_partitions_admission.md. -/
def PAR_FD_OWN.OWNER15 : Field := ⟨73, 61, 60, .ro, 0, .any⟩
/-- PAR_FD_OWN, 03_partitions_admission.md, offset 0x0008. -/
def PAR_FD_OWN : Reg := ⟨"PAR_FD_OWN", .par, 2097160, [], 2, false,
  [PAR_FD_OWN.VALID0, PAR_FD_OWN.VALID1, PAR_FD_OWN.VALID2, PAR_FD_OWN.VALID3, PAR_FD_OWN.VALID4, PAR_FD_OWN.VALID5, PAR_FD_OWN.VALID6, PAR_FD_OWN.VALID7, PAR_FD_OWN.VALID8, PAR_FD_OWN.VALID9, PAR_FD_OWN.VALID10, PAR_FD_OWN.VALID11, PAR_FD_OWN.VALID12, PAR_FD_OWN.VALID13, PAR_FD_OWN.VALID14, PAR_FD_OWN.VALID15, PAR_FD_OWN.OWNER0, PAR_FD_OWN.OWNER1, PAR_FD_OWN.OWNER2, PAR_FD_OWN.OWNER3, PAR_FD_OWN.OWNER4, PAR_FD_OWN.OWNER5, PAR_FD_OWN.OWNER6, PAR_FD_OWN.OWNER7, PAR_FD_OWN.OWNER8, PAR_FD_OWN.OWNER9, PAR_FD_OWN.OWNER10, PAR_FD_OWN.OWNER11, PAR_FD_OWN.OWNER12, PAR_FD_OWN.OWNER13, PAR_FD_OWN.OWNER14, PAR_FD_OWN.OWNER15]⟩

/-- PAR_LD_OWN.VALID0, 03_partitions_admission.md. -/
def PAR_LD_OWN.VALID0 : Field := ⟨74, 3, 3, .ro, 0, .any⟩
/-- PAR_LD_OWN.VALID1, 03_partitions_admission.md. -/
def PAR_LD_OWN.VALID1 : Field := ⟨75, 7, 7, .ro, 0, .any⟩
/-- PAR_LD_OWN.VALID2, 03_partitions_admission.md. -/
def PAR_LD_OWN.VALID2 : Field := ⟨76, 11, 11, .ro, 0, .any⟩
/-- PAR_LD_OWN.VALID3, 03_partitions_admission.md. -/
def PAR_LD_OWN.VALID3 : Field := ⟨77, 15, 15, .ro, 0, .any⟩
/-- PAR_LD_OWN.VALID4, 03_partitions_admission.md. -/
def PAR_LD_OWN.VALID4 : Field := ⟨78, 19, 19, .ro, 0, .any⟩
/-- PAR_LD_OWN.VALID5, 03_partitions_admission.md. -/
def PAR_LD_OWN.VALID5 : Field := ⟨79, 23, 23, .ro, 0, .any⟩
/-- PAR_LD_OWN.VALID6, 03_partitions_admission.md. -/
def PAR_LD_OWN.VALID6 : Field := ⟨80, 27, 27, .ro, 0, .any⟩
/-- PAR_LD_OWN.VALID7, 03_partitions_admission.md. -/
def PAR_LD_OWN.VALID7 : Field := ⟨81, 31, 31, .ro, 0, .any⟩
/-- PAR_LD_OWN.OWNER0, 03_partitions_admission.md. -/
def PAR_LD_OWN.OWNER0 : Field := ⟨82, 1, 0, .ro, 0, .any⟩
/-- PAR_LD_OWN.OWNER1, 03_partitions_admission.md. -/
def PAR_LD_OWN.OWNER1 : Field := ⟨83, 5, 4, .ro, 0, .any⟩
/-- PAR_LD_OWN.OWNER2, 03_partitions_admission.md. -/
def PAR_LD_OWN.OWNER2 : Field := ⟨84, 9, 8, .ro, 0, .any⟩
/-- PAR_LD_OWN.OWNER3, 03_partitions_admission.md. -/
def PAR_LD_OWN.OWNER3 : Field := ⟨85, 13, 12, .ro, 0, .any⟩
/-- PAR_LD_OWN.OWNER4, 03_partitions_admission.md. -/
def PAR_LD_OWN.OWNER4 : Field := ⟨86, 17, 16, .ro, 0, .any⟩
/-- PAR_LD_OWN.OWNER5, 03_partitions_admission.md. -/
def PAR_LD_OWN.OWNER5 : Field := ⟨87, 21, 20, .ro, 0, .any⟩
/-- PAR_LD_OWN.OWNER6, 03_partitions_admission.md. -/
def PAR_LD_OWN.OWNER6 : Field := ⟨88, 25, 24, .ro, 0, .any⟩
/-- PAR_LD_OWN.OWNER7, 03_partitions_admission.md. -/
def PAR_LD_OWN.OWNER7 : Field := ⟨89, 29, 28, .ro, 0, .any⟩
/-- PAR_LD_OWN, 03_partitions_admission.md, offset 0x0010. -/
def PAR_LD_OWN : Reg := ⟨"PAR_LD_OWN", .par, 2097168, [], 1, false,
  [PAR_LD_OWN.VALID0, PAR_LD_OWN.VALID1, PAR_LD_OWN.VALID2, PAR_LD_OWN.VALID3, PAR_LD_OWN.VALID4, PAR_LD_OWN.VALID5, PAR_LD_OWN.VALID6, PAR_LD_OWN.VALID7, PAR_LD_OWN.OWNER0, PAR_LD_OWN.OWNER1, PAR_LD_OWN.OWNER2, PAR_LD_OWN.OWNER3, PAR_LD_OWN.OWNER4, PAR_LD_OWN.OWNER5, PAR_LD_OWN.OWNER6, PAR_LD_OWN.OWNER7]⟩

/-- PAR_STATE.CAUSE, 03_partitions_admission.md. -/
def PAR_STATE.CAUSE : Field := ⟨90, 23, 16, .ro, 0, .any⟩
/-- PAR_STATE.VARIANT, 03_partitions_admission.md. -/
def PAR_STATE.VARIANT : Field := ⟨91, 15, 12, .ro, 0, .any⟩
/-- PAR_STATE.PLAN, 03_partitions_admission.md. -/
def PAR_STATE.PLAN : Field := ⟨92, 9, 8, .ro, 0, .any⟩
/-- PAR_STATE.BUSY, 03_partitions_admission.md. -/
def PAR_STATE.BUSY : Field := ⟨93, 7, 7, .ro, 0, .any⟩
/-- PAR_STATE.MODE, 03_partitions_admission.md. -/
def PAR_STATE.MODE : Field := ⟨94, 6, 5, .ro, 0, .any⟩
/-- PAR_STATE.STATE, 03_partitions_admission.md. -/
def PAR_STATE.STATE : Field := ⟨95, 3, 0, .ro, 0, .any⟩
/-- PAR_STATE, 03_partitions_admission.md, offset 0x0100 + p × 0x100. -/
def PAR_STATE : Reg := ⟨"PAR_STATE", .par, 2097408, [(4, 256)], 1, false,
  [PAR_STATE.CAUSE, PAR_STATE.VARIANT, PAR_STATE.PLAN, PAR_STATE.BUSY, PAR_STATE.MODE, PAR_STATE.STATE]⟩

/-- PAR_CMD.SEQ, 03_partitions_admission.md. -/
def PAR_CMD.SEQ : Field := ⟨96, 31, 16, .wo, 0, .any⟩
/-- PAR_CMD.KEEP, 03_partitions_admission.md. -/
def PAR_CMD.KEEP : Field := ⟨97, 8, 8, .wo, 0, .any⟩
/-- PAR_CMD.CMD, 03_partitions_admission.md. -/
def PAR_CMD.CMD : Field := ⟨98, 2, 0, .wo, 0, .any⟩
/-- PAR_CMD, 03_partitions_admission.md, offset 0x0104 + p × 0x100. -/
def PAR_CMD : Reg := ⟨"PAR_CMD", .par, 2097412, [(4, 256)], 1, false,
  [PAR_CMD.SEQ, PAR_CMD.KEEP, PAR_CMD.CMD]⟩

/-- PAR_CMD_STAT.SEQ, 03_partitions_admission.md. -/
def PAR_CMD_STAT.SEQ : Field := ⟨99, 31, 16, .ro, 0, .any⟩
/-- PAR_CMD_STAT.PORT, 03_partitions_admission.md. -/
def PAR_CMD_STAT.PORT : Field := ⟨100, 15, 12, .ro, 0, .any⟩
/-- PAR_CMD_STAT.RESULT, 03_partitions_admission.md. -/
def PAR_CMD_STAT.RESULT : Field := ⟨101, 3, 0, .ro, 0, .any⟩
/-- PAR_CMD_STAT, 03_partitions_admission.md, offset 0x0108 + p × 0x100. -/
def PAR_CMD_STAT : Reg := ⟨"PAR_CMD_STAT", .par, 2097416, [(4, 256)], 1, false,
  [PAR_CMD_STAT.SEQ, PAR_CMD_STAT.PORT, PAR_CMD_STAT.RESULT]⟩

/-- PAR_EVT.T1_EXHAUSTED, 03_partitions_admission.md. -/
def PAR_EVT.T1_EXHAUSTED : Field := ⟨102, 6, 6, .w1c, 0, .any⟩
/-- PAR_EVT.T1_SHORT, 03_partitions_admission.md. -/
def PAR_EVT.T1_SHORT : Field := ⟨103, 5, 5, .w1c, 0, .any⟩
/-- PAR_EVT.ADM_REFUSED, 03_partitions_admission.md. -/
def PAR_EVT.ADM_REFUSED : Field := ⟨104, 4, 4, .w1c, 0, .any⟩
/-- PAR_EVT.T2_EXHAUSTED, 03_partitions_admission.md. -/
def PAR_EVT.T2_EXHAUSTED : Field := ⟨105, 3, 3, .w1c, 0, .any⟩
/-- PAR_EVT.T2_SHORT, 03_partitions_admission.md. -/
def PAR_EVT.T2_SHORT : Field := ⟨106, 2, 2, .w1c, 0, .any⟩
/-- PAR_EVT.T2_LOW, 03_partitions_admission.md. -/
def PAR_EVT.T2_LOW : Field := ⟨107, 1, 1, .w1c, 0, .any⟩
/-- PAR_EVT.EMERG_SPILL, 03_partitions_admission.md. -/
def PAR_EVT.EMERG_SPILL : Field := ⟨108, 0, 0, .w1c, 0, .any⟩
/-- PAR_EVT, 03_partitions_admission.md, offset 0x010C + p × 0x100. -/
def PAR_EVT : Reg := ⟨"PAR_EVT", .par, 2097420, [(4, 256)], 1, false,
  [PAR_EVT.T1_EXHAUSTED, PAR_EVT.T1_SHORT, PAR_EVT.ADM_REFUSED, PAR_EVT.T2_EXHAUSTED, PAR_EVT.T2_SHORT, PAR_EVT.T2_LOW, PAR_EVT.EMERG_SPILL]⟩

/-- PAR_WMARK.T2_LOW, 03_partitions_admission.md. -/
def PAR_WMARK.T2_LOW : Field := ⟨109, 23, 16, .rwl, 5, .range 1 50⟩
/-- PAR_WMARK.LOW, 03_partitions_admission.md. -/
def PAR_WMARK.LOW : Field := ⟨110, 15, 8, .rwl, 85, .range 50 99⟩
/-- PAR_WMARK.HIGH, 03_partitions_admission.md. -/
def PAR_WMARK.HIGH : Field := ⟨111, 7, 0, .rwl, 95, .range 50 99⟩
/-- PAR_WMARK, 03_partitions_admission.md, offset 0x0110 + p × 0x100. -/
def PAR_WMARK : Reg := ⟨"PAR_WMARK", .par, 2097424, [(4, 256)], 1, false,
  [PAR_WMARK.T2_LOW, PAR_WMARK.LOW, PAR_WMARK.HIGH]⟩

/-- PAR_TMO.T2_WAIT, 03_partitions_admission.md. -/
def PAR_TMO.T2_WAIT : Field := ⟨112, 15, 8, .rwl, 50, .range 1 255⟩
/-- PAR_TMO.SUSP_WAIT, 03_partitions_admission.md. -/
def PAR_TMO.SUSP_WAIT : Field := ⟨113, 7, 0, .rwl, 10, .range 1 255⟩
/-- PAR_TMO, 03_partitions_admission.md, offset 0x0114 + p × 0x100. -/
def PAR_TMO : Reg := ⟨"PAR_TMO", .par, 2097428, [(4, 256)], 1, false,
  [PAR_TMO.T2_WAIT, PAR_TMO.SUSP_WAIT]⟩

/-- PAR_RES.T1_LDG, 03_partitions_admission.md. -/
def PAR_RES.T1_LDG : Field := ⟨114, 31, 0, .ro, 0, .any⟩
/-- PAR_RES.T1_OTHER, 03_partitions_admission.md. -/
def PAR_RES.T1_OTHER : Field := ⟨115, 63, 32, .ro, 0, .any⟩
/-- PAR_RES.T2, 03_partitions_admission.md. -/
def PAR_RES.T2 : Field := ⟨116, 95, 64, .ro, 0, .any⟩
/-- PAR_RES.T3, 03_partitions_admission.md. -/
def PAR_RES.T3 : Field := ⟨117, 127, 96, .ro, 0, .any⟩
/-- PAR_RES.SYNC, 03_partitions_admission.md. -/
def PAR_RES.SYNC : Field := ⟨118, 159, 128, .ro, 0, .any⟩
/-- PAR_RES.LEDGER, 03_partitions_admission.md. -/
def PAR_RES.LEDGER : Field := ⟨119, 191, 160, .ro, 0, .any⟩
/-- PAR_RES.REPLAY, 03_partitions_admission.md. -/
def PAR_RES.REPLAY : Field := ⟨120, 223, 208, .ro, 0, .any⟩
/-- PAR_RES.NETSHARE, 03_partitions_admission.md. -/
def PAR_RES.NETSHARE : Field := ⟨121, 207, 192, .ro, 0, .any⟩
/-- PAR_RES, 03_partitions_admission.md, offset 0x0120–0x0138 + p × 0x100. -/
def PAR_RES : Reg := ⟨"PAR_RES", .par, 2097440, [(4, 256)], 7, false,
  [PAR_RES.T1_LDG, PAR_RES.T1_OTHER, PAR_RES.T2, PAR_RES.T3, PAR_RES.SYNC, PAR_RES.LEDGER, PAR_RES.REPLAY, PAR_RES.NETSHARE]⟩

/-- PAR_SHORT.T1_LDG, 03_partitions_admission.md. -/
def PAR_SHORT.T1_LDG : Field := ⟨122, 31, 0, .ro, 0, .any⟩
/-- PAR_SHORT.T1_OTHER, 03_partitions_admission.md. -/
def PAR_SHORT.T1_OTHER : Field := ⟨123, 63, 32, .ro, 0, .any⟩
/-- PAR_SHORT.T2, 03_partitions_admission.md. -/
def PAR_SHORT.T2 : Field := ⟨124, 95, 64, .ro, 0, .any⟩
/-- PAR_SHORT.T3, 03_partitions_admission.md. -/
def PAR_SHORT.T3 : Field := ⟨125, 127, 96, .ro, 0, .any⟩
/-- PAR_SHORT.SYNC, 03_partitions_admission.md. -/
def PAR_SHORT.SYNC : Field := ⟨126, 159, 128, .ro, 0, .any⟩
/-- PAR_SHORT.LEDGER, 03_partitions_admission.md. -/
def PAR_SHORT.LEDGER : Field := ⟨127, 191, 160, .ro, 0, .any⟩
/-- PAR_SHORT.REPLAY, 03_partitions_admission.md. -/
def PAR_SHORT.REPLAY : Field := ⟨128, 223, 208, .ro, 0, .any⟩
/-- PAR_SHORT.NETSHARE, 03_partitions_admission.md. -/
def PAR_SHORT.NETSHARE : Field := ⟨129, 207, 192, .ro, 0, .any⟩
/-- PAR_SHORT, 03_partitions_admission.md, offset 0x0140–0x0158 + p × 0x100. -/
def PAR_SHORT : Reg := ⟨"PAR_SHORT", .par, 2097472, [(4, 256)], 7, false,
  [PAR_SHORT.T1_LDG, PAR_SHORT.T1_OTHER, PAR_SHORT.T2, PAR_SHORT.T3, PAR_SHORT.SYNC, PAR_SHORT.LEDGER, PAR_SHORT.REPLAY, PAR_SHORT.NETSHARE]⟩

/-- PAR_SHORT_INFO.FIELD, 03_partitions_admission.md. -/
def PAR_SHORT_INFO.FIELD : Field := ⟨130, 23, 16, .ro, 0, .any⟩
/-- PAR_SHORT_INFO.PLAN, 03_partitions_admission.md. -/
def PAR_SHORT_INFO.PLAN : Field := ⟨131, 9, 8, .ro, 0, .any⟩
/-- PAR_SHORT_INFO.SHORT_RES, 03_partitions_admission.md. -/
def PAR_SHORT_INFO.SHORT_RES : Field := ⟨132, 7, 0, .ro, 0, .any⟩
/-- PAR_SHORT_INFO, 03_partitions_admission.md, offset 0x015C + p × 0x100. -/
def PAR_SHORT_INFO : Reg := ⟨"PAR_SHORT_INFO", .par, 2097500, [(4, 256)], 1, false,
  [PAR_SHORT_INFO.FIELD, PAR_SHORT_INFO.PLAN, PAR_SHORT_INFO.SHORT_RES]⟩

/-- PAR_T2_FREE.FIELD, 03_partitions_admission.md. -/
def PAR_T2_FREE.FIELD : Field := ⟨133, 31, 26, .ro, 0, .any⟩
/-- PAR_T2_FREE.PAGES, 03_partitions_admission.md. -/
def PAR_T2_FREE.PAGES : Field := ⟨134, 25, 0, .ro, 0, .any⟩
/-- PAR_T2_FREE, 03_partitions_admission.md, offset 0x0160 + p × 0x100. -/
def PAR_T2_FREE : Reg := ⟨"PAR_T2_FREE", .par, 2097504, [(4, 256)], 1, false,
  [PAR_T2_FREE.FIELD, PAR_T2_FREE.PAGES]⟩

/-- TIER_CTL.SCRUB_EN, 04_memory_tiers.md. -/
def TIER_CTL.SCRUB_EN : Field := ⟨135, 1, 1, .rwl, 1, .any⟩
/-- TIER_CTL.HEAT_EN, 04_memory_tiers.md. -/
def TIER_CTL.HEAT_EN : Field := ⟨136, 0, 0, .rwl, 1, .any⟩
/-- TIER_CTL, 04_memory_tiers.md, offset 0x0000. -/
def TIER_CTL : Reg := ⟨"TIER_CTL", .tier, 3145728, [], 1, false,
  [TIER_CTL.SCRUB_EN, TIER_CTL.HEAT_EN]⟩

/-- TIER_SCRUB.HOURS, 04_memory_tiers.md. -/
def TIER_SCRUB.HOURS : Field := ⟨137, 7, 0, .rwl, 24, .range 1 168⟩
/-- TIER_SCRUB, 04_memory_tiers.md, offset 0x0004. -/
def TIER_SCRUB : Reg := ⟨"TIER_SCRUB", .tier, 3145732, [], 1, false,
  [TIER_SCRUB.HOURS]⟩

/-- TIER_FLT.VALID, 04_memory_tiers.md. -/
def TIER_FLT.VALID : Field := ⟨138, 31, 31, .w1c, 0, .any⟩
/-- TIER_FLT.OVER, 04_memory_tiers.md. -/
def TIER_FLT.OVER : Field := ⟨139, 30, 30, .w1c, 0, .any⟩
/-- TIER_FLT.PART, 04_memory_tiers.md. -/
def TIER_FLT.PART : Field := ⟨140, 21, 20, .ro, 0, .any⟩
/-- TIER_FLT.STREAM, 04_memory_tiers.md. -/
def TIER_FLT.STREAM : Field := ⟨141, 19, 10, .ro, 0, .any⟩
/-- TIER_FLT.CODE, 04_memory_tiers.md. -/
def TIER_FLT.CODE : Field := ⟨142, 7, 0, .ro, 0, .any⟩
/-- TIER_FLT, 04_memory_tiers.md, offset 0x0010. -/
def TIER_FLT : Reg := ⟨"TIER_FLT", .tier, 3145744, [], 1, false,
  [TIER_FLT.VALID, TIER_FLT.OVER, TIER_FLT.PART, TIER_FLT.STREAM, TIER_FLT.CODE]⟩

/-- TIER_FLT_LOC.LOC, 04_memory_tiers.md. -/
def TIER_FLT_LOC.LOC : Field := ⟨143, 63, 0, .ro, 0, .any⟩
/-- TIER_FLT_LOC, 04_memory_tiers.md, offset 0x0018. -/
def TIER_FLT_LOC : Reg := ⟨"TIER_FLT_LOC", .tier, 3145752, [], 2, false,
  [TIER_FLT_LOC.LOC]⟩

/-- TIER_PD_SEL.PART, 04_memory_tiers.md. -/
def TIER_PD_SEL.PART : Field := ⟨144, 63, 62, .rw, 0, .any⟩
/-- TIER_PD_SEL.LPAGE, 04_memory_tiers.md. -/
def TIER_PD_SEL.LPAGE : Field := ⟨145, 39, 0, .rw, 0, .any⟩
/-- TIER_PD_SEL, 04_memory_tiers.md, offset 0x0020. -/
def TIER_PD_SEL : Reg := ⟨"TIER_PD_SEL", .tier, 3145760, [], 2, true,
  [TIER_PD_SEL.PART, TIER_PD_SEL.LPAGE]⟩

/-- TIER_PD.DESC, 04_memory_tiers.md. -/
def TIER_PD.DESC : Field := ⟨146, 127, 0, .ro, 0, .any⟩
/-- TIER_PD, 04_memory_tiers.md, offset 0x0028. -/
def TIER_PD : Reg := ⟨"TIER_PD", .tier, 3145768, [], 4, false,
  [TIER_PD.DESC]⟩

/-- TIER_HEAT_CTL.AGE, 04_memory_tiers.md. -/
def TIER_HEAT_CTL.AGE : Field := ⟨147, 15, 0, .rwl, 100, .range 10 65535⟩
/-- TIER_HEAT_CTL, 04_memory_tiers.md, offset 0x0100 + p × 0x100. -/
def TIER_HEAT_CTL : Reg := ⟨"TIER_HEAT_CTL", .tier, 3145984, [(4, 256)], 1, false,
  [TIER_HEAT_CTL.AGE]⟩

/-- TIER_HEAT_THR.HINT, 04_memory_tiers.md. -/
def TIER_HEAT_THR.HINT : Field := ⟨148, 31, 24, .rwl, 64, .any⟩
/-- TIER_HEAT_THR.HYST, 04_memory_tiers.md. -/
def TIER_HEAT_THR.HYST : Field := ⟨149, 23, 16, .rwl, 16, .any⟩
/-- TIER_HEAT_THR.DEMOTE, 04_memory_tiers.md. -/
def TIER_HEAT_THR.DEMOTE : Field := ⟨150, 15, 8, .rwl, 8, .any⟩
/-- TIER_HEAT_THR.PROMOTE, 04_memory_tiers.md. -/
def TIER_HEAT_THR.PROMOTE : Field := ⟨151, 7, 0, .rwl, 64, .range 1 255⟩
/-- TIER_HEAT_THR, 04_memory_tiers.md, offset 0x0104 + p × 0x100. -/
def TIER_HEAT_THR : Reg := ⟨"TIER_HEAT_THR", .tier, 3145988, [(4, 256)], 1, false,
  [TIER_HEAT_THR.HINT, TIER_HEAT_THR.HYST, TIER_HEAT_THR.DEMOTE, TIER_HEAT_THR.PROMOTE]⟩

/-- TIER_HEAT_BATCH.PAGES, 04_memory_tiers.md. -/
def TIER_HEAT_BATCH.PAGES : Field := ⟨152, 11, 0, .rwl, 256, .range 1 4095⟩
/-- TIER_HEAT_BATCH, 04_memory_tiers.md, offset 0x0108 + p × 0x100. -/
def TIER_HEAT_BATCH : Reg := ⟨"TIER_HEAT_BATCH", .tier, 3145992, [(4, 256)], 1, false,
  [TIER_HEAT_BATCH.PAGES]⟩

/-- TIER_CKPT.DEPTH, 04_memory_tiers.md. -/
def TIER_CKPT.DEPTH : Field := ⟨153, 1, 0, .rwl, 1, .range 0 2⟩
/-- TIER_CKPT, 04_memory_tiers.md, offset 0x010C + p × 0x100. -/
def TIER_CKPT : Reg := ⟨"TIER_CKPT", .tier, 3145996, [(4, 256)], 1, false,
  [TIER_CKPT.DEPTH]⟩

/-- TIER_FPOOL.T1_USED, 04_memory_tiers.md. -/
def TIER_FPOOL.T1_USED : Field := ⟨154, 20, 10, .ro, 0, .any⟩
/-- TIER_FPOOL, 04_memory_tiers.md, offset 0x1000 + f × 0x10. -/
def TIER_FPOOL : Reg := ⟨"TIER_FPOOL", .tier, 3149824, [(64, 16)], 1, false,
  [TIER_FPOOL.T1_USED]⟩

/-- TIER_FPOOL_SIZE.T1_SIZE, 04_memory_tiers.md. -/
def TIER_FPOOL_SIZE.T1_SIZE : Field := ⟨155, 20, 10, .ro, 0, .any⟩
/-- TIER_FPOOL_SIZE, 04_memory_tiers.md, offset 0x1004 + f × 0x10. -/
def TIER_FPOOL_SIZE : Reg := ⟨"TIER_FPOOL_SIZE", .tier, 3149828, [(64, 16)], 1, false,
  [TIER_FPOOL_SIZE.T1_SIZE]⟩

/-- TIER_FPOOL_T2.T2_USED, 04_memory_tiers.md. -/
def TIER_FPOOL_T2.T2_USED : Field := ⟨156, 31, 0, .ro, 0, .any⟩
/-- TIER_FPOOL_T2, 04_memory_tiers.md, offset 0x1008 + f × 0x10. -/
def TIER_FPOOL_T2 : Reg := ⟨"TIER_FPOOL_T2", .tier, 3149832, [(64, 16)], 1, false,
  [TIER_FPOOL_T2.T2_USED]⟩

/-- TIER_FTOWER.T2_POOL, 04_memory_tiers.md. -/
def TIER_FTOWER.T2_POOL : Field := ⟨157, 23, 0, .ro, 0, .any⟩
/-- TIER_FTOWER, 04_memory_tiers.md, offset 0x100C + f × 0x10. -/
def TIER_FTOWER : Reg := ⟨"TIER_FTOWER", .tier, 3149836, [(64, 16)], 1, false,
  [TIER_FTOWER.T2_POOL]⟩

/-- REPO_CTL.LOAD_SHARE, 05_repository.md. -/
def REPO_CTL.LOAD_SHARE : Field := ⟨158, 15, 12, .rwl, 4, .range 1 15⟩
/-- REPO_CTL.BG_SHARE, 05_repository.md. -/
def REPO_CTL.BG_SHARE : Field := ⟨159, 11, 8, .rwl, 2, .range 1 15⟩
/-- REPO_CTL.PATROL_EN, 05_repository.md. -/
def REPO_CTL.PATROL_EN : Field := ⟨160, 0, 0, .rwl, 1, .any⟩
/-- REPO_CTL, 05_repository.md, offset 0x0000. -/
def REPO_CTL : Reg := ⟨"REPO_CTL", .repo, 4194304, [], 1, false,
  [REPO_CTL.LOAD_SHARE, REPO_CTL.BG_SHARE, REPO_CTL.PATROL_EN]⟩

/-- REPO_RD.ECC_MARK, 05_repository.md. -/
def REPO_RD.ECC_MARK : Field := ⟨161, 23, 16, .rwl, 120, .range 16 255⟩
/-- REPO_RD.DISTURB, 05_repository.md. -/
def REPO_RD.DISTURB : Field := ⟨162, 15, 0, .rwl, 200, .range 1 65535⟩
/-- REPO_RD, 05_repository.md, offset 0x0004. -/
def REPO_RD : Reg := ⟨"REPO_RD", .repo, 4194308, [], 1, false,
  [REPO_RD.ECC_MARK, REPO_RD.DISTURB]⟩

/-- REPO_WL.SPREAD, 05_repository.md. -/
def REPO_WL.SPREAD : Field := ⟨163, 31, 16, .rwl, 200, .any⟩
/-- REPO_WL.PE_LIMIT, 05_repository.md. -/
def REPO_WL.PE_LIMIT : Field := ⟨164, 15, 0, .rwl, 3000, .range 100 65535⟩
/-- REPO_WL, 05_repository.md, offset 0x0008. -/
def REPO_WL : Reg := ⟨"REPO_WL", .repo, 4194312, [], 1, false,
  [REPO_WL.SPREAD, REPO_WL.PE_LIMIT]⟩

/-- REPO_TMO.PATROL_DAYS, 05_repository.md. -/
def REPO_TMO.PATROL_DAYS : Field := ⟨165, 15, 8, .rwl, 7, .range 1 255⟩
/-- REPO_TMO.BUSY, 05_repository.md. -/
def REPO_TMO.BUSY : Field := ⟨166, 7, 0, .rwl, 5, .range 1 50⟩
/-- REPO_TMO, 05_repository.md, offset 0x000C. -/
def REPO_TMO : Reg := ⟨"REPO_TMO", .repo, 4194316, [], 1, false,
  [REPO_TMO.PATROL_DAYS, REPO_TMO.BUSY]⟩

/-- REPO_DIE.STATE, 05_repository.md. -/
def REPO_DIE.STATE : Field := ⟨167, 31, 30, .ro, 0, .any⟩
/-- REPO_DIE.MTS, 05_repository.md. -/
def REPO_DIE.MTS : Field := ⟨168, 27, 16, .ro, 0, .any⟩
/-- REPO_DIE.BADCH, 05_repository.md. -/
def REPO_DIE.BADCH : Field := ⟨169, 15, 0, .ro, 0, .any⟩
/-- REPO_DIE, 05_repository.md, offset 0x0100 + d × 4, d = 0–15. -/
def REPO_DIE : Reg := ⟨"REPO_DIE", .repo, 4194560, [(16, 4)], 1, false,
  [REPO_DIE.STATE, REPO_DIE.MTS, REPO_DIE.BADCH]⟩

/-- REPO_CH.STATE, 05_repository.md. -/
def REPO_CH.STATE : Field := ⟨170, 31, 29, .ro, 0, .any⟩
/-- REPO_CH.TARGETS, 05_repository.md. -/
def REPO_CH.TARGETS : Field := ⟨171, 23, 16, .ro, 0, .any⟩
/-- REPO_CH.UNCORR, 05_repository.md. -/
def REPO_CH.UNCORR : Field := ⟨172, 15, 0, .ro, 0, .any⟩
/-- REPO_CH, 05_repository.md, offset 0x0200 + c × 4, c = 0–255. -/
def REPO_CH : Reg := ⟨"REPO_CH", .repo, 4194816, [(256, 4)], 1, false,
  [REPO_CH.STATE, REPO_CH.TARGETS, REPO_CH.UNCORR]⟩

/-- REPO_CMD.SEQ, 05_repository.md. -/
def REPO_CMD.SEQ : Field := ⟨173, 31, 16, .wo, 0, .any⟩
/-- REPO_CMD.VOL, 05_repository.md. -/
def REPO_CMD.VOL : Field := ⟨174, 15, 8, .wo, 0, .any⟩
/-- REPO_CMD.CMD, 05_repository.md. -/
def REPO_CMD.CMD : Field := ⟨175, 2, 0, .wo, 0, .any⟩
/-- REPO_CMD, 05_repository.md, offset 0x1000 + p × 0x100. -/
def REPO_CMD : Reg := ⟨"REPO_CMD", .repo, 4198400, [(4, 256)], 1, false,
  [REPO_CMD.SEQ, REPO_CMD.VOL, REPO_CMD.CMD]⟩

/-- REPO_CMD_STAT.SEQ, 05_repository.md. -/
def REPO_CMD_STAT.SEQ : Field := ⟨176, 31, 16, .ro, 0, .any⟩
/-- REPO_CMD_STAT.RESULT, 05_repository.md. -/
def REPO_CMD_STAT.RESULT : Field := ⟨177, 3, 0, .ro, 0, .any⟩
/-- REPO_CMD_STAT, 05_repository.md, offset 0x1004 + p × 0x100. -/
def REPO_CMD_STAT : Reg := ⟨"REPO_CMD_STAT", .repo, 4198404, [(4, 256)], 1, false,
  [REPO_CMD_STAT.SEQ, REPO_CMD_STAT.RESULT]⟩

/-- REPO_OPEN.LEN, 05_repository.md. -/
def REPO_OPEN.LEN : Field := ⟨178, 96, 64, .rw, 0, .any⟩
/-- REPO_OPEN.BASE, 05_repository.md. -/
def REPO_OPEN.BASE : Field := ⟨179, 32, 0, .rw, 0, .any⟩
/-- REPO_OPEN, 05_repository.md, offset 0x1008 + p × 0x100. -/
def REPO_OPEN : Reg := ⟨"REPO_OPEN", .repo, 4198408, [(4, 256)], 4, false,
  [REPO_OPEN.LEN, REPO_OPEN.BASE]⟩

/-- REPO_LOAD.SEQ, 05_repository.md. -/
def REPO_LOAD.SEQ : Field := ⟨180, 127, 112, .wo, 0, .any⟩
/-- REPO_LOAD.COUNT, 05_repository.md. -/
def REPO_LOAD.COUNT : Field := ⟨181, 63, 40, .wo, 0, .any⟩
/-- REPO_LOAD.SRC, 05_repository.md. -/
def REPO_LOAD.SRC : Field := ⟨182, 39, 0, .wo, 0, .any⟩
/-- REPO_LOAD, 05_repository.md, offset 0x1050 + p × 0x100. -/
def REPO_LOAD : Reg := ⟨"REPO_LOAD", .repo, 4198480, [(4, 256)], 4, false,
  [REPO_LOAD.SEQ, REPO_LOAD.COUNT, REPO_LOAD.SRC]⟩

/-- REPO_LOAD_STAT.SEQ, 05_repository.md. -/
def REPO_LOAD_STAT.SEQ : Field := ⟨183, 31, 16, .ro, 0, .any⟩
/-- REPO_LOAD_STAT.RESULT, 05_repository.md. -/
def REPO_LOAD_STAT.RESULT : Field := ⟨184, 3, 0, .ro, 0, .any⟩
/-- REPO_LOAD_STAT, 05_repository.md, offset 0x1060 + p × 0x100. -/
def REPO_LOAD_STAT : Reg := ⟨"REPO_LOAD_STAT", .repo, 4198496, [(4, 256)], 1, false,
  [REPO_LOAD_STAT.SEQ, REPO_LOAD_STAT.RESULT]⟩

/-- REPO_VOL_SEL.VOL, 05_repository.md. -/
def REPO_VOL_SEL.VOL : Field := ⟨185, 7, 0, .rw, 0, .any⟩
/-- REPO_VOL_SEL, 05_repository.md, offset 0x1020 + p × 0x100. -/
def REPO_VOL_SEL : Reg := ⟨"REPO_VOL_SEL", .repo, 4198432, [(4, 256)], 1, true,
  [REPO_VOL_SEL.VOL]⟩

/-- REPO_VOL_STATE.LOADED, 05_repository.md. -/
def REPO_VOL_STATE.LOADED : Field := ⟨186, 96, 64, .ro, 0, .any⟩
/-- REPO_VOL_STATE.THIN, 05_repository.md. -/
def REPO_VOL_STATE.THIN : Field := ⟨187, 36, 36, .ro, 0, .any⟩
/-- REPO_VOL_STATE.STATE, 05_repository.md. -/
def REPO_VOL_STATE.STATE : Field := ⟨188, 35, 33, .ro, 0, .any⟩
/-- REPO_VOL_STATE.BASE, 05_repository.md. -/
def REPO_VOL_STATE.BASE : Field := ⟨189, 32, 0, .ro, 0, .any⟩
/-- REPO_VOL_STATE, 05_repository.md, offset 0x1028 + p × 0x100. -/
def REPO_VOL_STATE : Reg := ⟨"REPO_VOL_STATE", .repo, 4198440, [(4, 256)], 4, false,
  [REPO_VOL_STATE.LOADED, REPO_VOL_STATE.THIN, REPO_VOL_STATE.STATE, REPO_VOL_STATE.BASE]⟩

/-- REPO_EVT.LOST, 05_repository.md. -/
def REPO_EVT.LOST : Field := ⟨190, 5, 5, .w1c, 0, .any⟩
/-- REPO_EVT.UNBOUND, 05_repository.md. -/
def REPO_EVT.UNBOUND : Field := ⟨191, 4, 4, .w1c, 0, .any⟩
/-- REPO_EVT.LOAD_FAULT, 05_repository.md. -/
def REPO_EVT.LOAD_FAULT : Field := ⟨192, 3, 3, .w1c, 0, .any⟩
/-- REPO_EVT.LOAD_DONE, 05_repository.md. -/
def REPO_EVT.LOAD_DONE : Field := ⟨193, 2, 2, .w1c, 0, .any⟩
/-- REPO_EVT.DIE_FAILED, 05_repository.md. -/
def REPO_EVT.DIE_FAILED : Field := ⟨194, 1, 1, .w1c, 0, .any⟩
/-- REPO_EVT.CH_FAILED, 05_repository.md. -/
def REPO_EVT.CH_FAILED : Field := ⟨195, 0, 0, .w1c, 0, .any⟩
/-- REPO_EVT, 05_repository.md, offset 0x1040 + p × 0x100. -/
def REPO_EVT : Reg := ⟨"REPO_EVT", .repo, 4198464, [(4, 256)], 1, false,
  [REPO_EVT.LOST, REPO_EVT.UNBOUND, REPO_EVT.LOAD_FAULT, REPO_EVT.LOAD_DONE, REPO_EVT.DIE_FAILED, REPO_EVT.CH_FAILED]⟩

/-- REPO_FLT.TILE, 05_repository.md. -/
def REPO_FLT.TILE : Field := ⟨196, 63, 62, .ro, 0, .any⟩
/-- REPO_FLT.PAGE, 05_repository.md. -/
def REPO_FLT.PAGE : Field := ⟨197, 32, 0, .ro, 0, .any⟩
/-- REPO_FLT, 05_repository.md, offset 0x1048 + p × 0x100. -/
def REPO_FLT : Reg := ⟨"REPO_FLT", .repo, 4198472, [(4, 256)], 2, false,
  [REPO_FLT.TILE, REPO_FLT.PAGE]⟩

/-- CORE_STAT.PHYS, 06_cores_threads.md. -/
def CORE_STAT.PHYS : Field := ⟨198, 23, 16, .ro, 0, .any⟩
/-- CORE_STAT.READY, 06_cores_threads.md. -/
def CORE_STAT.READY : Field := ⟨199, 15, 10, .ro, 0, .any⟩
/-- CORE_STAT.PARKED, 06_cores_threads.md. -/
def CORE_STAT.PARKED : Field := ⟨200, 9, 4, .ro, 0, .any⟩
/-- CORE_STAT.TEST, 06_cores_threads.md. -/
def CORE_STAT.TEST : Field := ⟨201, 3, 3, .ro, 0, .any⟩
/-- CORE_STAT.FAULT, 06_cores_threads.md. -/
def CORE_STAT.FAULT : Field := ⟨202, 2, 2, .ro, 0, .any⟩
/-- CORE_STAT.QUIET, 06_cores_threads.md. -/
def CORE_STAT.QUIET : Field := ⟨203, 1, 1, .ro, 0, .any⟩
/-- CORE_STAT.RUN, 06_cores_threads.md. -/
def CORE_STAT.RUN : Field := ⟨204, 0, 0, .ro, 0, .any⟩
/-- CORE_STAT, 06_cores_threads.md, offset 0x000 + m × 0x800. -/
def CORE_STAT : Reg := ⟨"CORE_STAT", .core, 16777216, [(64, 524288), (152, 2048)], 1, false,
  [CORE_STAT.PHYS, CORE_STAT.READY, CORE_STAT.PARKED, CORE_STAT.TEST, CORE_STAT.FAULT, CORE_STAT.QUIET, CORE_STAT.RUN]⟩

/-- CORE_THR_STATE.STATE, 06_cores_threads.md. -/
def CORE_THR_STATE.STATE : Field := ⟨205, 127, 0, .ro, 0, .any⟩
/-- CORE_THR_STATE, 06_cores_threads.md, offset 0x010–0x01C + m × 0x800. -/
def CORE_THR_STATE : Reg := ⟨"CORE_THR_STATE", .core, 16777232, [(64, 524288), (152, 2048)], 4, false,
  [CORE_THR_STATE.STATE]⟩

/-- CORE_FLT.VALID, 06_cores_threads.md. -/
def CORE_FLT.VALID : Field := ⟨206, 31, 31, .w1c, 0, .any⟩
/-- CORE_FLT.OVER, 06_cores_threads.md. -/
def CORE_FLT.OVER : Field := ⟨207, 30, 30, .w1c, 0, .any⟩
/-- CORE_FLT.THREAD, 06_cores_threads.md. -/
def CORE_FLT.THREAD : Field := ⟨208, 28, 24, .ro, 0, .any⟩
/-- CORE_FLT.PC, 06_cores_threads.md. -/
def CORE_FLT.PC : Field := ⟨209, 20, 8, .ro, 0, .any⟩
/-- CORE_FLT.CODE, 06_cores_threads.md. -/
def CORE_FLT.CODE : Field := ⟨210, 7, 0, .ro, 0, .any⟩
/-- CORE_FLT, 06_cores_threads.md, offset 0x020 + m × 0x800. -/
def CORE_FLT : Reg := ⟨"CORE_FLT", .core, 16777248, [(64, 524288), (152, 2048)], 1, false,
  [CORE_FLT.VALID, CORE_FLT.OVER, CORE_FLT.THREAD, CORE_FLT.PC, CORE_FLT.CODE]⟩

/-- CORE_THR_SEL.THREAD, 06_cores_threads.md. -/
def CORE_THR_SEL.THREAD : Field := ⟨211, 4, 0, .rw, 0, .any⟩
/-- CORE_THR_SEL, 06_cores_threads.md, offset 0x030 + m × 0x800. -/
def CORE_THR_SEL : Reg := ⟨"CORE_THR_SEL", .core, 16777264, [(64, 524288), (152, 2048)], 1, true,
  [CORE_THR_SEL.THREAD]⟩

/-- CORE_THR_INFO.PARK_KIND, 06_cores_threads.md. -/
def CORE_THR_INFO.PARK_KIND : Field := ⟨212, 63, 60, .ro, 0, .any⟩
/-- CORE_THR_INFO.PARK_ID, 06_cores_threads.md. -/
def CORE_THR_INFO.PARK_ID : Field := ⟨213, 47, 32, .ro, 0, .any⟩
/-- CORE_THR_INFO.PC, 06_cores_threads.md. -/
def CORE_THR_INFO.PC : Field := ⟨214, 12, 0, .ro, 0, .any⟩
/-- CORE_THR_INFO, 06_cores_threads.md, offset 0x038 + m × 0x800. -/
def CORE_THR_INFO : Reg := ⟨"CORE_THR_INFO", .core, 16777272, [(64, 524288), (152, 2048)], 2, false,
  [CORE_THR_INFO.PARK_KIND, CORE_THR_INFO.PARK_ID, CORE_THR_INFO.PC]⟩

/-- CORE_MEM_ADDR.WORD, 06_cores_threads.md. -/
def CORE_MEM_ADDR.WORD : Field := ⟨215, 15, 0, .rw, 0, .any⟩
/-- CORE_MEM_ADDR, 06_cores_threads.md, offset 0x040 + m × 0x800. -/
def CORE_MEM_ADDR : Reg := ⟨"CORE_MEM_ADDR", .core, 16777280, [(64, 524288), (152, 2048)], 1, true,
  [CORE_MEM_ADDR.WORD]⟩

/-- CORE_MEM_DATA.DATA, 06_cores_threads.md. -/
def CORE_MEM_DATA.DATA : Field := ⟨216, 63, 0, .rw, 0, .any⟩
/-- CORE_MEM_DATA, 06_cores_threads.md, offset 0x048 + m × 0x800. -/
def CORE_MEM_DATA : Reg := ⟨"CORE_MEM_DATA", .core, 16777288, [(64, 524288), (152, 2048)], 2, false,
  [CORE_MEM_DATA.DATA]⟩

/-- CORE_MEM_FE.POISON, 06_cores_threads.md. -/
def CORE_MEM_FE.POISON : Field := ⟨217, 1, 1, .ro, 0, .any⟩
/-- CORE_MEM_FE.FE, 06_cores_threads.md. -/
def CORE_MEM_FE.FE : Field := ⟨218, 0, 0, .rw, 0, .any⟩
/-- CORE_MEM_FE, 06_cores_threads.md, offset 0x050 + m × 0x800. -/
def CORE_MEM_FE : Reg := ⟨"CORE_MEM_FE", .core, 16777296, [(64, 524288), (152, 2048)], 1, false,
  [CORE_MEM_FE.POISON, CORE_MEM_FE.FE]⟩

/-- CORE_FQUIET.QUIET, 06_cores_threads.md. -/
def CORE_FQUIET.QUIET : Field := ⟨219, 159, 0, .ro, 0, .any⟩
/-- CORE_FQUIET, 06_cores_threads.md, offset 0x7_F000. -/
def CORE_FQUIET : Reg := ⟨"CORE_FQUIET", .core, 17297408, [(64, 524288)], 5, false,
  [CORE_FQUIET.QUIET]⟩

/-- STR_FG_CFG.VALID, 07_streams_fences.md. -/
def STR_FG_CFG.VALID : Field := ⟨220, 31, 31, .ro, 0, .any⟩
/-- STR_FG_CFG.LANES, 07_streams_fences.md. -/
def STR_FG_CFG.LANES : Field := ⟨221, 17, 16, .ro, 0, .any⟩
/-- STR_FG_CFG.LATE_LIMIT, 07_streams_fences.md. -/
def STR_FG_CFG.LATE_LIMIT : Field := ⟨222, 15, 8, .rwl, 4, .range 1 255⟩
/-- STR_FG_CFG, 07_streams_fences.md, offset 0x0000 + p × 0x1000 + g × 0x40. -/
def STR_FG_CFG : Reg := ⟨"STR_FG_CFG", .str, 7340032, [(4, 4096), (16, 64)], 1, false,
  [STR_FG_CFG.VALID, STR_FG_CFG.LANES, STR_FG_CFG.LATE_LIMIT]⟩

/-- STR_FG_LANE.LATE_RUN, 07_streams_fences.md. -/
def STR_FG_LANE.LATE_RUN : Field := ⟨223, 31, 24, .ro, 0, .any⟩
/-- STR_FG_LANE.FENCE, 07_streams_fences.md. -/
def STR_FG_LANE.FENCE : Field := ⟨224, 15, 0, .ro, 0, .any⟩
/-- STR_FG_LANE, 07_streams_fences.md, offset 0x0004 + p × 0x1000 + g × 0x40 + l × 4, l = 0–3. -/
def STR_FG_LANE : Reg := ⟨"STR_FG_LANE", .str, 7340036, [(4, 4096), (16, 64), (4, 4)], 1, false,
  [STR_FG_LANE.LATE_RUN, STR_FG_LANE.FENCE]⟩

/-- STR_FG_EVT.LATE_RUN, 07_streams_fences.md. -/
def STR_FG_EVT.LATE_RUN : Field := ⟨225, 3, 0, .w1c, 0, .any⟩
/-- STR_FG_EVT, 07_streams_fences.md, offset 0x0014 + p × 0x1000 + g × 0x40. -/
def STR_FG_EVT : Reg := ⟨"STR_FG_EVT", .str, 7340052, [(4, 4096), (16, 64)], 1, false,
  [STR_FG_EVT.LATE_RUN]⟩

/-- STR_FG_FIELDS.FIELDS, 07_streams_fences.md. -/
def STR_FG_FIELDS.FIELDS : Field := ⟨226, 63, 0, .ro, 0, .any⟩
/-- STR_FG_FIELDS, 07_streams_fences.md, offset 0x0018 + p × 0x1000 + g × 0x40. -/
def STR_FG_FIELDS : Reg := ⟨"STR_FG_FIELDS", .str, 7340056, [(4, 4096), (16, 64)], 2, false,
  [STR_FG_FIELDS.FIELDS]⟩

/-- CORE_SQ_STAT.STATE, 07_streams_fences.md. -/
def CORE_SQ_STAT.STATE : Field := ⟨227, 31, 29, .ro, 0, .any⟩
/-- CORE_SQ_STAT.HALT_CAUSE, 07_streams_fences.md. -/
def CORE_SQ_STAT.HALT_CAUSE : Field := ⟨228, 23, 16, .ro, 0, .any⟩
/-- CORE_SQ_STAT.KICKS, 07_streams_fences.md. -/
def CORE_SQ_STAT.KICKS : Field := ⟨229, 15, 8, .ro, 0, .any⟩
/-- CORE_SQ_STAT.INFLIGHT, 07_streams_fences.md. -/
def CORE_SQ_STAT.INFLIGHT : Field := ⟨230, 7, 5, .ro, 0, .any⟩
/-- CORE_SQ_STAT.BATCHES, 07_streams_fences.md. -/
def CORE_SQ_STAT.BATCHES : Field := ⟨231, 4, 2, .ro, 0, .any⟩
/-- CORE_SQ_STAT, 07_streams_fences.md, offset 0x100 + e × 0x20 + m × 0x800, e = 0–3. -/
def CORE_SQ_STAT : Reg := ⟨"CORE_SQ_STAT", .core, 16777472, [(64, 524288), (152, 2048), (4, 32)], 1, false,
  [CORE_SQ_STAT.STATE, CORE_SQ_STAT.HALT_CAUSE, CORE_SQ_STAT.KICKS, CORE_SQ_STAT.INFLIGHT, CORE_SQ_STAT.BATCHES]⟩

/-- CORE_SQ_CUR.LANDED, 07_streams_fences.md. -/
def CORE_SQ_CUR.LANDED : Field := ⟨232, 62, 60, .ro, 0, .any⟩
/-- CORE_SQ_CUR.SLOT, 07_streams_fences.md. -/
def CORE_SQ_CUR.SLOT : Field := ⟨233, 57, 56, .ro, 0, .any⟩
/-- CORE_SQ_CUR.TILE, 07_streams_fences.md. -/
def CORE_SQ_CUR.TILE : Field := ⟨234, 55, 48, .ro, 0, .any⟩
/-- CORE_SQ_CUR.DESC, 07_streams_fences.md. -/
def CORE_SQ_CUR.DESC : Field := ⟨235, 47, 45, .ro, 0, .any⟩
/-- CORE_SQ_CUR.LPAGE, 07_streams_fences.md. -/
def CORE_SQ_CUR.LPAGE : Field := ⟨236, 39, 0, .ro, 0, .any⟩
/-- CORE_SQ_CUR, 07_streams_fences.md, offset 0x108 + e × 0x20 + m × 0x800, e = 0–3. -/
def CORE_SQ_CUR : Reg := ⟨"CORE_SQ_CUR", .core, 16777480, [(64, 524288), (152, 2048), (4, 32)], 2, false,
  [CORE_SQ_CUR.LANDED, CORE_SQ_CUR.SLOT, CORE_SQ_CUR.TILE, CORE_SQ_CUR.DESC, CORE_SQ_CUR.LPAGE]⟩

/-- SYN_POOL_SPLIT.P3, 08_synchronisation.md. -/
def SYN_POOL_SPLIT.P3 : Field := ⟨237, 63, 48, .ro, 0, .any⟩
/-- SYN_POOL_SPLIT.P2, 08_synchronisation.md. -/
def SYN_POOL_SPLIT.P2 : Field := ⟨238, 47, 32, .ro, 0, .any⟩
/-- SYN_POOL_SPLIT.P1, 08_synchronisation.md. -/
def SYN_POOL_SPLIT.P1 : Field := ⟨239, 31, 16, .ro, 0, .any⟩
/-- SYN_POOL_SPLIT.P0, 08_synchronisation.md. -/
def SYN_POOL_SPLIT.P0 : Field := ⟨240, 15, 0, .ro, 0, .any⟩
/-- SYN_POOL_SPLIT, 08_synchronisation.md, offset 0x0000. -/
def SYN_POOL_SPLIT : Reg := ⟨"SYN_POOL_SPLIT", .syn, 8388608, [], 2, false,
  [SYN_POOL_SPLIT.P3, SYN_POOL_SPLIT.P2, SYN_POOL_SPLIT.P1, SYN_POOL_SPLIT.P0]⟩

/-- SYN_POOL_FREE.BLOCKS, 08_synchronisation.md. -/
def SYN_POOL_FREE.BLOCKS : Field := ⟨241, 8, 0, .ro, 256, .any⟩
/-- SYN_POOL_FREE, 08_synchronisation.md, offset 0x0008. -/
def SYN_POOL_FREE : Reg := ⟨"SYN_POOL_FREE", .syn, 8388616, [], 1, false,
  [SYN_POOL_FREE.BLOCKS]⟩

/-- SYN_POOL_MAP.MAP, 08_synchronisation.md. -/
def SYN_POOL_MAP.MAP : Field := ⟨242, 31, 0, .ro, 0, .any⟩
/-- SYN_POOL_MAP, 08_synchronisation.md, offset 0x0100 + i × 4, i = 0–31. -/
def SYN_POOL_MAP : Reg := ⟨"SYN_POOL_MAP", .syn, 8388864, [(32, 4)], 1, false,
  [SYN_POOL_MAP.MAP]⟩

/-- SYN_EVT.LINK_LOST, 08_synchronisation.md. -/
def SYN_EVT.LINK_LOST : Field := ⟨243, 4, 4, .w1c, 0, .any⟩
/-- SYN_EVT.LC_ERR, 08_synchronisation.md. -/
def SYN_EVT.LC_ERR : Field := ⟨244, 3, 3, .w1c, 0, .any⟩
/-- SYN_EVT.XPART, 08_synchronisation.md. -/
def SYN_EVT.XPART : Field := ⟨245, 2, 2, .w1c, 0, .any⟩
/-- SYN_EVT.SAT, 08_synchronisation.md. -/
def SYN_EVT.SAT : Field := ⟨246, 1, 1, .w1c, 0, .any⟩
/-- SYN_EVT.UFL, 08_synchronisation.md. -/
def SYN_EVT.UFL : Field := ⟨247, 0, 0, .w1c, 0, .any⟩
/-- SYN_EVT, 08_synchronisation.md, offset 0x1000 + p × 0x1000. -/
def SYN_EVT : Reg := ⟨"SYN_EVT", .syn, 8392704, [(4, 4096)], 1, false,
  [SYN_EVT.LINK_LOST, SYN_EVT.LC_ERR, SYN_EVT.XPART, SYN_EVT.SAT, SYN_EVT.UFL]⟩

/-- SYN_FLT.VALID, 08_synchronisation.md. -/
def SYN_FLT.VALID : Field := ⟨248, 63, 63, .w1c, 0, .any⟩
/-- SYN_FLT.OVER, 08_synchronisation.md. -/
def SYN_FLT.OVER : Field := ⟨249, 62, 62, .w1c, 0, .any⟩
/-- SYN_FLT.CODE, 08_synchronisation.md. -/
def SYN_FLT.CODE : Field := ⟨250, 55, 48, .ro, 0, .any⟩
/-- SYN_FLT.SFIELD, 08_synchronisation.md. -/
def SYN_FLT.SFIELD : Field := ⟨251, 47, 42, .ro, 0, .any⟩
/-- SYN_FLT.SCORE, 08_synchronisation.md. -/
def SYN_FLT.SCORE : Field := ⟨252, 41, 34, .ro, 0, .any⟩
/-- SYN_FLT.SUNIT, 08_synchronisation.md. -/
def SYN_FLT.SUNIT : Field := ⟨253, 33, 28, .ro, 0, .any⟩
/-- SYN_FLT.TARGET, 08_synchronisation.md. -/
def SYN_FLT.TARGET : Field := ⟨254, 23, 0, .ro, 0, .any⟩
/-- SYN_FLT, 08_synchronisation.md, offset 0x1008 + p × 0x1000. -/
def SYN_FLT : Reg := ⟨"SYN_FLT", .syn, 8392712, [(4, 4096)], 2, false,
  [SYN_FLT.VALID, SYN_FLT.OVER, SYN_FLT.CODE, SYN_FLT.SFIELD, SYN_FLT.SCORE, SYN_FLT.SUNIT, SYN_FLT.TARGET]⟩

/-- SYN_URG.SHARE, 08_synchronisation.md. -/
def SYN_URG.SHARE : Field := ⟨255, 15, 8, .ro, 0, .any⟩
/-- SYN_URG.SOURCES, 08_synchronisation.md. -/
def SYN_URG.SOURCES : Field := ⟨256, 7, 0, .ro, 0, .any⟩
/-- SYN_URG, 08_synchronisation.md, offset 0x1010 + p × 0x1000. -/
def SYN_URG : Reg := ⟨"SYN_URG", .syn, 8392720, [(4, 4096)], 1, false,
  [SYN_URG.SHARE, SYN_URG.SOURCES]⟩

/-- SYN_BAR.GEN, 08_synchronisation.md. -/
def SYN_BAR.GEN : Field := ⟨257, 31, 16, .ro, 0, .any⟩
/-- SYN_BAR.STATUS, 08_synchronisation.md. -/
def SYN_BAR.STATUS : Field := ⟨258, 15, 14, .ro, 0, .any⟩
/-- SYN_BAR.ARRIVED, 08_synchronisation.md. -/
def SYN_BAR.ARRIVED : Field := ⟨259, 13, 0, .ro, 0, .any⟩
/-- SYN_BAR, 08_synchronisation.md, offset 0x1100 + p × 0x1000 + b × 4, b = 0–63. -/
def SYN_BAR : Reg := ⟨"SYN_BAR", .syn, 8392960, [(4, 4096), (64, 4)], 1, false,
  [SYN_BAR.GEN, SYN_BAR.STATUS, SYN_BAR.ARRIVED]⟩

/-- LDG_CTL.PRESS_EN, 09_ledger.md. -/
def LDG_CTL.PRESS_EN : Field := ⟨260, 2, 2, .rwl, 1, .any⟩
/-- LDG_CTL.DROP_EN, 09_ledger.md. -/
def LDG_CTL.DROP_EN : Field := ⟨261, 1, 1, .rwl, 1, .any⟩
/-- LDG_CTL.EN, 09_ledger.md. -/
def LDG_CTL.EN : Field := ⟨262, 0, 0, .rwl, 1, .any⟩
/-- LDG_CTL, 09_ledger.md, offset 0x000. -/
def LDG_CTL : Reg := ⟨"LDG_CTL", .ldg, 5242880, [(64, 4096)], 1, false,
  [LDG_CTL.PRESS_EN, LDG_CTL.DROP_EN, LDG_CTL.EN]⟩

/-- LDG_STAT.EMERG, 09_ledger.md. -/
def LDG_STAT.EMERG : Field := ⟨263, 31, 31, .ro, 0, .any⟩
/-- LDG_STAT.ENTRIES, 09_ledger.md. -/
def LDG_STAT.ENTRIES : Field := ⟨264, 16, 0, .ro, 0, .any⟩
/-- LDG_STAT, 09_ledger.md, offset 0x004. -/
def LDG_STAT : Reg := ⟨"LDG_STAT", .ldg, 5242884, [(64, 4096)], 1, false,
  [LDG_STAT.EMERG, LDG_STAT.ENTRIES]⟩

/-- LDG_T1.USED, 09_ledger.md. -/
def LDG_T1.USED : Field := ⟨265, 26, 16, .ro, 0, .any⟩
/-- LDG_T1.BUDGET, 09_ledger.md. -/
def LDG_T1.BUDGET : Field := ⟨266, 10, 0, .ro, 0, .any⟩
/-- LDG_T1, 09_ledger.md, offset 0x008. -/
def LDG_T1 : Reg := ⟨"LDG_T1", .ldg, 5242888, [(64, 4096)], 1, false,
  [LDG_T1.USED, LDG_T1.BUDGET]⟩

/-- LDG_T1_PEAK.PEAK, 09_ledger.md. -/
def LDG_T1_PEAK.PEAK : Field := ⟨267, 10, 0, .rc, 0, .any⟩
/-- LDG_T1_PEAK, 09_ledger.md, offset 0x00C. -/
def LDG_T1_PEAK : Reg := ⟨"LDG_T1_PEAK", .ldg, 5242892, [(64, 4096)], 1, false,
  [LDG_T1_PEAK.PEAK]⟩

/-- LDG_RSV.FREE, 09_ledger.md. -/
def LDG_RSV.FREE : Field := ⟨268, 26, 16, .ro, 0, .any⟩
/-- LDG_RSV.SIZE, 09_ledger.md. -/
def LDG_RSV.SIZE : Field := ⟨269, 10, 0, .ro, 0, .any⟩
/-- LDG_RSV, 09_ledger.md, offset 0x010. -/
def LDG_RSV : Reg := ⟨"LDG_RSV", .ldg, 5242896, [(64, 4096)], 1, false,
  [LDG_RSV.FREE, LDG_RSV.SIZE]⟩

/-- LDG_EVT.LOST, 09_ledger.md. -/
def LDG_EVT.LOST : Field := ⟨270, 6, 6, .w1c, 0, .any⟩
/-- LDG_EVT.FETCH_FAIL, 09_ledger.md. -/
def LDG_EVT.FETCH_FAIL : Field := ⟨271, 5, 5, .w1c, 0, .any⟩
/-- LDG_EVT.SPILL_FAIL, 09_ledger.md. -/
def LDG_EVT.SPILL_FAIL : Field := ⟨272, 4, 4, .w1c, 0, .any⟩
/-- LDG_EVT.EMERG_STUCK, 09_ledger.md. -/
def LDG_EVT.EMERG_STUCK : Field := ⟨273, 3, 3, .w1c, 0, .any⟩
/-- LDG_EVT.BUDGET_WAIT, 09_ledger.md. -/
def LDG_EVT.BUDGET_WAIT : Field := ⟨274, 2, 2, .w1c, 0, .any⟩
/-- LDG_EVT.ENTRY_FULL, 09_ledger.md. -/
def LDG_EVT.ENTRY_FULL : Field := ⟨275, 1, 1, .w1c, 0, .any⟩
/-- LDG_EVT.EMERG_SPILL, 09_ledger.md. -/
def LDG_EVT.EMERG_SPILL : Field := ⟨276, 0, 0, .w1c, 0, .any⟩
/-- LDG_EVT, 09_ledger.md, offset 0x014. -/
def LDG_EVT : Reg := ⟨"LDG_EVT", .ldg, 5242900, [(64, 4096)], 1, false,
  [LDG_EVT.LOST, LDG_EVT.FETCH_FAIL, LDG_EVT.SPILL_FAIL, LDG_EVT.EMERG_STUCK, LDG_EVT.BUDGET_WAIT, LDG_EVT.ENTRY_FULL, LDG_EVT.EMERG_SPILL]⟩

/-- LDG_FLT.VALID, 09_ledger.md. -/
def LDG_FLT.VALID : Field := ⟨277, 63, 63, .w1c, 0, .any⟩
/-- LDG_FLT.OVER, 09_ledger.md. -/
def LDG_FLT.OVER : Field := ⟨278, 62, 62, .w1c, 0, .any⟩
/-- LDG_FLT.CODE, 09_ledger.md. -/
def LDG_FLT.CODE : Field := ⟨279, 55, 48, .ro, 0, .any⟩
/-- LDG_FLT.ENTRY, 09_ledger.md. -/
def LDG_FLT.ENTRY : Field := ⟨280, 47, 32, .ro, 0, .any⟩
/-- LDG_FLT.GEN, 09_ledger.md. -/
def LDG_FLT.GEN : Field := ⟨281, 31, 24, .ro, 0, .any⟩
/-- LDG_FLT.TCODE, 09_ledger.md. -/
def LDG_FLT.TCODE : Field := ⟨282, 7, 0, .ro, 0, .any⟩
/-- LDG_FLT, 09_ledger.md, offset 0x018. -/
def LDG_FLT : Reg := ⟨"LDG_FLT", .ldg, 5242904, [(64, 4096)], 2, false,
  [LDG_FLT.VALID, LDG_FLT.OVER, LDG_FLT.CODE, LDG_FLT.ENTRY, LDG_FLT.GEN, LDG_FLT.TCODE]⟩

/-- LDG_ENT_SEL.ENTRY, 09_ledger.md. -/
def LDG_ENT_SEL.ENTRY : Field := ⟨283, 15, 0, .rw, 0, .any⟩
/-- LDG_ENT_SEL, 09_ledger.md, offset 0x020. -/
def LDG_ENT_SEL : Reg := ⟨"LDG_ENT_SEL", .ldg, 5242912, [(64, 4096)], 1, true,
  [LDG_ENT_SEL.ENTRY]⟩

/-- LDG_ENT.RECORD, 09_ledger.md. -/
def LDG_ENT.RECORD : Field := ⟨284, 511, 0, .ro, 0, .any⟩
/-- LDG_ENT, 09_ledger.md, offset 0x040. -/
def LDG_ENT : Reg := ⟨"LDG_ENT", .ldg, 5242944, [(64, 4096)], 16, false,
  [LDG_ENT.RECORD]⟩

/-- LDG_PROG.MARK, 09_ledger.md. -/
def LDG_PROG.MARK : Field := ⟨285, 31, 16, .ro, 0, .any⟩
/-- LDG_PROG.FENCE, 09_ledger.md. -/
def LDG_PROG.FENCE : Field := ⟨286, 15, 0, .ro, 0, .any⟩
/-- LDG_PROG, 09_ledger.md, offset 0x080 + (g × 4 + l) × 4, g = 0–15, l = 0–3. -/
def LDG_PROG : Reg := ⟨"LDG_PROG", .ldg, 5243008, [(64, 4096), (16, 16), (4, 4)], 1, false,
  [LDG_PROG.MARK, LDG_PROG.FENCE]⟩

/-- LDG_NSTATE.COUNT, 09_ledger.md. -/
def LDG_NSTATE.COUNT : Field := ⟨287, 16, 0, .ro, 0, .any⟩
/-- LDG_NSTATE, 09_ledger.md, offset 0x180 + s × 4, s = 1–9. -/
def LDG_NSTATE : Reg := ⟨"LDG_NSTATE", .ldg, 5243268, [(64, 4096), (9, 4)], 1, false,
  [LDG_NSTATE.COUNT]⟩

/-- LDG_POL_CTL.LEAD_MAX, 10_policy_fetchback.md. -/
def LDG_POL_CTL.LEAD_MAX : Field := ⟨288, 31, 24, .rwl, 20, .range 1 255⟩
/-- LDG_POL_CTL.WIN, 10_policy_fetchback.md. -/
def LDG_POL_CTL.WIN : Field := ⟨289, 23, 20, .rwl, 3, .range 1 8⟩
/-- LDG_POL_CTL.STEPS, 10_policy_fetchback.md. -/
def LDG_POL_CTL.STEPS : Field := ⟨290, 19, 10, .rwl, 256, .range 16 1023⟩
/-- LDG_POL_CTL.SCAN, 10_policy_fetchback.md. -/
def LDG_POL_CTL.SCAN : Field := ⟨291, 7, 0, .rwl, 10, .range 1 255⟩
/-- LDG_POL_CTL, 10_policy_fetchback.md, offset 0x200. -/
def LDG_POL_CTL : Reg := ⟨"LDG_POL_CTL", .ldg, 5243392, [(64, 4096)], 1, false,
  [LDG_POL_CTL.LEAD_MAX, LDG_POL_CTL.WIN, LDG_POL_CTL.STEPS, LDG_POL_CTL.SCAN]⟩

/-- LDG_EST.T2R, 10_policy_fetchback.md. -/
def LDG_EST.T2R : Field := ⟨292, 23, 0, .ro, 0, .any⟩
/-- LDG_EST.T2W, 10_policy_fetchback.md. -/
def LDG_EST.T2W : Field := ⟨293, 55, 32, .ro, 0, .any⟩
/-- LDG_EST.PRESS, 10_policy_fetchback.md. -/
def LDG_EST.PRESS : Field := ⟨294, 87, 64, .ro, 0, .any⟩
/-- LDG_EST.DEC, 10_policy_fetchback.md. -/
def LDG_EST.DEC : Field := ⟨295, 119, 96, .ro, 0, .any⟩
/-- LDG_EST, 10_policy_fetchback.md, offset 0x204–0x210. -/
def LDG_EST : Reg := ⟨"LDG_EST", .ldg, 5243396, [(64, 4096)], 4, false,
  [LDG_EST.T2R, LDG_EST.T2W, LDG_EST.PRESS, LDG_EST.DEC]⟩

/-- LDG_EST_TF.TICKS, 10_policy_fetchback.md. -/
def LDG_EST_TF.TICKS : Field := ⟨296, 31, 0, .ro, 0, .any⟩
/-- LDG_EST_TF, 10_policy_fetchback.md, offset 0x240 + (g × 4 + l) × 4, g = 0–15, l = 0–3. -/
def LDG_EST_TF : Reg := ⟨"LDG_EST_TF", .ldg, 5243456, [(64, 4096), (16, 16), (4, 4)], 1, false,
  [LDG_EST_TF.TICKS]⟩

/-- LDG_POL_EVT.LATE_ESC, 10_policy_fetchback.md. -/
def LDG_POL_EVT.LATE_ESC : Field := ⟨297, 1, 1, .w1c, 0, .any⟩
/-- LDG_POL_EVT.POL_FAULT, 10_policy_fetchback.md. -/
def LDG_POL_EVT.POL_FAULT : Field := ⟨298, 0, 0, .w1c, 0, .any⟩
/-- LDG_POL_EVT, 10_policy_fetchback.md, offset 0x340. -/
def LDG_POL_EVT : Reg := ⟨"LDG_POL_EVT", .ldg, 5243712, [(64, 4096)], 1, false,
  [LDG_POL_EVT.LATE_ESC, LDG_POL_EVT.POL_FAULT]⟩

/-- LDG_POL_FLT.VALID, 10_policy_fetchback.md. -/
def LDG_POL_FLT.VALID : Field := ⟨299, 31, 31, .w1c, 0, .any⟩
/-- LDG_POL_FLT.OVER, 10_policy_fetchback.md. -/
def LDG_POL_FLT.OVER : Field := ⟨300, 30, 30, .w1c, 0, .any⟩
/-- LDG_POL_FLT.CLASS, 10_policy_fetchback.md. -/
def LDG_POL_FLT.CLASS : Field := ⟨301, 29, 24, .ro, 0, .any⟩
/-- LDG_POL_FLT.PC, 10_policy_fetchback.md. -/
def LDG_POL_FLT.PC : Field := ⟨302, 23, 13, .ro, 0, .any⟩
/-- LDG_POL_FLT.CODE, 10_policy_fetchback.md. -/
def LDG_POL_FLT.CODE : Field := ⟨303, 7, 0, .ro, 0, .any⟩
/-- LDG_POL_FLT, 10_policy_fetchback.md, offset 0x344. -/
def LDG_POL_FLT : Reg := ⟨"LDG_POL_FLT", .ldg, 5243716, [(64, 4096)], 1, false,
  [LDG_POL_FLT.VALID, LDG_POL_FLT.OVER, LDG_POL_FLT.CLASS, LDG_POL_FLT.PC, LDG_POL_FLT.CODE]⟩

/-- LDG_CLS_SEL.CLASS, 10_policy_fetchback.md. -/
def LDG_CLS_SEL.CLASS : Field := ⟨304, 5, 0, .rw, 0, .any⟩
/-- LDG_CLS_SEL, 10_policy_fetchback.md, offset 0x348. -/
def LDG_CLS_SEL : Reg := ⟨"LDG_CLS_SEL", .ldg, 5243720, [(64, 4096)], 1, true,
  [LDG_CLS_SEL.CLASS]⟩

/-- LDG_SLIPQ.TILES, 10_policy_fetchback.md. -/
def LDG_SLIPQ.TILES : Field := ⟨305, 23, 0, .ro, 0, .any⟩
/-- LDG_SLIPQ, 10_policy_fetchback.md, offset 0x34C. -/
def LDG_SLIPQ : Reg := ⟨"LDG_SLIPQ", .ldg, 5243724, [(64, 4096)], 1, false,
  [LDG_SLIPQ.TILES]⟩

/-- LDG_CLS.WORD, 10_policy_fetchback.md. -/
def LDG_CLS.WORD : Field := ⟨306, 511, 0, .ro, 0, .any⟩
/-- LDG_CLS, 10_policy_fetchback.md, offset 0x380 + w × 4, w = 0–15. -/
def LDG_CLS : Reg := ⟨"LDG_CLS", .ldg, 5243776, [(64, 4096)], 16, false,
  [LDG_CLS.WORD]⟩

/-- LDG_BOOST.TICKS, 10_policy_fetchback.md. -/
def LDG_BOOST.TICKS : Field := ⟨307, 31, 0, .ro, 0, .any⟩
/-- LDG_BOOST, 10_policy_fetchback.md, offset 0x400 + c × 4, c = 0–63. -/
def LDG_BOOST : Reg := ⟨"LDG_BOOST", .ldg, 5243904, [(64, 4096), (64, 4)], 1, false,
  [LDG_BOOST.TICKS]⟩

/-- LDG_REP_STAT.QUEUED, 11_replay.md. -/
def LDG_REP_STAT.QUEUED : Field := ⟨308, 31, 24, .ro, 0, .any⟩
/-- LDG_REP_STAT.SLOTS, 11_replay.md. -/
def LDG_REP_STAT.SLOTS : Field := ⟨309, 12, 0, .ro, 0, .any⟩
/-- LDG_REP_STAT, 11_replay.md, offset 0x600. -/
def LDG_REP_STAT : Reg := ⟨"LDG_REP_STAT", .ldg, 5244416, [(64, 4096)], 1, false,
  [LDG_REP_STAT.QUEUED, LDG_REP_STAT.SLOTS]⟩

/-- LDG_REP_EVT.STALE, 11_replay.md. -/
def LDG_REP_EVT.STALE : Field := ⟨310, 4, 4, .w1c, 0, .any⟩
/-- LDG_REP_EVT.REP_FAIL, 11_replay.md. -/
def LDG_REP_EVT.REP_FAIL : Field := ⟨311, 3, 3, .w1c, 0, .any⟩
/-- LDG_REP_EVT.MISMATCH, 11_replay.md. -/
def LDG_REP_EVT.MISMATCH : Field := ⟨312, 2, 2, .w1c, 0, .any⟩
/-- LDG_REP_EVT.BROKEN, 11_replay.md. -/
def LDG_REP_EVT.BROKEN : Field := ⟨313, 1, 1, .w1c, 0, .any⟩
/-- LDG_REP_EVT.SLOT_WAIT, 11_replay.md. -/
def LDG_REP_EVT.SLOT_WAIT : Field := ⟨314, 0, 0, .w1c, 0, .any⟩
/-- LDG_REP_EVT, 11_replay.md, offset 0x604. -/
def LDG_REP_EVT : Reg := ⟨"LDG_REP_EVT", .ldg, 5244420, [(64, 4096)], 1, false,
  [LDG_REP_EVT.STALE, LDG_REP_EVT.REP_FAIL, LDG_REP_EVT.MISMATCH, LDG_REP_EVT.BROKEN, LDG_REP_EVT.SLOT_WAIT]⟩

/-- LDG_REP_FLT.VALID, 11_replay.md. -/
def LDG_REP_FLT.VALID : Field := ⟨315, 63, 63, .w1c, 0, .any⟩
/-- LDG_REP_FLT.OVER, 11_replay.md. -/
def LDG_REP_FLT.OVER : Field := ⟨316, 62, 62, .w1c, 0, .any⟩
/-- LDG_REP_FLT.CODE, 11_replay.md. -/
def LDG_REP_FLT.CODE : Field := ⟨317, 55, 48, .ro, 0, .any⟩
/-- LDG_REP_FLT.SID, 11_replay.md. -/
def LDG_REP_FLT.SID : Field := ⟨318, 47, 32, .ro, 0, .any⟩
/-- LDG_REP_FLT.SLOT, 11_replay.md. -/
def LDG_REP_FLT.SLOT : Field := ⟨319, 31, 20, .ro, 0, .any⟩
/-- LDG_REP_FLT.CORE, 11_replay.md. -/
def LDG_REP_FLT.CORE : Field := ⟨320, 19, 12, .ro, 0, .any⟩
/-- LDG_REP_FLT.THREAD, 11_replay.md. -/
def LDG_REP_FLT.THREAD : Field := ⟨321, 11, 7, .ro, 0, .any⟩
/-- LDG_REP_FLT, 11_replay.md, offset 0x608. -/
def LDG_REP_FLT : Reg := ⟨"LDG_REP_FLT", .ldg, 5244424, [(64, 4096)], 2, false,
  [LDG_REP_FLT.VALID, LDG_REP_FLT.OVER, LDG_REP_FLT.CODE, LDG_REP_FLT.SID, LDG_REP_FLT.SLOT, LDG_REP_FLT.CORE, LDG_REP_FLT.THREAD]⟩

/-- LDG_SLOT_SEL.PART, 11_replay.md. -/
def LDG_SLOT_SEL.PART : Field := ⟨322, 15, 12, .rw, 0, .any⟩
/-- LDG_SLOT_SEL.SLOT, 11_replay.md. -/
def LDG_SLOT_SEL.SLOT : Field := ⟨323, 11, 0, .rw, 0, .any⟩
/-- LDG_SLOT_SEL, 11_replay.md, offset 0x610. -/
def LDG_SLOT_SEL : Reg := ⟨"LDG_SLOT_SEL", .ldg, 5244432, [(64, 4096)], 1, true,
  [LDG_SLOT_SEL.PART, LDG_SLOT_SEL.SLOT]⟩

/-- LDG_SLOT.HEADER, 11_replay.md. -/
def LDG_SLOT.HEADER : Field := ⟨324, 1023, 0, .ro, 0, .any⟩
/-- LDG_SLOT, 11_replay.md, offset 0x800. -/
def LDG_SLOT : Reg := ⟨"LDG_SLOT", .ldg, 5244928, [(64, 4096)], 32, false,
  [LDG_SLOT.HEADER]⟩

/-- LDG_SLOT_FRAME.FRAME, 11_replay.md. -/
def LDG_SLOT_FRAME.FRAME : Field := ⟨325, 1023, 0, .ro, 0, .any⟩
/-- LDG_SLOT_FRAME, 11_replay.md, offset 0x880. -/
def LDG_SLOT_FRAME : Reg := ⟨"LDG_SLOT_FRAME", .ldg, 5245056, [(64, 4096)], 32, false,
  [LDG_SLOT_FRAME.FRAME]⟩

/-- CORE_SPAN.STATE, 11_replay.md. -/
def CORE_SPAN.STATE : Field := ⟨326, 31, 30, .ro, 0, .any⟩
/-- CORE_SPAN.SLOT, 11_replay.md. -/
def CORE_SPAN.SLOT : Field := ⟨327, 27, 16, .ro, 0, .any⟩
/-- CORE_SPAN.SID, 11_replay.md. -/
def CORE_SPAN.SID : Field := ⟨328, 15, 0, .ro, 0, .any⟩
/-- CORE_SPAN, 11_replay.md, offset 0x200 + m × 0x800. -/
def CORE_SPAN : Reg := ⟨"CORE_SPAN", .core, 16777728, [(64, 524288), (152, 2048)], 1, false,
  [CORE_SPAN.STATE, CORE_SPAN.SLOT, CORE_SPAN.SID]⟩

/-- CORE_SPAN_STEP.STEP, 11_replay.md. -/
def CORE_SPAN_STEP.STEP : Field := ⟨329, 31, 0, .ro, 0, .any⟩
/-- CORE_SPAN_STEP, 11_replay.md, offset 0x204 + m × 0x800. -/
def CORE_SPAN_STEP : Reg := ⟨"CORE_SPAN_STEP", .core, 16777732, [(64, 524288), (152, 2048)], 1, false,
  [CORE_SPAN_STEP.STEP]⟩

/-- CMP_CTL.VERIFY, 12_compression.md. -/
def CMP_CTL.VERIFY : Field := ⟨330, 9, 9, .rwl, 0, .any⟩
/-- CMP_CTL.ZRUN_EN, 12_compression.md. -/
def CMP_CTL.ZRUN_EN : Field := ⟨331, 8, 8, .rwl, 1, .any⟩
/-- CMP_CTL.DECLINE, 12_compression.md. -/
def CMP_CTL.DECLINE : Field := ⟨332, 7, 0, .rwl, 230, .range 1 255⟩
/-- CMP_CTL, 12_compression.md, offset 0x0000 + p × 0x100. -/
def CMP_CTL : Reg := ⟨"CMP_CTL", .cmp, 6291456, [(4, 256)], 1, false,
  [CMP_CTL.VERIFY, CMP_CTL.ZRUN_EN, CMP_CTL.DECLINE]⟩

/-- CMP_CUP.SAMPLE, 12_compression.md. -/
def CMP_CUP.SAMPLE : Field := ⟨333, 13, 8, .rwl, 8, .range 1 63⟩
/-- CMP_CUP.ZTHR, 12_compression.md. -/
def CMP_CUP.ZTHR : Field := ⟨334, 7, 0, .rwl, 32, .any⟩
/-- CMP_CUP, 12_compression.md, offset 0x0004 + p × 0x100. -/
def CMP_CUP : Reg := ⟨"CMP_CUP", .cmp, 6291460, [(4, 256)], 1, false,
  [CMP_CUP.SAMPLE, CMP_CUP.ZTHR]⟩

/-- CMP_EVT.VERIFY_FAIL, 12_compression.md. -/
def CMP_EVT.VERIFY_FAIL : Field := ⟨335, 2, 2, .w1c, 0, .any⟩
/-- CMP_EVT.TABLE_UE, 12_compression.md. -/
def CMP_EVT.TABLE_UE : Field := ⟨336, 1, 1, .w1c, 0, .any⟩
/-- CMP_EVT.CHECK_FAIL, 12_compression.md. -/
def CMP_EVT.CHECK_FAIL : Field := ⟨337, 0, 0, .w1c, 0, .any⟩
/-- CMP_EVT, 12_compression.md, offset 0x0008 + p × 0x100. -/
def CMP_EVT : Reg := ⟨"CMP_EVT", .cmp, 6291464, [(4, 256)], 1, false,
  [CMP_EVT.VERIFY_FAIL, CMP_EVT.TABLE_UE, CMP_EVT.CHECK_FAIL]⟩

/-- CMP_FLT.VALID, 12_compression.md. -/
def CMP_FLT.VALID : Field := ⟨338, 63, 63, .w1c, 0, .any⟩
/-- CMP_FLT.OVER, 12_compression.md. -/
def CMP_FLT.OVER : Field := ⟨339, 62, 62, .w1c, 0, .any⟩
/-- CMP_FLT.FIELD, 12_compression.md. -/
def CMP_FLT.FIELD : Field := ⟨340, 61, 56, .ro, 0, .any⟩
/-- CMP_FLT.CODE, 12_compression.md. -/
def CMP_FLT.CODE : Field := ⟨341, 55, 48, .ro, 0, .any⟩
/-- CMP_FLT.ENTRY, 12_compression.md. -/
def CMP_FLT.ENTRY : Field := ⟨342, 47, 32, .ro, 0, .any⟩
/-- CMP_FLT.GEN, 12_compression.md. -/
def CMP_FLT.GEN : Field := ⟨343, 31, 24, .ro, 0, .any⟩
/-- CMP_FLT.TILE, 12_compression.md. -/
def CMP_FLT.TILE : Field := ⟨344, 12, 0, .ro, 0, .any⟩
/-- CMP_FLT, 12_compression.md, offset 0x0010 + p × 0x100. -/
def CMP_FLT : Reg := ⟨"CMP_FLT", .cmp, 6291472, [(4, 256)], 2, false,
  [CMP_FLT.VALID, CMP_FLT.OVER, CMP_FLT.FIELD, CMP_FLT.CODE, CMP_FLT.ENTRY, CMP_FLT.GEN, CMP_FLT.TILE]⟩

/-- CMP_FSTAT.LAST_DECL, 12_compression.md. -/
def CMP_FSTAT.LAST_DECL : Field := ⟨345, 31, 28, .ro, 0, .any⟩
/-- CMP_FSTAT.TABLES, 12_compression.md. -/
def CMP_FSTAT.TABLES : Field := ⟨346, 8, 0, .ro, 0, .any⟩
/-- CMP_FSTAT, 12_compression.md, offset 0x1000 + f × 0x10. -/
def CMP_FSTAT : Reg := ⟨"CMP_FSTAT", .cmp, 6295552, [(64, 16)], 1, false,
  [CMP_FSTAT.LAST_DECL, CMP_FSTAT.TABLES]⟩

/-- CMP_TAB_SEL.SLOT, 12_compression.md. -/
def CMP_TAB_SEL.SLOT : Field := ⟨347, 7, 0, .rw, 0, .any⟩
/-- CMP_TAB_SEL, 12_compression.md, offset 0x1004 + f × 0x10. -/
def CMP_TAB_SEL : Reg := ⟨"CMP_TAB_SEL", .cmp, 6295556, [(64, 16)], 1, true,
  [CMP_TAB_SEL.SLOT]⟩

/-- CMP_TAB.RECORD, 12_compression.md. -/
def CMP_TAB.RECORD : Field := ⟨348, 1279, 0, .ro, 0, .any⟩
/-- CMP_TAB, 12_compression.md, offset 0x8000 + f × 0x100. -/
def CMP_TAB : Reg := ⟨"CMP_TAB", .cmp, 6324224, [(64, 256)], 40, false,
  [CMP_TAB.RECORD]⟩

/-- TJL_ID.MASTER, 13_thijolink.md. -/
def TJL_ID.MASTER : Field := ⟨349, 8, 8, .ro, 0, .any⟩
/-- TJL_ID.WAFER, 13_thijolink.md. -/
def TJL_ID.WAFER : Field := ⟨350, 4, 0, .ro, 0, .any⟩
/-- TJL_ID, 13_thijolink.md, offset 0x0000. -/
def TJL_ID : Reg := ⟨"TJL_ID", .tjl, 9437184, [], 1, false,
  [TJL_ID.MASTER, TJL_ID.WAFER]⟩

/-- TJL_CLUSTER.ID, 13_thijolink.md. -/
def TJL_CLUSTER.ID : Field := ⟨351, 31, 0, .ro, 0, .any⟩
/-- TJL_CLUSTER, 13_thijolink.md, offset 0x0004. -/
def TJL_CLUSTER : Reg := ⟨"TJL_CLUSTER", .tjl, 9437188, [], 1, false,
  [TJL_CLUSTER.ID]⟩

/-- TJL_CTL.GCM_EN, 13_thijolink.md. -/
def TJL_CTL.GCM_EN : Field := ⟨352, 0, 0, .rwl, 1, .any⟩
/-- TJL_CTL, 13_thijolink.md, offset 0x0008. -/
def TJL_CTL : Reg := ⟨"TJL_CTL", .tjl, 9437192, [], 1, false,
  [TJL_CTL.GCM_EN]⟩

/-- TJL_BUDGET.RESTORE_S, 13_thijolink.md. -/
def TJL_BUDGET.RESTORE_S : Field := ⟨353, 31, 24, .rwl, 1, .range 1 255⟩
/-- TJL_BUDGET.RETRAIN_MS, 13_thijolink.md. -/
def TJL_BUDGET.RETRAIN_MS : Field := ⟨354, 23, 16, .rwl, 2, .range 1 20⟩
/-- TJL_BUDGET.RETRY_US, 13_thijolink.md. -/
def TJL_BUDGET.RETRY_US : Field := ⟨355, 15, 8, .rwl, 20, .range 1 100⟩
/-- TJL_BUDGET.RETRIES, 13_thijolink.md. -/
def TJL_BUDGET.RETRIES : Field := ⟨356, 7, 0, .rwl, 8, .range 1 15⟩
/-- TJL_BUDGET, 13_thijolink.md, offset 0x000C. -/
def TJL_BUDGET : Reg := ⟨"TJL_BUDGET", .tjl, 9437196, [], 1, false,
  [TJL_BUDGET.RESTORE_S, TJL_BUDGET.RETRAIN_MS, TJL_BUDGET.RETRY_US, TJL_BUDGET.RETRIES]⟩

/-- TJL_TB_CFG.PERIOD, 13_thijolink.md. -/
def TJL_TB_CFG.PERIOD : Field := ⟨357, 7, 0, .rwl, 10, .range 1 255⟩
/-- TJL_TB_CFG, 13_thijolink.md, offset 0x0010. -/
def TJL_TB_CFG : Reg := ⟨"TJL_TB_CFG", .tjl, 9437200, [], 1, false,
  [TJL_TB_CFG.PERIOD]⟩

/-- TJL_TB_STAT.PORT, 13_thijolink.md. -/
def TJL_TB_STAT.PORT : Field := ⟨358, 7, 5, .ro, 0, .any⟩
/-- TJL_TB_STAT.HOPS, 13_thijolink.md. -/
def TJL_TB_STAT.HOPS : Field := ⟨359, 4, 2, .ro, 0, .any⟩
/-- TJL_TB_STAT.ADRIFT, 13_thijolink.md. -/
def TJL_TB_STAT.ADRIFT : Field := ⟨360, 1, 1, .ro, 0, .any⟩
/-- TJL_TB_STAT.LOCKED, 13_thijolink.md. -/
def TJL_TB_STAT.LOCKED : Field := ⟨361, 0, 0, .ro, 0, .any⟩
/-- TJL_TB_STAT, 13_thijolink.md, offset 0x0014. -/
def TJL_TB_STAT : Reg := ⟨"TJL_TB_STAT", .tjl, 9437204, [], 1, false,
  [TJL_TB_STAT.PORT, TJL_TB_STAT.HOPS, TJL_TB_STAT.ADRIFT, TJL_TB_STAT.LOCKED]⟩

/-- TJL_TB_OFS.OFS, 13_thijolink.md. -/
def TJL_TB_OFS.OFS : Field := ⟨362, 63, 0, .ro, 0, .any⟩
/-- TJL_TB_OFS, 13_thijolink.md, offset 0x0018. -/
def TJL_TB_OFS : Reg := ⟨"TJL_TB_OFS", .tjl, 9437208, [], 2, false,
  [TJL_TB_OFS.OFS]⟩

/-- TJL_TB_ERR.THETA, 13_thijolink.md. -/
def TJL_TB_ERR.THETA : Field := ⟨363, 31, 0, .ro, 0, .any⟩
/-- TJL_TB_ERR, 13_thijolink.md, offset 0x0020. -/
def TJL_TB_ERR : Reg := ⟨"TJL_TB_ERR", .tjl, 9437216, [], 1, false,
  [TJL_TB_ERR.THETA]⟩

/-- TJL_PORT.PEER_WAFER, 13_thijolink.md. -/
def TJL_PORT.PEER_WAFER : Field := ⟨364, 31, 27, .ro, 0, .any⟩
/-- TJL_PORT.PEER_PORT, 13_thijolink.md. -/
def TJL_PORT.PEER_PORT : Field := ⟨365, 26, 24, .ro, 0, .any⟩
/-- TJL_PORT.FLIGHT, 13_thijolink.md. -/
def TJL_PORT.FLIGHT : Field := ⟨366, 23, 16, .ro, 0, .any⟩
/-- TJL_PORT.NARROW, 13_thijolink.md. -/
def TJL_PORT.NARROW : Field := ⟨367, 10, 10, .ro, 0, .any⟩
/-- TJL_PORT.WIDTH, 13_thijolink.md. -/
def TJL_PORT.WIDTH : Field := ⟨368, 9, 8, .ro, 0, .any⟩
/-- TJL_PORT.GEN, 13_thijolink.md. -/
def TJL_PORT.GEN : Field := ⟨369, 7, 6, .ro, 0, .any⟩
/-- TJL_PORT.STATE, 13_thijolink.md. -/
def TJL_PORT.STATE : Field := ⟨370, 2, 0, .ro, 0, .any⟩
/-- TJL_PORT, 13_thijolink.md, offset 0x0100 + n × 0x20. -/
def TJL_PORT : Reg := ⟨"TJL_PORT", .tjl, 9437440, [(8, 32)], 1, false,
  [TJL_PORT.PEER_WAFER, TJL_PORT.PEER_PORT, TJL_PORT.FLIGHT, TJL_PORT.NARROW, TJL_PORT.WIDTH, TJL_PORT.GEN, TJL_PORT.STATE]⟩

/-- TJL_PORT_LANES.ACTIVE, 13_thijolink.md. -/
def TJL_PORT_LANES.ACTIVE : Field := ⟨371, 31, 16, .ro, 0, .any⟩
/-- TJL_PORT_LANES.GOOD, 13_thijolink.md. -/
def TJL_PORT_LANES.GOOD : Field := ⟨372, 15, 0, .ro, 0, .any⟩
/-- TJL_PORT_LANES, 13_thijolink.md, offset 0x0104 + n × 0x20. -/
def TJL_PORT_LANES : Reg := ⟨"TJL_PORT_LANES", .tjl, 9437444, [(8, 32)], 1, false,
  [TJL_PORT_LANES.ACTIVE, TJL_PORT_LANES.GOOD]⟩

/-- TJL_PORT_EVT.MISWIRED, 13_thijolink.md. -/
def TJL_PORT_EVT.MISWIRED : Field := ⟨373, 5, 5, .w1c, 0, .any⟩
/-- TJL_PORT_EVT.AUTH, 13_thijolink.md. -/
def TJL_PORT_EVT.AUTH : Field := ⟨374, 4, 4, .w1c, 0, .any⟩
/-- TJL_PORT_EVT.NARROW, 13_thijolink.md. -/
def TJL_PORT_EVT.NARROW : Field := ⟨375, 3, 3, .w1c, 0, .any⟩
/-- TJL_PORT_EVT.RETRAIN, 13_thijolink.md. -/
def TJL_PORT_EVT.RETRAIN : Field := ⟨376, 2, 2, .w1c, 0, .any⟩
/-- TJL_PORT_EVT.RESTORED, 13_thijolink.md. -/
def TJL_PORT_EVT.RESTORED : Field := ⟨377, 1, 1, .w1c, 0, .any⟩
/-- TJL_PORT_EVT.LOST, 13_thijolink.md. -/
def TJL_PORT_EVT.LOST : Field := ⟨378, 0, 0, .w1c, 0, .any⟩
/-- TJL_PORT_EVT, 13_thijolink.md, offset 0x0108 + n × 0x20. -/
def TJL_PORT_EVT : Reg := ⟨"TJL_PORT_EVT", .tjl, 9437448, [(8, 32)], 1, false,
  [TJL_PORT_EVT.MISWIRED, TJL_PORT_EVT.AUTH, TJL_PORT_EVT.NARROW, TJL_PORT_EVT.RETRAIN, TJL_PORT_EVT.RESTORED, TJL_PORT_EVT.LOST]⟩

/-- TJL_PSTAT.HALT, 13_thijolink.md. -/
def TJL_PSTAT.HALT : Field := ⟨379, 31, 31, .ro, 0, .any⟩
/-- TJL_PSTAT.REROUTED, 13_thijolink.md. -/
def TJL_PSTAT.REROUTED : Field := ⟨380, 23, 12, .ro, 0, .any⟩
/-- TJL_PSTAT.STALLED, 13_thijolink.md. -/
def TJL_PSTAT.STALLED : Field := ⟨381, 11, 0, .ro, 0, .any⟩
/-- TJL_PSTAT, 13_thijolink.md, offset 0x1000 + p × 0x100. -/
def TJL_PSTAT : Reg := ⟨"TJL_PSTAT", .tjl, 9441280, [(4, 256)], 1, false,
  [TJL_PSTAT.HALT, TJL_PSTAT.REROUTED, TJL_PSTAT.STALLED]⟩

/-- TJL_PEVT.ROUTE_DOWN, 13_thijolink.md. -/
def TJL_PEVT.ROUTE_DOWN : Field := ⟨382, 4, 4, .w1c, 0, .any⟩
/-- TJL_PEVT.TIE_BLOCKED, 13_thijolink.md. -/
def TJL_PEVT.TIE_BLOCKED : Field := ⟨383, 3, 3, .w1c, 0, .any⟩
/-- TJL_PEVT.TIE_RESET, 13_thijolink.md. -/
def TJL_PEVT.TIE_RESET : Field := ⟨384, 2, 2, .w1c, 0, .any⟩
/-- TJL_PEVT.UNDELIVERED, 13_thijolink.md. -/
def TJL_PEVT.UNDELIVERED : Field := ⟨385, 1, 1, .w1c, 0, .any⟩
/-- TJL_PEVT.LINK_LOST, 13_thijolink.md. -/
def TJL_PEVT.LINK_LOST : Field := ⟨386, 0, 0, .w1c, 0, .any⟩
/-- TJL_PEVT, 13_thijolink.md, offset 0x1004 + p × 0x100. -/
def TJL_PEVT : Reg := ⟨"TJL_PEVT", .tjl, 9441284, [(4, 256)], 1, false,
  [TJL_PEVT.ROUTE_DOWN, TJL_PEVT.TIE_BLOCKED, TJL_PEVT.TIE_RESET, TJL_PEVT.UNDELIVERED, TJL_PEVT.LINK_LOST]⟩

/-- TJL_PCMD.SEQ, 13_thijolink.md. -/
def TJL_PCMD.SEQ : Field := ⟨387, 31, 16, .wo, 0, .any⟩
/-- TJL_PCMD.CMD, 13_thijolink.md. -/
def TJL_PCMD.CMD : Field := ⟨388, 2, 0, .wo, 0, .any⟩
/-- TJL_PCMD, 13_thijolink.md, offset 0x1008 + p × 0x100. -/
def TJL_PCMD : Reg := ⟨"TJL_PCMD", .tjl, 9441288, [(4, 256)], 1, false,
  [TJL_PCMD.SEQ, TJL_PCMD.CMD]⟩

/-- TJL_PCMD_STAT.SEQ, 13_thijolink.md. -/
def TJL_PCMD_STAT.SEQ : Field := ⟨389, 31, 16, .ro, 0, .any⟩
/-- TJL_PCMD_STAT.RESULT, 13_thijolink.md. -/
def TJL_PCMD_STAT.RESULT : Field := ⟨390, 3, 0, .ro, 0, .any⟩
/-- TJL_PCMD_STAT, 13_thijolink.md, offset 0x100C + p × 0x100. -/
def TJL_PCMD_STAT : Reg := ⟨"TJL_PCMD_STAT", .tjl, 9441292, [(4, 256)], 1, false,
  [TJL_PCMD_STAT.SEQ, TJL_PCMD_STAT.RESULT]⟩

/-- TJL_TIE_SEL.IMPORT, 13_thijolink.md. -/
def TJL_TIE_SEL.IMPORT : Field := ⟨391, 31, 31, .rw, 0, .any⟩
/-- TJL_TIE_SEL.SRCW, 13_thijolink.md. -/
def TJL_TIE_SEL.SRCW : Field := ⟨392, 20, 16, .rw, 0, .any⟩
/-- TJL_TIE_SEL.TIE, 13_thijolink.md. -/
def TJL_TIE_SEL.TIE : Field := ⟨393, 11, 0, .rw, 0, .any⟩
/-- TJL_TIE_SEL, 13_thijolink.md, offset 0x2000. -/
def TJL_TIE_SEL : Reg := ⟨"TJL_TIE_SEL", .tjl, 9445376, [], 1, true,
  [TJL_TIE_SEL.IMPORT, TJL_TIE_SEL.SRCW, TJL_TIE_SEL.TIE]⟩

/-- TJL_TIE.ACCEPTED, 13_thijolink.md. -/
def TJL_TIE.ACCEPTED : Field := ⟨394, 255, 192, .ro, 0, .any⟩
/-- TJL_TIE.LANDED, 13_thijolink.md. -/
def TJL_TIE.LANDED : Field := ⟨395, 191, 128, .ro, 0, .any⟩
/-- TJL_TIE.SENT, 13_thijolink.md. -/
def TJL_TIE.SENT : Field := ⟨396, 127, 96, .ro, 0, .any⟩
/-- TJL_TIE.APPLIED, 13_thijolink.md. -/
def TJL_TIE.APPLIED : Field := ⟨397, 95, 64, .ro, 0, .any⟩
/-- TJL_TIE.OUTSTANDING, 13_thijolink.md. -/
def TJL_TIE.OUTSTANDING : Field := ⟨398, 23, 16, .ro, 0, .any⟩
/-- TJL_TIE.PORT, 13_thijolink.md. -/
def TJL_TIE.PORT : Field := ⟨399, 7, 5, .ro, 0, .any⟩
/-- TJL_TIE.STATE, 13_thijolink.md. -/
def TJL_TIE.STATE : Field := ⟨400, 2, 0, .ro, 0, .any⟩
/-- TJL_TIE, 13_thijolink.md, offset 0x2010. -/
def TJL_TIE : Reg := ⟨"TJL_TIE", .tjl, 9445392, [], 8, false,
  [TJL_TIE.ACCEPTED, TJL_TIE.LANDED, TJL_TIE.SENT, TJL_TIE.APPLIED, TJL_TIE.OUTSTANDING, TJL_TIE.PORT, TJL_TIE.STATE]⟩

/-- HPT_PORT.STATE, 14_host_ports.md. -/
def HPT_PORT.STATE : Field := ⟨401, 27, 24, .ro, 0, .any⟩
/-- HPT_PORT.RATE, 14_host_ports.md. -/
def HPT_PORT.RATE : Field := ⟨402, 23, 20, .ro, 0, .any⟩
/-- HPT_PORT.WIDTH, 14_host_ports.md. -/
def HPT_PORT.WIDTH : Field := ⟨403, 19, 15, .ro, 0, .any⟩
/-- HPT_PORT.FLIT, 14_host_ports.md. -/
def HPT_PORT.FLIT : Field := ⟨404, 14, 14, .ro, 0, .any⟩
/-- HPT_PORT.PERST, 14_host_ports.md. -/
def HPT_PORT.PERST : Field := ⟨405, 13, 13, .ro, 0, .any⟩
/-- HPT_PORT, 14_host_ports.md, offset 0x0000 + x × 0x10, x = 0 (HPA), 1 (HPB). -/
def HPT_PORT : Reg := ⟨"HPT_PORT", .hpt, 1048576, [(2, 16)], 1, false,
  [HPT_PORT.STATE, HPT_PORT.RATE, HPT_PORT.WIDTH, HPT_PORT.FLIT, HPT_PORT.PERST]⟩

/-- HPT_CFG.ADV_LEASE_MS, 14_host_ports.md. -/
def HPT_CFG.ADV_LEASE_MS : Field := ⟨406, 31, 16, .rwl, 1000, .range 10 65535⟩
/-- HPT_CFG.DOWN_MS, 14_host_ports.md. -/
def HPT_CFG.DOWN_MS : Field := ⟨407, 15, 8, .rwl, 10, .range 1 255⟩
/-- HPT_CFG, 14_host_ports.md, offset 0x0020. -/
def HPT_CFG : Reg := ⟨"HPT_CFG", .hpt, 1048608, [], 1, false,
  [HPT_CFG.ADV_LEASE_MS, HPT_CFG.DOWN_MS]⟩

/-- HPT_EVT.HPB_UP, 14_host_ports.md. -/
def HPT_EVT.HPB_UP : Field := ⟨408, 3, 3, .w1c, 0, .any⟩
/-- HPT_EVT.HPA_UP, 14_host_ports.md. -/
def HPT_EVT.HPA_UP : Field := ⟨409, 2, 2, .w1c, 0, .any⟩
/-- HPT_EVT.HPB_FAILED, 14_host_ports.md. -/
def HPT_EVT.HPB_FAILED : Field := ⟨410, 1, 1, .w1c, 0, .any⟩
/-- HPT_EVT.HPA_FAILED, 14_host_ports.md. -/
def HPT_EVT.HPA_FAILED : Field := ⟨411, 0, 0, .w1c, 0, .any⟩
/-- HPT_EVT, 14_host_ports.md, offset 0x0024. -/
def HPT_EVT : Reg := ⟨"HPT_EVT", .hpt, 1048612, [], 1, false,
  [HPT_EVT.HPB_UP, HPT_EVT.HPA_UP, HPT_EVT.HPB_FAILED, HPT_EVT.HPA_FAILED]⟩

/-- HPT_PEVT.LEASE_LOW, 14_host_ports.md. -/
def HPT_PEVT.LEASE_LOW : Field := ⟨412, 23, 23, .w1c, 0, .any⟩
/-- HPT_PEVT.LEASE_EXPIRED, 14_host_ports.md. -/
def HPT_PEVT.LEASE_EXPIRED : Field := ⟨413, 22, 22, .w1c, 0, .any⟩
/-- HPT_PEVT.STEWARD_MOVED, 14_host_ports.md. -/
def HPT_PEVT.STEWARD_MOVED : Field := ⟨414, 21, 21, .w1c, 0, .any⟩
/-- HPT_PEVT.DB_BUSY, 14_host_ports.md. -/
def HPT_PEVT.DB_BUSY : Field := ⟨415, 20, 20, .w1c, 0, .any⟩
/-- HPT_PEVT.STG_FAULT, 14_host_ports.md. -/
def HPT_PEVT.STG_FAULT : Field := ⟨416, 19, 19, .w1c, 0, .any⟩
/-- HPT_PEVT.GRD, 14_host_ports.md. -/
def HPT_PEVT.GRD : Field := ⟨417, 8, 8, .ro, 0, .any⟩
/-- HPT_PEVT.TJL, 14_host_ports.md. -/
def HPT_PEVT.TJL : Field := ⟨418, 7, 7, .ro, 0, .any⟩
/-- HPT_PEVT.CMP, 14_host_ports.md. -/
def HPT_PEVT.CMP : Field := ⟨419, 6, 6, .ro, 0, .any⟩
/-- HPT_PEVT.LDG, 14_host_ports.md. -/
def HPT_PEVT.LDG : Field := ⟨420, 5, 5, .ro, 0, .any⟩
/-- HPT_PEVT.SYN, 14_host_ports.md. -/
def HPT_PEVT.SYN : Field := ⟨421, 4, 4, .ro, 0, .any⟩
/-- HPT_PEVT.STR, 14_host_ports.md. -/
def HPT_PEVT.STR : Field := ⟨422, 3, 3, .ro, 0, .any⟩
/-- HPT_PEVT.REPO, 14_host_ports.md. -/
def HPT_PEVT.REPO : Field := ⟨423, 2, 2, .ro, 0, .any⟩
/-- HPT_PEVT.TIER, 14_host_ports.md. -/
def HPT_PEVT.TIER : Field := ⟨424, 1, 1, .ro, 0, .any⟩
/-- HPT_PEVT.PAR, 14_host_ports.md. -/
def HPT_PEVT.PAR : Field := ⟨425, 0, 0, .ro, 0, .any⟩
/-- HPT_PEVT, 14_host_ports.md, offset 0x0100 + p × 0x100. -/
def HPT_PEVT : Reg := ⟨"HPT_PEVT", .hpt, 1048832, [(4, 256)], 1, false,
  [HPT_PEVT.LEASE_LOW, HPT_PEVT.LEASE_EXPIRED, HPT_PEVT.STEWARD_MOVED, HPT_PEVT.DB_BUSY, HPT_PEVT.STG_FAULT, HPT_PEVT.GRD, HPT_PEVT.TJL, HPT_PEVT.CMP, HPT_PEVT.LDG, HPT_PEVT.SYN, HPT_PEVT.STR, HPT_PEVT.REPO, HPT_PEVT.TIER, HPT_PEVT.PAR]⟩

/-- HPT_LEASE.MS, 14_host_ports.md. -/
def HPT_LEASE.MS : Field := ⟨426, 15, 0, .rwl, 1000, .range 10 65535⟩
/-- HPT_LEASE, 14_host_ports.md, offset 0x0104 + p × 0x100. -/
def HPT_LEASE : Reg := ⟨"HPT_LEASE", .hpt, 1048836, [(4, 256)], 1, false,
  [HPT_LEASE.MS]⟩

/-- HPT_STG_CFG.PAGES, 14_host_ports.md. -/
def HPT_STG_CFG.PAGES : Field := ⟨427, 60, 40, .ro, 0, .any⟩
/-- HPT_STG_CFG.BASE, 14_host_ports.md. -/
def HPT_STG_CFG.BASE : Field := ⟨428, 39, 0, .ro, 0, .any⟩
/-- HPT_STG_CFG, 14_host_ports.md, offset 0x0108 + p × 0x100. -/
def HPT_STG_CFG : Reg := ⟨"HPT_STG_CFG", .hpt, 1048840, [(4, 256)], 2, false,
  [HPT_STG_CFG.PAGES, HPT_STG_CFG.BASE]⟩

/-- HPT_STG_TAG.TAG, 14_host_ports.md. -/
def HPT_STG_TAG.TAG : Field := ⟨429, 31, 0, .rw, 0, .any⟩
/-- HPT_STG_TAG, 14_host_ports.md, offset 0x0110 + p × 0x100. -/
def HPT_STG_TAG : Reg := ⟨"HPT_STG_TAG", .hpt, 1048848, [(4, 256)], 1, false,
  [HPT_STG_TAG.TAG]⟩

/-- HPT_STG_SEAL.SEQ, 14_host_ports.md. -/
def HPT_STG_SEAL.SEQ : Field := ⟨430, 63, 48, .wo, 0, .any⟩
/-- HPT_STG_SEAL.DTYPE, 14_host_ports.md. -/
def HPT_STG_SEAL.DTYPE : Field := ⟨431, 47, 44, .wo, 0, .any⟩
/-- HPT_STG_SEAL.COUNT, 14_host_ports.md. -/
def HPT_STG_SEAL.COUNT : Field := ⟨432, 43, 24, .wo, 0, .any⟩
/-- HPT_STG_SEAL.FIRST, 14_host_ports.md. -/
def HPT_STG_SEAL.FIRST : Field := ⟨433, 19, 0, .wo, 0, .any⟩
/-- HPT_STG_SEAL, 14_host_ports.md, offset 0x0118 + p × 0x100. -/
def HPT_STG_SEAL : Reg := ⟨"HPT_STG_SEAL", .hpt, 1048856, [(4, 256)], 2, false,
  [HPT_STG_SEAL.SEQ, HPT_STG_SEAL.DTYPE, HPT_STG_SEAL.COUNT, HPT_STG_SEAL.FIRST]⟩

/-- HPT_STG_FREE.SEQ, 14_host_ports.md. -/
def HPT_STG_FREE.SEQ : Field := ⟨434, 63, 48, .wo, 0, .any⟩
/-- HPT_STG_FREE.COUNT, 14_host_ports.md. -/
def HPT_STG_FREE.COUNT : Field := ⟨435, 43, 24, .wo, 0, .any⟩
/-- HPT_STG_FREE.FIRST, 14_host_ports.md. -/
def HPT_STG_FREE.FIRST : Field := ⟨436, 19, 0, .wo, 0, .any⟩
/-- HPT_STG_FREE, 14_host_ports.md, offset 0x0120 + p × 0x100. -/
def HPT_STG_FREE : Reg := ⟨"HPT_STG_FREE", .hpt, 1048864, [(4, 256)], 2, false,
  [HPT_STG_FREE.SEQ, HPT_STG_FREE.COUNT, HPT_STG_FREE.FIRST]⟩

/-- HPT_STG_STAT.SEQ, 14_host_ports.md. -/
def HPT_STG_STAT.SEQ : Field := ⟨437, 63, 48, .ro, 0, .any⟩
/-- HPT_STG_STAT.OP, 14_host_ports.md. -/
def HPT_STG_STAT.OP : Field := ⟨438, 47, 47, .ro, 0, .any⟩
/-- HPT_STG_STAT.DUP, 14_host_ports.md. -/
def HPT_STG_STAT.DUP : Field := ⟨439, 46, 46, .ro, 0, .any⟩
/-- HPT_STG_STAT.PORT, 14_host_ports.md. -/
def HPT_STG_STAT.PORT : Field := ⟨440, 45, 44, .ro, 0, .any⟩
/-- HPT_STG_STAT.DONE, 14_host_ports.md. -/
def HPT_STG_STAT.DONE : Field := ⟨441, 43, 24, .ro, 0, .any⟩
/-- HPT_STG_STAT.RESULT, 14_host_ports.md. -/
def HPT_STG_STAT.RESULT : Field := ⟨442, 7, 0, .ro, 0, .any⟩
/-- HPT_STG_STAT, 14_host_ports.md, offset 0x0128 + p × 0x100. -/
def HPT_STG_STAT : Reg := ⟨"HPT_STG_STAT", .hpt, 1048872, [(4, 256)], 2, false,
  [HPT_STG_STAT.SEQ, HPT_STG_STAT.OP, HPT_STG_STAT.DUP, HPT_STG_STAT.PORT, HPT_STG_STAT.DONE, HPT_STG_STAT.RESULT]⟩

/-- HSEM_CLAIM.SEQ, 14_host_ports.md. -/
def HSEM_CLAIM.SEQ : Field := ⟨443, 31, 16, .wo, 0, .any⟩
/-- HSEM_CLAIM.OP, 14_host_ports.md. -/
def HSEM_CLAIM.OP : Field := ⟨444, 2, 0, .wo, 0, .any⟩
/-- HSEM_CLAIM, 14_host_ports.md, offset 0x1000 + s × 0x20, s = 0–15. -/
def HSEM_CLAIM : Reg := ⟨"HSEM_CLAIM", .hpt, 1052672, [(16, 32)], 1, false,
  [HSEM_CLAIM.SEQ, HSEM_CLAIM.OP]⟩

/-- HSEM_STAT.SEQ, 14_host_ports.md. -/
def HSEM_STAT.SEQ : Field := ⟨445, 63, 48, .ro, 0, .any⟩
/-- HSEM_STAT.GEN, 14_host_ports.md. -/
def HSEM_STAT.GEN : Field := ⟨446, 47, 32, .ro, 0, .any⟩
/-- HSEM_STAT.LEFT, 14_host_ports.md. -/
def HSEM_STAT.LEFT : Field := ⟨447, 31, 16, .ro, 0, .any⟩
/-- HSEM_STAT.DUP, 14_host_ports.md. -/
def HSEM_STAT.DUP : Field := ⟨448, 8, 8, .ro, 0, .any⟩
/-- HSEM_STAT.HOLDER, 14_host_ports.md. -/
def HSEM_STAT.HOLDER : Field := ⟨449, 5, 4, .ro, 0, .any⟩
/-- HSEM_STAT.RESULT, 14_host_ports.md. -/
def HSEM_STAT.RESULT : Field := ⟨450, 3, 0, .ro, 0, .any⟩
/-- HSEM_STAT, 14_host_ports.md, offset 0x1008 + s × 0x20, s = 0–15. -/
def HSEM_STAT : Reg := ⟨"HSEM_STAT", .hpt, 1052680, [(16, 32)], 2, false,
  [HSEM_STAT.SEQ, HSEM_STAT.GEN, HSEM_STAT.LEFT, HSEM_STAT.DUP, HSEM_STAT.HOLDER, HSEM_STAT.RESULT]⟩

/-- SEC_STAT.DBG, 15_security.md. -/
def SEC_STAT.DBG : Field := ⟨451, 5, 5, .ro, 0, .any⟩
/-- SEC_STAT.ZEROIZED, 15_security.md. -/
def SEC_STAT.ZEROIZED : Field := ⟨452, 4, 4, .ro, 0, .any⟩
/-- SEC_STAT.EVAL, 15_security.md. -/
def SEC_STAT.EVAL : Field := ⟨453, 3, 3, .ro, 0, .any⟩
/-- SEC_STAT.ERROR, 15_security.md. -/
def SEC_STAT.ERROR : Field := ⟨454, 2, 2, .ro, 0, .any⟩
/-- SEC_STAT.KAT_OK, 15_security.md. -/
def SEC_STAT.KAT_OK : Field := ⟨455, 1, 1, .ro, 0, .any⟩
/-- SEC_STAT.READY, 15_security.md. -/
def SEC_STAT.READY : Field := ⟨456, 0, 0, .ro, 0, .any⟩
/-- SEC_STAT, 15_security.md, offset 0x0000. -/
def SEC_STAT : Reg := ⟨"SEC_STAT", .sec, 11534336, [], 1, false,
  [SEC_STAT.DBG, SEC_STAT.ZEROIZED, SEC_STAT.EVAL, SEC_STAT.ERROR, SEC_STAT.KAT_OK, SEC_STAT.READY]⟩

/-- SEC_CTL.MGMT_WR, 15_security.md. -/
def SEC_CTL.MGMT_WR : Field := ⟨457, 2, 2, .rwl, 0, .any⟩
/-- SEC_CTL.PF0_DATA, 15_security.md. -/
def SEC_CTL.PF0_DATA : Field := ⟨458, 1, 1, .rwl, 0, .any⟩
/-- SEC_CTL.GUARD_DBG, 15_security.md. -/
def SEC_CTL.GUARD_DBG : Field := ⟨459, 0, 0, .rwl, 0, .any⟩
/-- SEC_CTL, 15_security.md, offset 0x0004. -/
def SEC_CTL : Reg := ⟨"SEC_CTL", .sec, 11534340, [], 1, false,
  [SEC_CTL.MGMT_WR, SEC_CTL.PF0_DATA, SEC_CTL.GUARD_DBG]⟩

/-- SEC_IMG.SVN, 15_security.md. -/
def SEC_IMG.SVN : Field := ⟨460, 31, 24, .ro, 0, .any⟩
/-- SEC_IMG.REVOKED, 15_security.md. -/
def SEC_IMG.REVOKED : Field := ⟨461, 23, 20, .ro, 0, .any⟩
/-- SEC_IMG.DBG_REVOKED, 15_security.md. -/
def SEC_IMG.DBG_REVOKED : Field := ⟨462, 19, 18, .ro, 0, .any⟩
/-- SEC_IMG.SLOT, 15_security.md. -/
def SEC_IMG.SLOT : Field := ⟨463, 17, 16, .ro, 0, .any⟩
/-- SEC_IMG.CODE, 15_security.md. -/
def SEC_IMG.CODE : Field := ⟨464, 3, 0, .ro, 0, .any⟩
/-- SEC_IMG, 15_security.md, offset 0x0008. -/
def SEC_IMG : Reg := ⟨"SEC_IMG", .sec, 11534344, [], 1, false,
  [SEC_IMG.SVN, SEC_IMG.REVOKED, SEC_IMG.DBG_REVOKED, SEC_IMG.SLOT, SEC_IMG.CODE]⟩

/-- SEC_TAMP_EN.TEMP, 15_security.md. -/
def SEC_TAMP_EN.TEMP : Field := ⟨465, 2, 2, .rwl, 1, .any⟩
/-- SEC_TAMP_EN.VOLT, 15_security.md. -/
def SEC_TAMP_EN.VOLT : Field := ⟨466, 1, 1, .rwl, 1, .any⟩
/-- SEC_TAMP_EN.PIN, 15_security.md. -/
def SEC_TAMP_EN.PIN : Field := ⟨467, 0, 0, .rwl, 1, .any⟩
/-- SEC_TAMP_EN, 15_security.md, offset 0x000C. -/
def SEC_TAMP_EN : Reg := ⟨"SEC_TAMP_EN", .sec, 11534348, [], 1, false,
  [SEC_TAMP_EN.TEMP, SEC_TAMP_EN.VOLT, SEC_TAMP_EN.PIN]⟩

/-- SEC_RST_CAUSE.TEMP, 15_security.md. -/
def SEC_RST_CAUSE.TEMP : Field := ⟨468, 3, 3, .w1c, 0, .any⟩
/-- SEC_RST_CAUSE.VOLT, 15_security.md. -/
def SEC_RST_CAUSE.VOLT : Field := ⟨469, 2, 2, .w1c, 0, .any⟩
/-- SEC_RST_CAUSE.PIN, 15_security.md. -/
def SEC_RST_CAUSE.PIN : Field := ⟨470, 1, 1, .w1c, 0, .any⟩
/-- SEC_RST_CAUSE.CMD, 15_security.md. -/
def SEC_RST_CAUSE.CMD : Field := ⟨471, 0, 0, .w1c, 0, .any⟩
/-- SEC_RST_CAUSE, 15_security.md, offset 0x0010. -/
def SEC_RST_CAUSE : Reg := ⟨"SEC_RST_CAUSE", .sec, 11534352, [], 1, false,
  [SEC_RST_CAUSE.TEMP, SEC_RST_CAUSE.VOLT, SEC_RST_CAUSE.PIN, SEC_RST_CAUSE.CMD]⟩

/-- SEC_ZCMD.MODE, 15_security.md. -/
def SEC_ZCMD.MODE : Field := ⟨472, 8, 8, .wo, 0, .any⟩
/-- SEC_ZCMD.CODE, 15_security.md. -/
def SEC_ZCMD.CODE : Field := ⟨473, 7, 0, .wo, 0, .any⟩
/-- SEC_ZCMD, 15_security.md, offset 0x0014. -/
def SEC_ZCMD : Reg := ⟨"SEC_ZCMD", .sec, 11534356, [], 1, false,
  [SEC_ZCMD.MODE, SEC_ZCMD.CODE]⟩

/-- SEC_EVT.HEALTH, 15_security.md. -/
def SEC_EVT.HEALTH : Field := ⟨474, 2, 2, .w1c, 0, .any⟩
/-- SEC_EVT.DBG, 15_security.md. -/
def SEC_EVT.DBG : Field := ⟨475, 1, 1, .w1c, 0, .any⟩
/-- SEC_EVT.PEER_AUTH, 15_security.md. -/
def SEC_EVT.PEER_AUTH : Field := ⟨476, 0, 0, .w1c, 0, .any⟩
/-- SEC_EVT, 15_security.md, offset 0x0018. -/
def SEC_EVT : Reg := ⟨"SEC_EVT", .sec, 11534360, [], 1, false,
  [SEC_EVT.HEALTH, SEC_EVT.DBG, SEC_EVT.PEER_AUTH]⟩

/-- SEC_DBG_NONCE.NONCE, 15_security.md. -/
def SEC_DBG_NONCE.NONCE : Field := ⟨477, 255, 0, .ro, 0, .any⟩
/-- SEC_DBG_NONCE, 15_security.md, offset 0x0040. -/
def SEC_DBG_NONCE : Reg := ⟨"SEC_DBG_NONCE", .sec, 11534400, [], 8, false,
  [SEC_DBG_NONCE.NONCE]⟩

/-- SEC_DBG_CMD.CMD, 15_security.md. -/
def SEC_DBG_CMD.CMD : Field := ⟨478, 1, 0, .wo, 0, .any⟩
/-- SEC_DBG_CMD, 15_security.md, offset 0x0060. -/
def SEC_DBG_CMD : Reg := ⟨"SEC_DBG_CMD", .sec, 11534432, [], 1, false,
  [SEC_DBG_CMD.CMD]⟩

/-- SEC_DBG_STAT.RESULT, 15_security.md. -/
def SEC_DBG_STAT.RESULT : Field := ⟨479, 31, 24, .ro, 0, .any⟩
/-- SEC_DBG_STAT.FAILS, 15_security.md. -/
def SEC_DBG_STAT.FAILS : Field := ⟨480, 23, 20, .ro, 0, .any⟩
/-- SEC_DBG_STAT.LOCKOUT, 15_security.md. -/
def SEC_DBG_STAT.LOCKOUT : Field := ⟨481, 19, 19, .ro, 0, .any⟩
/-- SEC_DBG_STAT.UNLOCKED, 15_security.md. -/
def SEC_DBG_STAT.UNLOCKED : Field := ⟨482, 18, 18, .ro, 0, .any⟩
/-- SEC_DBG_STAT.SCOPE, 15_security.md. -/
def SEC_DBG_STAT.SCOPE : Field := ⟨483, 17, 13, .ro, 0, .any⟩
/-- SEC_DBG_STAT.CAPS, 15_security.md. -/
def SEC_DBG_STAT.CAPS : Field := ⟨484, 12, 9, .ro, 0, .any⟩
/-- SEC_DBG_STAT, 15_security.md, offset 0x0064. -/
def SEC_DBG_STAT : Reg := ⟨"SEC_DBG_STAT", .sec, 11534436, [], 1, false,
  [SEC_DBG_STAT.RESULT, SEC_DBG_STAT.FAILS, SEC_DBG_STAT.LOCKOUT, SEC_DBG_STAT.UNLOCKED, SEC_DBG_STAT.SCOPE, SEC_DBG_STAT.CAPS]⟩

/-- SEC_DBG_LEFT.SECONDS, 15_security.md. -/
def SEC_DBG_LEFT.SECONDS : Field := ⟨485, 31, 0, .ro, 0, .any⟩
/-- SEC_DBG_LEFT, 15_security.md, offset 0x0068. -/
def SEC_DBG_LEFT : Reg := ⟨"SEC_DBG_LEFT", .sec, 11534440, [], 1, false,
  [SEC_DBG_LEFT.SECONDS]⟩

/-- SEC_DBG_TOKEN.WORD, 15_security.md. -/
def SEC_DBG_TOKEN.WORD : Field := ⟨486, 31, 0, .wo, 0, .any⟩
/-- SEC_DBG_TOKEN, 15_security.md, offset 0x0100–0x023C. -/
def SEC_DBG_TOKEN : Reg := ⟨"SEC_DBG_TOKEN", .sec, 11534592, [(80, 4)], 1, false,
  [SEC_DBG_TOKEN.WORD]⟩

/-- SEC_ISO_EVT.BLOCKED, 15_security.md. -/
def SEC_ISO_EVT.BLOCKED : Field := ⟨487, 31, 31, .w1c, 0, .any⟩
/-- SEC_ISO_EVT.POINT, 15_security.md. -/
def SEC_ISO_EVT.POINT : Field := ⟨488, 5, 0, .ro, 0, .any⟩
/-- SEC_ISO_EVT, 15_security.md, offset 0x0300 + p × 0x10. -/
def SEC_ISO_EVT : Reg := ⟨"SEC_ISO_EVT", .sec, 11535104, [(4, 16)], 1, false,
  [SEC_ISO_EVT.BLOCKED, SEC_ISO_EVT.POINT]⟩

/-- SEC_SEALED.REGIONS, 15_security.md. -/
def SEC_SEALED.REGIONS : Field := ⟨489, 3, 0, .ro, 0, .any⟩
/-- SEC_SEALED, 15_security.md, offset 0x0304 + p × 0x10. -/
def SEC_SEALED : Reg := ⟨"SEC_SEALED", .sec, 11535108, [(4, 16)], 1, false,
  [SEC_SEALED.REGIONS]⟩

/-- SEC_IDPUB.DIGEST, 15_security.md. -/
def SEC_IDPUB.DIGEST : Field := ⟨490, 383, 0, .ro, 0, .any⟩
/-- SEC_IDPUB, 15_security.md, offset 0x0400. -/
def SEC_IDPUB : Reg := ⟨"SEC_IDPUB", .sec, 11535360, [], 12, false,
  [SEC_IDPUB.DIGEST]⟩

/-- SYS_BOOT_STAT.MODE_B, 16_image_startup.md. -/
def SYS_BOOT_STAT.MODE_B : Field := ⟨491, 27, 26, .ro, 0, .any⟩
/-- SYS_BOOT_STAT.MODE_A, 16_image_startup.md. -/
def SYS_BOOT_STAT.MODE_A : Field := ⟨492, 25, 24, .ro, 0, .any⟩
/-- SYS_BOOT_STAT.CAUSE_B, 16_image_startup.md. -/
def SYS_BOOT_STAT.CAUSE_B : Field := ⟨493, 23, 20, .ro, 0, .any⟩
/-- SYS_BOOT_STAT.CAUSE_A, 16_image_startup.md. -/
def SYS_BOOT_STAT.CAUSE_A : Field := ⟨494, 19, 16, .ro, 0, .any⟩
/-- SYS_BOOT_STAT.FALLBACK, 16_image_startup.md. -/
def SYS_BOOT_STAT.FALLBACK : Field := ⟨495, 13, 13, .ro, 0, .any⟩
/-- SYS_BOOT_STAT.FAILED, 16_image_startup.md. -/
def SYS_BOOT_STAT.FAILED : Field := ⟨496, 12, 12, .ro, 0, .any⟩
/-- SYS_BOOT_STAT.DONE, 16_image_startup.md. -/
def SYS_BOOT_STAT.DONE : Field := ⟨497, 11, 11, .ro, 0, .any⟩
/-- SYS_BOOT_STAT.SLOT, 16_image_startup.md. -/
def SYS_BOOT_STAT.SLOT : Field := ⟨498, 9, 8, .ro, 0, .any⟩
/-- SYS_BOOT_STAT.PHASE, 16_image_startup.md. -/
def SYS_BOOT_STAT.PHASE : Field := ⟨499, 4, 0, .ro, 0, .any⟩
/-- SYS_BOOT_STAT, 16_image_startup.md, offset 0x0300. -/
def SYS_BOOT_STAT : Reg := ⟨"SYS_BOOT_STAT", .sys, 768, [], 1, false,
  [SYS_BOOT_STAT.MODE_B, SYS_BOOT_STAT.MODE_A, SYS_BOOT_STAT.CAUSE_B, SYS_BOOT_STAT.CAUSE_A, SYS_BOOT_STAT.FALLBACK, SYS_BOOT_STAT.FAILED, SYS_BOOT_STAT.DONE, SYS_BOOT_STAT.SLOT, SYS_BOOT_STAT.PHASE]⟩

/-- SYS_BOOT_NEXT.FORCE, 16_image_startup.md. -/
def SYS_BOOT_NEXT.FORCE : Field := ⟨500, 1, 0, .rw, 0, .range 0 2⟩
/-- SYS_BOOT_NEXT, 16_image_startup.md, offset 0x0304. -/
def SYS_BOOT_NEXT : Reg := ⟨"SYS_BOOT_NEXT", .sys, 772, [], 1, false,
  [SYS_BOOT_NEXT.FORCE]⟩

/-- SYS_RESET.CODE, 16_image_startup.md. -/
def SYS_RESET.CODE : Field := ⟨501, 31, 0, .wo, 0, .any⟩
/-- SYS_RESET, 16_image_startup.md, offset 0x0308. -/
def SYS_RESET : Reg := ⟨"SYS_RESET", .sys, 776, [], 1, false,
  [SYS_RESET.CODE]⟩

/-- SYS_IMG_ID.SEQ, 16_image_startup.md. -/
def SYS_IMG_ID.SEQ : Field := ⟨502, 63, 0, .ro, 0, .any⟩
/-- SYS_IMG_ID, 16_image_startup.md, offset 0x0310. -/
def SYS_IMG_ID : Reg := ⟨"SYS_IMG_ID", .sys, 784, [], 2, false,
  [SYS_IMG_ID.SEQ]⟩

/-- SYS_BOOT_PH.TICK, 16_image_startup.md. -/
def SYS_BOOT_PH.TICK : Field := ⟨503, 63, 0, .ro, 0, .any⟩
/-- SYS_BOOT_PH, 16_image_startup.md, offset 0x0320 + i × 8, i = 0–12. -/
def SYS_BOOT_PH : Reg := ⟨"SYS_BOOT_PH", .sys, 800, [(13, 8)], 2, false,
  [SYS_BOOT_PH.TICK]⟩

/-- SYS_NVM_ADDR.SLOT, 16_image_startup.md. -/
def SYS_NVM_ADDR.SLOT : Field := ⟨504, 31, 30, .rw, 0, .range 1 2⟩
/-- SYS_NVM_ADDR.ADDR, 16_image_startup.md. -/
def SYS_NVM_ADDR.ADDR : Field := ⟨505, 28, 0, .rw, 0, .any⟩
/-- SYS_NVM_ADDR, 16_image_startup.md, offset 0x0390. -/
def SYS_NVM_ADDR : Reg := ⟨"SYS_NVM_ADDR", .sys, 912, [], 1, false,
  [SYS_NVM_ADDR.SLOT, SYS_NVM_ADDR.ADDR]⟩

/-- SYS_NVM_CMD.SEQ, 16_image_startup.md. -/
def SYS_NVM_CMD.SEQ : Field := ⟨506, 31, 16, .wo, 0, .any⟩
/-- SYS_NVM_CMD.CMD, 16_image_startup.md. -/
def SYS_NVM_CMD.CMD : Field := ⟨507, 2, 0, .wo, 0, .any⟩
/-- SYS_NVM_CMD, 16_image_startup.md, offset 0x0394. -/
def SYS_NVM_CMD : Reg := ⟨"SYS_NVM_CMD", .sys, 916, [], 1, false,
  [SYS_NVM_CMD.SEQ, SYS_NVM_CMD.CMD]⟩

/-- SYS_NVM_STAT.SEQ, 16_image_startup.md. -/
def SYS_NVM_STAT.SEQ : Field := ⟨508, 31, 16, .ro, 0, .any⟩
/-- SYS_NVM_STAT.RESULT, 16_image_startup.md. -/
def SYS_NVM_STAT.RESULT : Field := ⟨509, 3, 0, .ro, 0, .any⟩
/-- SYS_NVM_STAT, 16_image_startup.md, offset 0x0398. -/
def SYS_NVM_STAT : Reg := ⟨"SYS_NVM_STAT", .sys, 920, [], 1, false,
  [SYS_NVM_STAT.SEQ, SYS_NVM_STAT.RESULT]⟩

/-- SYS_NVM_BUF.WORD, 16_image_startup.md. -/
def SYS_NVM_BUF.WORD : Field := ⟨510, 31, 0, .rw, 0, .any⟩
/-- SYS_NVM_BUF, 16_image_startup.md, offset 0x8000–0x8FFF. -/
def SYS_NVM_BUF : Reg := ⟨"SYS_NVM_BUF", .sys, 32768, [(1024, 4)], 1, false,
  [SYS_NVM_BUF.WORD]⟩

/-- GRD_PIN.MISMATCH, 17_guard_checker.md. -/
def GRD_PIN.MISMATCH : Field := ⟨511, 7, 7, .w1c, 0, .any⟩
/-- GRD_PIN.B_READ, 17_guard_checker.md. -/
def GRD_PIN.B_READ : Field := ⟨512, 6, 6, .ro, 1, .any⟩
/-- GRD_PIN.A_READ, 17_guard_checker.md. -/
def GRD_PIN.A_READ : Field := ⟨513, 5, 5, .ro, 1, .any⟩
/-- GRD_PIN.B_CMD, 17_guard_checker.md. -/
def GRD_PIN.B_CMD : Field := ⟨514, 4, 4, .ro, 1, .any⟩
/-- GRD_PIN.A_CMD, 17_guard_checker.md. -/
def GRD_PIN.A_CMD : Field := ⟨515, 3, 3, .ro, 1, .any⟩
/-- GRD_PIN, 17_guard_checker.md, offset 0x0000. -/
def GRD_PIN : Reg := ⟨"GRD_PIN", .grd, 10485760, [], 1, false,
  [GRD_PIN.MISMATCH, GRD_PIN.B_READ, GRD_PIN.A_READ, GRD_PIN.B_CMD, GRD_PIN.A_CMD]⟩

/-- GRD_CK_HEALTH.STATE0, 17_guard_checker.md. -/
def GRD_CK_HEALTH.STATE0 : Field := ⟨516, 3, 0, .ro, 0, .any⟩
/-- GRD_CK_HEALTH.STATE1, 17_guard_checker.md. -/
def GRD_CK_HEALTH.STATE1 : Field := ⟨517, 7, 4, .ro, 0, .any⟩
/-- GRD_CK_HEALTH.STATE2, 17_guard_checker.md. -/
def GRD_CK_HEALTH.STATE2 : Field := ⟨518, 11, 8, .ro, 0, .any⟩
/-- GRD_CK_HEALTH.STATE3, 17_guard_checker.md. -/
def GRD_CK_HEALTH.STATE3 : Field := ⟨519, 15, 12, .ro, 0, .any⟩
/-- GRD_CK_HEALTH, 17_guard_checker.md, offset 0x0004. -/
def GRD_CK_HEALTH : Reg := ⟨"GRD_CK_HEALTH", .grd, 10485764, [], 1, false,
  [GRD_CK_HEALTH.STATE0, GRD_CK_HEALTH.STATE1, GRD_CK_HEALTH.STATE2, GRD_CK_HEALTH.STATE3]⟩

/-- GRD_CK_STAT.OPEN, 17_guard_checker.md. -/
def GRD_CK_STAT.OPEN : Field := ⟨520, 11, 8, .ro, 0, .any⟩
/-- GRD_CK_STAT.STATE, 17_guard_checker.md. -/
def GRD_CK_STAT.STATE : Field := ⟨521, 1, 0, .ro, 0, .any⟩
/-- GRD_CK_STAT, 17_guard_checker.md, offset 0x0100 + p × 0x100. -/
def GRD_CK_STAT : Reg := ⟨"GRD_CK_STAT", .grd, 10486016, [(4, 256)], 1, false,
  [GRD_CK_STAT.OPEN, GRD_CK_STAT.STATE]⟩

/-- GRD_CK_CFG.BUDGET, 17_guard_checker.md. -/
def GRD_CK_CFG.BUDGET : Field := ⟨522, 15, 0, .rwl, 400, .range 1 65535⟩
/-- GRD_CK_CFG, 17_guard_checker.md, offset 0x0104 + p × 0x100. -/
def GRD_CK_CFG : Reg := ⟨"GRD_CK_CFG", .grd, 10486020, [(4, 256)], 1, false,
  [GRD_CK_CFG.BUDGET]⟩

/-- GRD_WIN.SPAN, 17_guard_checker.md. -/
def GRD_WIN.SPAN : Field := ⟨523, 23, 8, .rwl, 100, .range 10 1000⟩
/-- GRD_WIN.THRESH, 17_guard_checker.md. -/
def GRD_WIN.THRESH : Field := ⟨524, 7, 0, .rwl, 3, .range 1 255⟩
/-- GRD_WIN, 17_guard_checker.md, offset 0x0108 + p × 0x100. -/
def GRD_WIN : Reg := ⟨"GRD_WIN", .grd, 10486024, [(4, 256)], 1, false,
  [GRD_WIN.SPAN, GRD_WIN.THRESH]⟩

/-- GRD_WIN_STAT.FRAMES, 17_guard_checker.md. -/
def GRD_WIN_STAT.FRAMES : Field := ⟨525, 31, 16, .ro, 0, .any⟩
/-- GRD_WIN_STAT.COUNT, 17_guard_checker.md. -/
def GRD_WIN_STAT.COUNT : Field := ⟨526, 7, 0, .ro, 0, .any⟩
/-- GRD_WIN_STAT, 17_guard_checker.md, offset 0x010C + p × 0x100. -/
def GRD_WIN_STAT : Reg := ⟨"GRD_WIN_STAT", .grd, 10486028, [(4, 256)], 1, false,
  [GRD_WIN_STAT.FRAMES, GRD_WIN_STAT.COUNT]⟩

/-- GRD_VR_HEAD.RSEQ, 17_guard_checker.md. -/
def GRD_VR_HEAD.RSEQ : Field := ⟨527, 31, 0, .ro, 0, .any⟩
/-- GRD_VR_HEAD, 17_guard_checker.md, offset 0x0110 + p × 0x100. -/
def GRD_VR_HEAD : Reg := ⟨"GRD_VR_HEAD", .grd, 10486032, [(4, 256)], 1, false,
  [GRD_VR_HEAD.RSEQ]⟩

/-- GRD_JUDGED.FRAME, 17_guard_checker.md. -/
def GRD_JUDGED.FRAME : Field := ⟨528, 31, 0, .ro, 0, .any⟩
/-- GRD_JUDGED, 17_guard_checker.md, offset 0x0114 + p × 0x100. -/
def GRD_JUDGED : Reg := ⟨"GRD_JUDGED", .grd, 10486036, [(4, 256)], 1, false,
  [GRD_JUDGED.FRAME]⟩

/-- GRD_EVT.TAP_ERR, 17_guard_checker.md. -/
def GRD_EVT.TAP_ERR : Field := ⟨529, 7, 7, .w1c, 0, .any⟩
/-- GRD_EVT.TAG_ERR, 17_guard_checker.md. -/
def GRD_EVT.TAG_ERR : Field := ⟨530, 6, 6, .w1c, 0, .any⟩
/-- GRD_EVT.OVERRUN, 17_guard_checker.md. -/
def GRD_EVT.OVERRUN : Field := ⟨531, 5, 5, .w1c, 0, .any⟩
/-- GRD_EVT.TAP_DROP, 17_guard_checker.md. -/
def GRD_EVT.TAP_DROP : Field := ⟨532, 4, 4, .w1c, 0, .any⟩
/-- GRD_EVT.SAFE, 17_guard_checker.md. -/
def GRD_EVT.SAFE : Field := ⟨533, 3, 3, .w1c, 0, .any⟩
/-- GRD_EVT.STALE, 17_guard_checker.md. -/
def GRD_EVT.STALE : Field := ⟨534, 2, 2, .w1c, 0, .any⟩
/-- GRD_EVT.FAIL, 17_guard_checker.md. -/
def GRD_EVT.FAIL : Field := ⟨535, 1, 1, .w1c, 0, .any⟩
/-- GRD_EVT.SUSPECT, 17_guard_checker.md. -/
def GRD_EVT.SUSPECT : Field := ⟨536, 0, 0, .w1c, 0, .any⟩
/-- GRD_EVT, 17_guard_checker.md, offset 0x0118 + p × 0x100. -/
def GRD_EVT : Reg := ⟨"GRD_EVT", .grd, 10486040, [(4, 256)], 1, false,
  [GRD_EVT.TAP_ERR, GRD_EVT.TAG_ERR, GRD_EVT.OVERRUN, GRD_EVT.TAP_DROP, GRD_EVT.SAFE, GRD_EVT.STALE, GRD_EVT.FAIL, GRD_EVT.SUSPECT]⟩

/-- GRD_SAFE.CAUSES, 17_guard_checker.md. -/
def GRD_SAFE.CAUSES : Field := ⟨537, 31, 16, .ro, 0, .any⟩
/-- GRD_SAFE.FIRST, 17_guard_checker.md. -/
def GRD_SAFE.FIRST : Field := ⟨538, 7, 0, .ro, 0, .any⟩
/-- GRD_SAFE, 17_guard_checker.md, offset 0x011C + p × 0x100. -/
def GRD_SAFE : Reg := ⟨"GRD_SAFE", .grd, 10486044, [(4, 256)], 1, false,
  [GRD_SAFE.CAUSES, GRD_SAFE.FIRST]⟩

/-- GRD_TRIP.TRIP, 17_guard_checker.md. -/
def GRD_TRIP.TRIP : Field := ⟨539, 0, 0, .rw, 0, .any⟩
/-- GRD_TRIP, 17_guard_checker.md, offset 0x0120 + p × 0x100. -/
def GRD_TRIP : Reg := ⟨"GRD_TRIP", .grd, 10486048, [(4, 256)], 1, false,
  [GRD_TRIP.TRIP]⟩

/-- GRD_RES_CFG.PAGES, 17_guard_checker.md. -/
def GRD_RES_CFG.PAGES : Field := ⟨540, 30, 20, .ro, 0, .any⟩
/-- GRD_RES_CFG.FIRST, 17_guard_checker.md. -/
def GRD_RES_CFG.FIRST : Field := ⟨541, 19, 0, .ro, 0, .any⟩
/-- GRD_RES_CFG, 17_guard_checker.md, offset 0x0124 + p × 0x100. -/
def GRD_RES_CFG : Reg := ⟨"GRD_RES_CFG", .grd, 10486052, [(4, 256)], 1, false,
  [GRD_RES_CFG.PAGES, GRD_RES_CFG.FIRST]⟩

/-- GRD_VR.RECORD, 17_guard_checker.md. -/
def GRD_VR.RECORD : Field := ⟨542, 511, 0, .ro, 0, .any⟩
/-- GRD_VR, 17_guard_checker.md, offset 0x1_0000 + p × 0x4000 + s × 0x40, s = 0–255. -/
def GRD_VR : Reg := ⟨"GRD_VR", .grd, 10551296, [(4, 16384), (256, 64)], 16, false,
  [GRD_VR.RECORD]⟩

/-- GRD_TB_CHK.BAD, 18_guard_timing.md. -/
def GRD_TB_CHK.BAD : Field := ⟨543, 31, 31, .w1c, 0, .any⟩
/-- GRD_TB_CHK.LAST_PPM, 18_guard_timing.md. -/
def GRD_TB_CHK.LAST_PPM : Field := ⟨544, 27, 16, .ro, 0, .any⟩
/-- GRD_TB_CHK.TOL_PPM, 18_guard_timing.md. -/
def GRD_TB_CHK.TOL_PPM : Field := ⟨545, 15, 0, .rwl, 1000, .range 200 4000⟩
/-- GRD_TB_CHK, 18_guard_timing.md, offset 0x0008. -/
def GRD_TB_CHK : Reg := ⟨"GRD_TB_CHK", .grd, 10485768, [], 1, false,
  [GRD_TB_CHK.BAD, GRD_TB_CHK.LAST_PPM, GRD_TB_CHK.TOL_PPM]⟩

/-- GRD_TCFG.FTTI_MS, 18_guard_timing.md. -/
def GRD_TCFG.FTTI_MS : Field := ⟨546, 31, 16, .rwl, 20, .range 20 65535⟩
/-- GRD_TCFG.TEST_MS, 18_guard_timing.md. -/
def GRD_TCFG.TEST_MS : Field := ⟨547, 15, 0, .rwl, 10, .any⟩
/-- GRD_TCFG, 18_guard_timing.md, offset 0x0140 + p × 0x100. -/
def GRD_TCFG : Reg := ⟨"GRD_TCFG", .grd, 10486080, [(4, 256)], 1, false,
  [GRD_TCFG.FTTI_MS, GRD_TCFG.TEST_MS]⟩

/-- GRD_TEST_CFG.GAP_US, 18_guard_timing.md. -/
def GRD_TEST_CFG.GAP_US : Field := ⟨548, 31, 24, .rwl, 10, .range 1 255⟩
/-- GRD_TEST_CFG.PAR, 18_guard_timing.md. -/
def GRD_TEST_CFG.PAR : Field := ⟨549, 11, 8, .rwl, 8, .range 1 8⟩
/-- GRD_TEST_CFG.SEG_US, 18_guard_timing.md. -/
def GRD_TEST_CFG.SEG_US : Field := ⟨550, 7, 0, .rwl, 20, .range 5 20⟩
/-- GRD_TEST_CFG, 18_guard_timing.md, offset 0x0144 + p × 0x100. -/
def GRD_TEST_CFG : Reg := ⟨"GRD_TEST_CFG", .grd, 10486084, [(4, 256)], 1, false,
  [GRD_TEST_CFG.GAP_US, GRD_TEST_CFG.PAR, GRD_TEST_CFG.SEG_US]⟩

/-- GRD_AGE.RUN, 18_guard_timing.md. -/
def GRD_AGE.RUN : Field := ⟨551, 27, 24, .rwl, 2, .range 1 15⟩
/-- GRD_AGE.LIMIT, 18_guard_timing.md. -/
def GRD_AGE.LIMIT : Field := ⟨552, 23, 0, .rwl, 1000, .range 1 16777215⟩
/-- GRD_AGE, 18_guard_timing.md, offset 0x0148 + p × 0x100. -/
def GRD_AGE : Reg := ⟨"GRD_AGE", .grd, 10486088, [(4, 256)], 1, false,
  [GRD_AGE.RUN, GRD_AGE.LIMIT]⟩

/-- GRD_TEVT.SWAP, 18_guard_timing.md. -/
def GRD_TEVT.SWAP : Field := ⟨553, 8, 8, .w1c, 0, .any⟩
/-- GRD_TEVT.BOUND, 18_guard_timing.md. -/
def GRD_TEVT.BOUND : Field := ⟨554, 7, 7, .w1c, 0, .any⟩
/-- GRD_TEVT.INJ_DUE, 18_guard_timing.md. -/
def GRD_TEVT.INJ_DUE : Field := ⟨555, 6, 6, .w1c, 0, .any⟩
/-- GRD_TEVT.SEQ, 18_guard_timing.md. -/
def GRD_TEVT.SEQ : Field := ⟨556, 5, 5, .w1c, 0, .any⟩
/-- GRD_TEVT.TB, 18_guard_timing.md. -/
def GRD_TEVT.TB : Field := ⟨557, 4, 4, .w1c, 0, .any⟩
/-- GRD_TEVT.TEST_LATE, 18_guard_timing.md. -/
def GRD_TEVT.TEST_LATE : Field := ⟨558, 3, 3, .w1c, 0, .any⟩
/-- GRD_TEVT.TEST_FAIL, 18_guard_timing.md. -/
def GRD_TEVT.TEST_FAIL : Field := ⟨559, 2, 2, .w1c, 0, .any⟩
/-- GRD_TEVT.BUDGET, 18_guard_timing.md. -/
def GRD_TEVT.BUDGET : Field := ⟨560, 1, 1, .w1c, 0, .any⟩
/-- GRD_TEVT.WDOG, 18_guard_timing.md. -/
def GRD_TEVT.WDOG : Field := ⟨561, 0, 0, .w1c, 0, .any⟩
/-- GRD_TEVT, 18_guard_timing.md, offset 0x014C + p × 0x100. -/
def GRD_TEVT : Reg := ⟨"GRD_TEVT", .grd, 10486092, [(4, 256)], 1, false,
  [GRD_TEVT.SWAP, GRD_TEVT.BOUND, GRD_TEVT.INJ_DUE, GRD_TEVT.SEQ, GRD_TEVT.TB, GRD_TEVT.TEST_LATE, GRD_TEVT.TEST_FAIL, GRD_TEVT.BUDGET, GRD_TEVT.WDOG]⟩

/-- GRD_TSTAT.ROT, 18_guard_timing.md. -/
def GRD_TSTAT.ROT : Field := ⟨562, 31, 16, .ro, 0, .any⟩
/-- GRD_TSTAT.HELD, 18_guard_timing.md. -/
def GRD_TSTAT.HELD : Field := ⟨563, 15, 8, .ro, 0, .any⟩
/-- GRD_TSTAT.RUNCNT, 18_guard_timing.md. -/
def GRD_TSTAT.RUNCNT : Field := ⟨564, 3, 0, .ro, 0, .any⟩
/-- GRD_TSTAT, 18_guard_timing.md, offset 0x0150 + p × 0x100. -/
def GRD_TSTAT : Reg := ⟨"GRD_TSTAT", .grd, 10486096, [(4, 256)], 1, false,
  [GRD_TSTAT.ROT, GRD_TSTAT.HELD, GRD_TSTAT.RUNCNT]⟩

/-- GRD_ROT_SLACK.US, 18_guard_timing.md. -/
def GRD_ROT_SLACK.US : Field := ⟨565, 31, 0, .ro, 0, .any⟩
/-- GRD_ROT_SLACK, 18_guard_timing.md, offset 0x0154 + p × 0x100. -/
def GRD_ROT_SLACK : Reg := ⟨"GRD_ROT_SLACK", .grd, 10486100, [(4, 256)], 1, false,
  [GRD_ROT_SLACK.US]⟩

/-- GRD_TEST_WAIT.MAX_TK, 18_guard_timing.md. -/
def GRD_TEST_WAIT.MAX_TK : Field := ⟨566, 31, 0, .rc, 0, .any⟩
/-- GRD_TEST_WAIT, 18_guard_timing.md, offset 0x0158 + p × 0x100. -/
def GRD_TEST_WAIT : Reg := ⟨"GRD_TEST_WAIT", .grd, 10486104, [(4, 256)], 1, false,
  [GRD_TEST_WAIT.MAX_TK]⟩

/-- GRD_ING.NEXT, 18_guard_timing.md. -/
def GRD_ING.NEXT : Field := ⟨567, 31, 0, .ro, 1, .any⟩
/-- GRD_ING, 18_guard_timing.md, offset 0x0160 + p × 0x100. -/
def GRD_ING : Reg := ⟨"GRD_ING", .grd, 10486112, [(4, 256)], 1, false,
  [GRD_ING.NEXT]⟩

/-- GRD_ING_CFG.SLOT, 18_guard_timing.md. -/
def GRD_ING_CFG.SLOT : Field := ⟨568, 5, 0, .ro, 0, .any⟩
/-- GRD_ING_CFG, 18_guard_timing.md, offset 0x0164 + p × 0x100. -/
def GRD_ING_CFG : Reg := ⟨"GRD_ING_CFG", .grd, 10486116, [(4, 256)], 1, false,
  [GRD_ING_CFG.SLOT]⟩

/-- GRD_INJ.DONE, 18_guard_timing.md. -/
def GRD_INJ.DONE : Field := ⟨569, 31, 31, .ro, 0, .any⟩
/-- GRD_INJ.FAIL, 18_guard_timing.md. -/
def GRD_INJ.FAIL : Field := ⟨570, 30, 30, .ro, 0, .any⟩
/-- GRD_INJ.ROW, 18_guard_timing.md. -/
def GRD_INJ.ROW : Field := ⟨571, 27, 24, .ro, 0, .any⟩
/-- GRD_INJ, 18_guard_timing.md, offset 0x0168 + p × 0x100. -/
def GRD_INJ : Reg := ⟨"GRD_INJ", .grd, 10486120, [(4, 256)], 1, false,
  [GRD_INJ.DONE, GRD_INJ.FAIL, GRD_INJ.ROW]⟩

/-- GRD_INJ_AGE.MAX_H, 18_guard_timing.md. -/
def GRD_INJ_AGE.MAX_H : Field := ⟨572, 31, 16, .rwl, 720, .range 1 65535⟩
/-- GRD_INJ_AGE.HOURS, 18_guard_timing.md. -/
def GRD_INJ_AGE.HOURS : Field := ⟨573, 15, 0, .ro, 0, .any⟩
/-- GRD_INJ_AGE, 18_guard_timing.md, offset 0x016C + p × 0x100. -/
def GRD_INJ_AGE : Reg := ⟨"GRD_INJ_AGE", .grd, 10486124, [(4, 256)], 1, false,
  [GRD_INJ_AGE.MAX_H, GRD_INJ_AGE.HOURS]⟩

/-- GRD_STG.MIN, 18_guard_timing.md. -/
def GRD_STG.MIN : Field := ⟨574, 31, 0, .ro, 0, .any⟩
/-- GRD_STG.MAX, 18_guard_timing.md. -/
def GRD_STG.MAX : Field := ⟨575, 63, 32, .ro, 0, .any⟩
/-- GRD_STG.CRIT, 18_guard_timing.md. -/
def GRD_STG.CRIT : Field := ⟨576, 95, 64, .ro, 0, .any⟩
/-- GRD_STG.WATCH, 18_guard_timing.md. -/
def GRD_STG.WATCH : Field := ⟨577, 127, 112, .ro, 0, .any⟩
/-- GRD_STG.PREV, 18_guard_timing.md. -/
def GRD_STG.PREV : Field := ⟨578, 111, 104, .ro, 0, .any⟩
/-- GRD_STG.LAST, 18_guard_timing.md. -/
def GRD_STG.LAST : Field := ⟨579, 159, 128, .ro, 0, .any⟩
/-- GRD_STG.KICK_TK, 18_guard_timing.md. -/
def GRD_STG.KICK_TK : Field := ⟨580, 255, 192, .ro, 0, .any⟩
/-- GRD_STG, 18_guard_timing.md, offset 0x8000 + p × 0x800 + s × 0x20, s = 0–15. -/
def GRD_STG : Reg := ⟨"GRD_STG", .grd, 10518528, [(4, 2048), (16, 32)], 8, false,
  [GRD_STG.MIN, GRD_STG.MAX, GRD_STG.CRIT, GRD_STG.WATCH, GRD_STG.PREV, GRD_STG.LAST, GRD_STG.KICK_TK]⟩

/-- GRD_TASK.FIELD, 18_guard_timing.md. -/
def GRD_TASK.FIELD : Field := ⟨581, 31, 26, .ro, 0, .any⟩
/-- GRD_TASK.CORE, 18_guard_timing.md. -/
def GRD_TASK.CORE : Field := ⟨582, 25, 18, .ro, 0, .any⟩
/-- GRD_TASK.STAGE, 18_guard_timing.md. -/
def GRD_TASK.STAGE : Field := ⟨583, 17, 14, .ro, 0, .any⟩
/-- GRD_TASK.OVER, 18_guard_timing.md. -/
def GRD_TASK.OVER : Field := ⟨584, 0, 0, .ro, 0, .any⟩
/-- GRD_TASK.THREADS, 18_guard_timing.md. -/
def GRD_TASK.THREADS : Field := ⟨585, 63, 32, .ro, 0, .any⟩
/-- GRD_TASK.BUDGET, 18_guard_timing.md. -/
def GRD_TASK.BUDGET : Field := ⟨586, 95, 64, .ro, 0, .any⟩
/-- GRD_TASK.PEAK, 18_guard_timing.md. -/
def GRD_TASK.PEAK : Field := ⟨587, 127, 96, .rc, 0, .any⟩
/-- GRD_TASK, 18_guard_timing.md, offset 0x8400 + p × 0x800 + t × 0x10, t = 0–63. -/
def GRD_TASK : Reg := ⟨"GRD_TASK", .grd, 10519552, [(4, 2048), (64, 16)], 4, false,
  [GRD_TASK.FIELD, GRD_TASK.CORE, GRD_TASK.STAGE, GRD_TASK.OVER, GRD_TASK.THREADS, GRD_TASK.BUDGET, GRD_TASK.PEAK]⟩

/-- PAR_FFAIL.FIELDS, 19_failures.md. -/
def PAR_FFAIL.FIELDS : Field := ⟨588, 63, 0, .ro, 0, .any⟩
/-- PAR_FFAIL, 19_failures.md, offset 0x0020. -/
def PAR_FFAIL : Reg := ⟨"PAR_FFAIL", .par, 2097184, [], 2, false,
  [PAR_FFAIL.FIELDS]⟩

/-- PAR_DLOG_HEAD.DSEQ, 19_failures.md. -/
def PAR_DLOG_HEAD.DSEQ : Field := ⟨589, 31, 0, .ro, 0, .any⟩
/-- PAR_DLOG_HEAD, 19_failures.md, offset 0x0030. -/
def PAR_DLOG_HEAD : Reg := ⟨"PAR_DLOG_HEAD", .par, 2097200, [], 1, false,
  [PAR_DLOG_HEAD.DSEQ]⟩

/-- PAR_DLOG_SEL.DSEQ, 19_failures.md. -/
def PAR_DLOG_SEL.DSEQ : Field := ⟨590, 31, 0, .rw, 0, .any⟩
/-- PAR_DLOG_SEL, 19_failures.md, offset 0x0034. -/
def PAR_DLOG_SEL : Reg := ⟨"PAR_DLOG_SEL", .par, 2097204, [], 1, true,
  [PAR_DLOG_SEL.DSEQ]⟩

/-- PAR_DLOG_ENT.ENTRY, 19_failures.md. -/
def PAR_DLOG_ENT.ENTRY : Field := ⟨591, 255, 0, .ro, 0, .any⟩
/-- PAR_DLOG_ENT, 19_failures.md, offset 0x0040. -/
def PAR_DLOG_ENT : Reg := ⟨"PAR_DLOG_ENT", .par, 2097216, [], 8, false,
  [PAR_DLOG_ENT.ENTRY]⟩

/-- PAR_TFAIL.TOWERS, 19_failures.md. -/
def PAR_TFAIL.TOWERS : Field := ⟨592, 255, 0, .ro, 0, .any⟩
/-- PAR_TFAIL, 19_failures.md, offset 0x0060. -/
def PAR_TFAIL : Reg := ⟨"PAR_TFAIL", .par, 2097248, [], 8, false,
  [PAR_TFAIL.TOWERS]⟩

/-- PAR_RECOV_CTL.LOST_ACT, 19_failures.md. -/
def PAR_RECOV_CTL.LOST_ACT : Field := ⟨593, 21, 21, .rwl, 1, .any⟩
/-- PAR_RECOV_CTL.AUTO_RESUME, 19_failures.md. -/
def PAR_RECOV_CTL.AUTO_RESUME : Field := ⟨594, 20, 20, .rwl, 1, .any⟩
/-- PAR_RECOV_CTL.MAX, 19_failures.md. -/
def PAR_RECOV_CTL.MAX : Field := ⟨595, 19, 16, .rwl, 4, .range 1 15⟩
/-- PAR_RECOV_CTL.HALT_MS, 19_failures.md. -/
def PAR_RECOV_CTL.HALT_MS : Field := ⟨596, 15, 8, .rwl, 10, .range 1 255⟩
/-- PAR_RECOV_CTL.XFER_MS, 19_failures.md. -/
def PAR_RECOV_CTL.XFER_MS : Field := ⟨597, 7, 0, .rwl, 50, .range 20 255⟩
/-- PAR_RECOV_CTL, 19_failures.md, offset 0x0170 + p × 0x100. -/
def PAR_RECOV_CTL : Reg := ⟨"PAR_RECOV_CTL", .par, 2097520, [(4, 256)], 1, false,
  [PAR_RECOV_CTL.LOST_ACT, PAR_RECOV_CTL.AUTO_RESUME, PAR_RECOV_CTL.MAX, PAR_RECOV_CTL.HALT_MS, PAR_RECOV_CTL.XFER_MS]⟩

/-- PAR_RECOV_STAT.COUNT, 19_failures.md. -/
def PAR_RECOV_STAT.COUNT : Field := ⟨598, 31, 16, .ro, 0, .any⟩
/-- PAR_RECOV_STAT.HOUR, 19_failures.md. -/
def PAR_RECOV_STAT.HOUR : Field := ⟨599, 15, 12, .ro, 0, .any⟩
/-- PAR_RECOV_STAT.LAST, 19_failures.md. -/
def PAR_RECOV_STAT.LAST : Field := ⟨600, 11, 8, .ro, 0, .any⟩
/-- PAR_RECOV_STAT.PHASE, 19_failures.md. -/
def PAR_RECOV_STAT.PHASE : Field := ⟨601, 2, 0, .ro, 0, .any⟩
/-- PAR_RECOV_STAT, 19_failures.md, offset 0x0174 + p × 0x100. -/
def PAR_RECOV_STAT : Reg := ⟨"PAR_RECOV_STAT", .par, 2097524, [(4, 256)], 1, false,
  [PAR_RECOV_STAT.COUNT, PAR_RECOV_STAT.HOUR, PAR_RECOV_STAT.LAST, PAR_RECOV_STAT.PHASE]⟩

/-- PAR_RECOV_EVT.TIMEOUT, 19_failures.md. -/
def PAR_RECOV_EVT.TIMEOUT : Field := ⟨602, 5, 5, .w1c, 0, .any⟩
/-- PAR_RECOV_EVT.HW_ERROR, 19_failures.md. -/
def PAR_RECOV_EVT.HW_ERROR : Field := ⟨603, 4, 4, .w1c, 0, .any⟩
/-- PAR_RECOV_EVT.RECOV_LIMIT, 19_failures.md. -/
def PAR_RECOV_EVT.RECOV_LIMIT : Field := ⟨604, 3, 3, .w1c, 0, .any⟩
/-- PAR_RECOV_EVT.CKPT_LOST, 19_failures.md. -/
def PAR_RECOV_EVT.CKPT_LOST : Field := ⟨605, 2, 2, .w1c, 0, .any⟩
/-- PAR_RECOV_EVT.ROLLBACK, 19_failures.md. -/
def PAR_RECOV_EVT.ROLLBACK : Field := ⟨606, 1, 1, .w1c, 0, .any⟩
/-- PAR_RECOV_EVT.UNIT_FAIL, 19_failures.md. -/
def PAR_RECOV_EVT.UNIT_FAIL : Field := ⟨607, 0, 0, .w1c, 0, .any⟩
/-- PAR_RECOV_EVT, 19_failures.md, offset 0x0178 + p × 0x100. -/
def PAR_RECOV_EVT : Reg := ⟨"PAR_RECOV_EVT", .par, 2097528, [(4, 256)], 1, false,
  [PAR_RECOV_EVT.TIMEOUT, PAR_RECOV_EVT.HW_ERROR, PAR_RECOV_EVT.RECOV_LIMIT, PAR_RECOV_EVT.CKPT_LOST, PAR_RECOV_EVT.ROLLBACK, PAR_RECOV_EVT.UNIT_FAIL]⟩

/-- PAR_FLOG_HEAD.PSEQ, 19_failures.md. -/
def PAR_FLOG_HEAD.PSEQ : Field := ⟨608, 31, 0, .ro, 0, .any⟩
/-- PAR_FLOG_HEAD, 19_failures.md, offset 0x017C + p × 0x100. -/
def PAR_FLOG_HEAD : Reg := ⟨"PAR_FLOG_HEAD", .par, 2097532, [(4, 256)], 1, false,
  [PAR_FLOG_HEAD.PSEQ]⟩

/-- PAR_FLOG_SEL.PSEQ, 19_failures.md. -/
def PAR_FLOG_SEL.PSEQ : Field := ⟨609, 31, 0, .rw, 0, .any⟩
/-- PAR_FLOG_SEL, 19_failures.md, offset 0x0180 + p × 0x100. -/
def PAR_FLOG_SEL : Reg := ⟨"PAR_FLOG_SEL", .par, 2097536, [(4, 256)], 1, true,
  [PAR_FLOG_SEL.PSEQ]⟩

/-- PAR_FLOG_ENT.ENTRY, 19_failures.md. -/
def PAR_FLOG_ENT.ENTRY : Field := ⟨610, 255, 0, .ro, 0, .any⟩
/-- PAR_FLOG_ENT, 19_failures.md, offset 0x0188 + p × 0x100. -/
def PAR_FLOG_ENT : Reg := ⟨"PAR_FLOG_ENT", .par, 2097544, [(4, 256)], 8, false,
  [PAR_FLOG_ENT.ENTRY]⟩

/-- CNT_SNAP_CMD.SEQ, 21_counters_debug.md. -/
def CNT_SNAP_CMD.SEQ : Field := ⟨611, 63, 48, .wo, 0, .any⟩
/-- CNT_SNAP_CMD.CLEAR, 21_counters_debug.md. -/
def CNT_SNAP_CMD.CLEAR : Field := ⟨612, 47, 47, .wo, 0, .any⟩
/-- CNT_SNAP_CMD.SCOPE, 21_counters_debug.md. -/
def CNT_SNAP_CMD.SCOPE : Field := ⟨613, 43, 42, .wo, 0, .any⟩
/-- CNT_SNAP_CMD.PART, 21_counters_debug.md. -/
def CNT_SNAP_CMD.PART : Field := ⟨614, 41, 40, .wo, 0, .any⟩
/-- CNT_SNAP_CMD.FIELD, 21_counters_debug.md. -/
def CNT_SNAP_CMD.FIELD : Field := ⟨615, 37, 32, .wo, 0, .any⟩
/-- CNT_SNAP_CMD.CORE, 21_counters_debug.md. -/
def CNT_SNAP_CMD.CORE : Field := ⟨616, 31, 24, .wo, 0, .any⟩
/-- CNT_SNAP_CMD.COUNT, 21_counters_debug.md. -/
def CNT_SNAP_CMD.COUNT : Field := ⟨617, 20, 11, .wo, 0, .any⟩
/-- CNT_SNAP_CMD.FIRST, 21_counters_debug.md. -/
def CNT_SNAP_CMD.FIRST : Field := ⟨618, 10, 0, .wo, 0, .any⟩
/-- CNT_SNAP_CMD, 21_counters_debug.md, offset 0x0000. -/
def CNT_SNAP_CMD : Reg := ⟨"CNT_SNAP_CMD", .cnt, 12582912, [], 2, true,
  [CNT_SNAP_CMD.SEQ, CNT_SNAP_CMD.CLEAR, CNT_SNAP_CMD.SCOPE, CNT_SNAP_CMD.PART, CNT_SNAP_CMD.FIELD, CNT_SNAP_CMD.CORE, CNT_SNAP_CMD.COUNT, CNT_SNAP_CMD.FIRST]⟩

/-- CNT_SNAP_STAT.TICK, 21_counters_debug.md. -/
def CNT_SNAP_STAT.TICK : Field := ⟨619, 127, 64, .ro, 0, .any⟩
/-- CNT_SNAP_STAT.SEQ, 21_counters_debug.md. -/
def CNT_SNAP_STAT.SEQ : Field := ⟨620, 63, 48, .ro, 0, .any⟩
/-- CNT_SNAP_STAT.RESULT, 21_counters_debug.md. -/
def CNT_SNAP_STAT.RESULT : Field := ⟨621, 3, 0, .ro, 0, .any⟩
/-- CNT_SNAP_STAT, 21_counters_debug.md, offset 0x0008. -/
def CNT_SNAP_STAT : Reg := ⟨"CNT_SNAP_STAT", .cnt, 12582920, [], 4, true,
  [CNT_SNAP_STAT.TICK, CNT_SNAP_STAT.SEQ, CNT_SNAP_STAT.RESULT]⟩

/-- CNT_BANK.VALUE, 21_counters_debug.md. -/
def CNT_BANK.VALUE : Field := ⟨622, 63, 0, .ro, 0, .any⟩
/-- CNT_BANK, 21_counters_debug.md, offset 0x1000 + i × 8, i = 0–1,023. -/
def CNT_BANK : Reg := ⟨"CNT_BANK", .cnt, 12587008, [(1024, 8)], 2, true,
  [CNT_BANK.VALUE]⟩

/-- CNT_BANK_WRAP.WRAP, 21_counters_debug.md. -/
def CNT_BANK_WRAP.WRAP : Field := ⟨623, 31, 0, .ro, 0, .any⟩
/-- CNT_BANK_WRAP, 21_counters_debug.md, offset 0x3000 + w × 4, w = 0–31. -/
def CNT_BANK_WRAP : Reg := ⟨"CNT_BANK_WRAP", .cnt, 12595200, [(32, 4)], 1, true,
  [CNT_BANK_WRAP.WRAP]⟩

/-- DBG_EVT.SO_SET, 21_counters_debug.md. -/
def DBG_EVT.SO_SET : Field := ⟨624, 1, 1, .w1c, 0, .any⟩
/-- DBG_EVT.DEADLOCK, 21_counters_debug.md. -/
def DBG_EVT.DEADLOCK : Field := ⟨625, 0, 0, .w1c, 0, .any⟩
/-- DBG_EVT, 21_counters_debug.md, offset 0x0104 + p × 0x100. -/
def DBG_EVT : Reg := ⟨"DBG_EVT", .dbg, 13631748, [(4, 256)], 1, false,
  [DBG_EVT.SO_SET, DBG_EVT.DEADLOCK]⟩

/-- DBG_DL_CTL.EN, 21_counters_debug.md. -/
def DBG_DL_CTL.EN : Field := ⟨626, 8, 8, .rwl, 1, .any⟩
/-- DBG_DL_CTL.MS, 21_counters_debug.md. -/
def DBG_DL_CTL.MS : Field := ⟨627, 7, 0, .rwl, 10, .range 1 255⟩
/-- DBG_DL_CTL, 21_counters_debug.md, offset 0x0100 + p × 0x100. -/
def DBG_DL_CTL : Reg := ⟨"DBG_DL_CTL", .dbg, 13631744, [(4, 256)], 1, false,
  [DBG_DL_CTL.EN, DBG_DL_CTL.MS]⟩

/-- DBG_DL_STAT.QUIET_TK, 21_counters_debug.md. -/
def DBG_DL_STAT.QUIET_TK : Field := ⟨628, 127, 64, .ro, 0, .any⟩
/-- DBG_DL_STAT.FIRED, 21_counters_debug.md. -/
def DBG_DL_STAT.FIRED : Field := ⟨629, 63, 63, .w1c, 0, .any⟩
/-- DBG_DL_STAT.TRUNC, 21_counters_debug.md. -/
def DBG_DL_STAT.TRUNC : Field := ⟨630, 62, 62, .ro, 0, .any⟩
/-- DBG_DL_STAT.VOLATILE, 21_counters_debug.md. -/
def DBG_DL_STAT.VOLATILE : Field := ⟨631, 61, 61, .ro, 0, .any⟩
/-- DBG_DL_STAT.BUSY, 21_counters_debug.md. -/
def DBG_DL_STAT.BUSY : Field := ⟨632, 60, 60, .ro, 0, .any⟩
/-- DBG_DL_STAT.TOTAL, 21_counters_debug.md. -/
def DBG_DL_STAT.TOTAL : Field := ⟨633, 19, 0, .ro, 0, .any⟩
/-- DBG_DL_STAT, 21_counters_debug.md, offset 0x0108 + p × 0x100. -/
def DBG_DL_STAT : Reg := ⟨"DBG_DL_STAT", .dbg, 13631752, [(4, 256)], 4, false,
  [DBG_DL_STAT.QUIET_TK, DBG_DL_STAT.FIRED, DBG_DL_STAT.TRUNC, DBG_DL_STAT.VOLATILE, DBG_DL_STAT.BUSY, DBG_DL_STAT.TOTAL]⟩

/-- DBG_WG_SEL.REC, 21_counters_debug.md. -/
def DBG_WG_SEL.REC : Field := ⟨634, 15, 0, .rw, 0, .any⟩
/-- DBG_WG_SEL, 21_counters_debug.md, offset 0x0120 + p × 0x100. -/
def DBG_WG_SEL : Reg := ⟨"DBG_WG_SEL", .dbg, 13631776, [(4, 256)], 1, true,
  [DBG_WG_SEL.REC]⟩

/-- DBG_WG_ENT.RECORD, 21_counters_debug.md. -/
def DBG_WG_ENT.RECORD : Field := ⟨635, 255, 0, .ro, 0, .any⟩
/-- DBG_WG_ENT, 21_counters_debug.md, offset 0x0140 + p × 0x100. -/
def DBG_WG_ENT : Reg := ⟨"DBG_WG_ENT", .dbg, 13631808, [(4, 256)], 8, false,
  [DBG_WG_ENT.RECORD]⟩

/-- DBG_SO_SEL.PART, 21_counters_debug.md. -/
def DBG_SO_SEL.PART : Field := ⟨636, 63, 62, .rw, 0, .any⟩
/-- DBG_SO_SEL.REF, 21_counters_debug.md. -/
def DBG_SO_SEL.REF : Field := ⟨637, 55, 32, .rw, 0, .any⟩
/-- DBG_SO_SEL.WAITER, 21_counters_debug.md. -/
def DBG_SO_SEL.WAITER : Field := ⟨638, 15, 0, .rw, 0, .any⟩
/-- DBG_SO_SEL, 21_counters_debug.md, offset 0x1000. -/
def DBG_SO_SEL : Reg := ⟨"DBG_SO_SEL", .dbg, 13635584, [], 2, true,
  [DBG_SO_SEL.PART, DBG_SO_SEL.REF, DBG_SO_SEL.WAITER]⟩

/-- DBG_SO_VIEW.LTICK, 21_counters_debug.md. -/
def DBG_SO_VIEW.LTICK : Field := ⟨639, 255, 192, .ro, 0, .any⟩
/-- DBG_SO_VIEW.LFIELD, 21_counters_debug.md. -/
def DBG_SO_VIEW.LFIELD : Field := ⟨640, 191, 186, .ro, 0, .any⟩
/-- DBG_SO_VIEW.LCORE, 21_counters_debug.md. -/
def DBG_SO_VIEW.LCORE : Field := ⟨641, 185, 178, .ro, 0, .any⟩
/-- DBG_SO_VIEW.LUNIT, 21_counters_debug.md. -/
def DBG_SO_VIEW.LUNIT : Field := ⟨642, 177, 172, .ro, 0, .any⟩
/-- DBG_SO_VIEW.LOP, 21_counters_debug.md. -/
def DBG_SO_VIEW.LOP : Field := ⟨643, 171, 170, .ro, 0, .any⟩
/-- DBG_SO_VIEW.HELD, 21_counters_debug.md. -/
def DBG_SO_VIEW.HELD : Field := ⟨644, 162, 160, .ro, 0, .any⟩
/-- DBG_SO_VIEW.LANDED, 21_counters_debug.md. -/
def DBG_SO_VIEW.LANDED : Field := ⟨645, 159, 128, .ro, 0, .any⟩
/-- DBG_SO_VIEW.WAITERS, 21_counters_debug.md. -/
def DBG_SO_VIEW.WAITERS : Field := ⟨646, 127, 96, .ro, 0, .any⟩
/-- DBG_SO_VIEW.LIVE, 21_counters_debug.md. -/
def DBG_SO_VIEW.LIVE : Field := ⟨647, 65, 65, .ro, 0, .any⟩
/-- DBG_SO_VIEW.WORD, 21_counters_debug.md. -/
def DBG_SO_VIEW.WORD : Field := ⟨648, 63, 0, .ro, 0, .any⟩
/-- DBG_SO_VIEW, 21_counters_debug.md, offset 0x1020. -/
def DBG_SO_VIEW : Reg := ⟨"DBG_SO_VIEW", .dbg, 13635616, [], 8, false,
  [DBG_SO_VIEW.LTICK, DBG_SO_VIEW.LFIELD, DBG_SO_VIEW.LCORE, DBG_SO_VIEW.LUNIT, DBG_SO_VIEW.LOP, DBG_SO_VIEW.HELD, DBG_SO_VIEW.LANDED, DBG_SO_VIEW.WAITERS, DBG_SO_VIEW.LIVE, DBG_SO_VIEW.WORD]⟩

/-- DBG_SO_WAIT.RECORD, 21_counters_debug.md. -/
def DBG_SO_WAIT.RECORD : Field := ⟨649, 255, 0, .ro, 0, .any⟩
/-- DBG_SO_WAIT, 21_counters_debug.md, offset 0x1040. -/
def DBG_SO_WAIT : Reg := ⟨"DBG_SO_WAIT", .dbg, 13635648, [], 8, false,
  [DBG_SO_WAIT.RECORD]⟩

/-- DBG_SO_SET.SEQ, 21_counters_debug.md. -/
def DBG_SO_SET.SEQ : Field := ⟨650, 63, 48, .wo, 0, .any⟩
/-- DBG_SO_SET.CLR_BROKEN, 21_counters_debug.md. -/
def DBG_SO_SET.CLR_BROKEN : Field := ⟨651, 34, 34, .wo, 0, .any⟩
/-- DBG_SO_SET.CLR_SAT, 21_counters_debug.md. -/
def DBG_SO_SET.CLR_SAT : Field := ⟨652, 33, 33, .wo, 0, .any⟩
/-- DBG_SO_SET.LIVE, 21_counters_debug.md. -/
def DBG_SO_SET.LIVE : Field := ⟨653, 32, 32, .wo, 0, .any⟩
/-- DBG_SO_SET.VALUE, 21_counters_debug.md. -/
def DBG_SO_SET.VALUE : Field := ⟨654, 31, 0, .wo, 0, .any⟩
/-- DBG_SO_SET, 21_counters_debug.md, offset 0x1060. -/
def DBG_SO_SET : Reg := ⟨"DBG_SO_SET", .dbg, 13635680, [], 2, false,
  [DBG_SO_SET.SEQ, DBG_SO_SET.CLR_BROKEN, DBG_SO_SET.CLR_SAT, DBG_SO_SET.LIVE, DBG_SO_SET.VALUE]⟩

/-- DBG_SO_SET_STAT.SEQ, 21_counters_debug.md. -/
def DBG_SO_SET_STAT.SEQ : Field := ⟨655, 31, 16, .ro, 0, .any⟩
/-- DBG_SO_SET_STAT.RESULT, 21_counters_debug.md. -/
def DBG_SO_SET_STAT.RESULT : Field := ⟨656, 3, 0, .ro, 0, .any⟩
/-- DBG_SO_SET_STAT, 21_counters_debug.md, offset 0x1068. -/
def DBG_SO_SET_STAT : Reg := ⟨"DBG_SO_SET_STAT", .dbg, 13635688, [], 1, true,
  [DBG_SO_SET_STAT.SEQ, DBG_SO_SET_STAT.RESULT]⟩

/-- DBG_TR_CTL.SOURCES, 21_counters_debug.md. -/
def DBG_TR_CTL.SOURCES : Field := ⟨657, 31, 24, .rw, 0, .any⟩
/-- DBG_TR_CTL.DEV, 21_counters_debug.md. -/
def DBG_TR_CTL.DEV : Field := ⟨658, 7, 7, .rw, 0, .any⟩
/-- DBG_TR_CTL.PART, 21_counters_debug.md. -/
def DBG_TR_CTL.PART : Field := ⟨659, 6, 5, .rw, 0, .any⟩
/-- DBG_TR_CTL.MODE, 21_counters_debug.md. -/
def DBG_TR_CTL.MODE : Field := ⟨660, 4, 4, .rw, 0, .any⟩
/-- DBG_TR_CTL.STOP, 21_counters_debug.md. -/
def DBG_TR_CTL.STOP : Field := ⟨661, 1, 1, .wo, 0, .any⟩
/-- DBG_TR_CTL.START, 21_counters_debug.md. -/
def DBG_TR_CTL.START : Field := ⟨662, 0, 0, .wo, 0, .any⟩
/-- DBG_TR_CTL, 21_counters_debug.md, offset 0x2000. -/
def DBG_TR_CTL : Reg := ⟨"DBG_TR_CTL", .dbg, 13639680, [], 1, false,
  [DBG_TR_CTL.SOURCES, DBG_TR_CTL.DEV, DBG_TR_CTL.PART, DBG_TR_CTL.MODE, DBG_TR_CTL.STOP, DBG_TR_CTL.START]⟩

/-- DBG_TR_OBJ.REF, 21_counters_debug.md. -/
def DBG_TR_OBJ.REF : Field := ⟨663, 63, 40, .rw, 0, .any⟩
/-- DBG_TR_OBJ.FIELD, 21_counters_debug.md. -/
def DBG_TR_OBJ.FIELD : Field := ⟨664, 13, 8, .rw, 0, .any⟩
/-- DBG_TR_OBJ.CORE, 21_counters_debug.md. -/
def DBG_TR_OBJ.CORE : Field := ⟨665, 7, 0, .rw, 0, .any⟩
/-- DBG_TR_OBJ, 21_counters_debug.md, offset 0x2008. -/
def DBG_TR_OBJ : Reg := ⟨"DBG_TR_OBJ", .dbg, 13639688, [], 2, false,
  [DBG_TR_OBJ.REF, DBG_TR_OBJ.FIELD, DBG_TR_OBJ.CORE]⟩

/-- DBG_TR_STAT.DROPPED, 21_counters_debug.md. -/
def DBG_TR_STAT.DROPPED : Field := ⟨666, 63, 32, .ro, 0, .any⟩
/-- DBG_TR_STAT.ACTIVE, 21_counters_debug.md. -/
def DBG_TR_STAT.ACTIVE : Field := ⟨667, 31, 31, .ro, 0, .any⟩
/-- DBG_TR_STAT.FULL, 21_counters_debug.md. -/
def DBG_TR_STAT.FULL : Field := ⟨668, 30, 30, .ro, 0, .any⟩
/-- DBG_TR_STAT.NEXT, 21_counters_debug.md. -/
def DBG_TR_STAT.NEXT : Field := ⟨669, 19, 0, .ro, 0, .any⟩
/-- DBG_TR_STAT, 21_counters_debug.md, offset 0x2010. -/
def DBG_TR_STAT : Reg := ⟨"DBG_TR_STAT", .dbg, 13639696, [], 2, false,
  [DBG_TR_STAT.DROPPED, DBG_TR_STAT.ACTIVE, DBG_TR_STAT.FULL, DBG_TR_STAT.NEXT]⟩

/-- DBG_TR_SEL.SLOT, 21_counters_debug.md. -/
def DBG_TR_SEL.SLOT : Field := ⟨670, 18, 0, .rw, 0, .any⟩
/-- DBG_TR_SEL, 21_counters_debug.md, offset 0x2018. -/
def DBG_TR_SEL : Reg := ⟨"DBG_TR_SEL", .dbg, 13639704, [], 1, true,
  [DBG_TR_SEL.SLOT]⟩

/-- DBG_TR_ENT.RECORD, 21_counters_debug.md. -/
def DBG_TR_ENT.RECORD : Field := ⟨671, 255, 0, .ro, 0, .any⟩
/-- DBG_TR_ENT, 21_counters_debug.md, offset 0x2020. -/
def DBG_TR_ENT : Reg := ⟨"DBG_TR_ENT", .dbg, 13639712, [], 8, false,
  [DBG_TR_ENT.RECORD]⟩

/-- SBM_MGMT_STAT.DYN, 22_management_sideband.md. -/
def SBM_MGMT_STAT.DYN : Field := ⟨672, 15, 9, .ro, 0, .any⟩
/-- SBM_MGMT_STAT.I3C, 22_management_sideband.md. -/
def SBM_MGMT_STAT.I3C : Field := ⟨673, 8, 8, .ro, 0, .any⟩
/-- SBM_MGMT_STAT.STATIC, 22_management_sideband.md. -/
def SBM_MGMT_STAT.STATIC : Field := ⟨674, 6, 0, .ro, 88, .any⟩
/-- SBM_MGMT_STAT, 22_management_sideband.md, offset 0x0000. -/
def SBM_MGMT_STAT : Reg := ⟨"SBM_MGMT_STAT", .sbm, 14680064, [], 1, false,
  [SBM_MGMT_STAT.DYN, SBM_MGMT_STAT.I3C, SBM_MGMT_STAT.STATIC]⟩

/-- SBM_MGMT_CFG.PEC_EN, 22_management_sideband.md. -/
def SBM_MGMT_CFG.PEC_EN : Field := ⟨675, 0, 0, .rw, 0, .any⟩
/-- SBM_MGMT_CFG, 22_management_sideband.md, offset 0x0004. -/
def SBM_MGMT_CFG : Reg := ⟨"SBM_MGMT_CFG", .sbm, 14680068, [], 1, false,
  [SBM_MGMT_CFG.PEC_EN]⟩

/-- SBM_QUIET.NS, 22_management_sideband.md. -/
def SBM_QUIET.NS : Field := ⟨676, 15, 0, .rwl, 2000, .range 200 65535⟩
/-- SBM_QUIET, 22_management_sideband.md, offset 0x0008. -/
def SBM_QUIET : Reg := ⟨"SBM_QUIET", .sbm, 14680072, [], 1, false,
  [SBM_QUIET.NS]⟩

/-- SBM_EVT.RANGE, 22_management_sideband.md. -/
def SBM_EVT.RANGE : Field := ⟨677, 6, 6, .w1c, 0, .any⟩
/-- SBM_EVT.FORMAT, 22_management_sideband.md. -/
def SBM_EVT.FORMAT : Field := ⟨678, 5, 5, .w1c, 0, .any⟩
/-- SBM_EVT.SMB_TIMEOUT, 22_management_sideband.md. -/
def SBM_EVT.SMB_TIMEOUT : Field := ⟨679, 4, 4, .w1c, 0, .any⟩
/-- SBM_EVT.PULSE_MERGED, 22_management_sideband.md. -/
def SBM_EVT.PULSE_MERGED : Field := ⟨680, 3, 3, .w1c, 0, .any⟩
/-- SBM_EVT.SYNC_DROP, 22_management_sideband.md. -/
def SBM_EVT.SYNC_DROP : Field := ⟨681, 2, 2, .w1c, 0, .any⟩
/-- SBM_EVT.MGMT_PEC, 22_management_sideband.md. -/
def SBM_EVT.MGMT_PEC : Field := ⟨682, 1, 1, .w1c, 0, .any⟩
/-- SBM_EVT.MGMT_DENIED, 22_management_sideband.md. -/
def SBM_EVT.MGMT_DENIED : Field := ⟨683, 0, 0, .w1c, 0, .any⟩
/-- SBM_EVT, 22_management_sideband.md, offset 0x000C. -/
def SBM_EVT : Reg := ⟨"SBM_EVT", .sbm, 14680076, [], 1, false,
  [SBM_EVT.RANGE, SBM_EVT.FORMAT, SBM_EVT.SMB_TIMEOUT, SBM_EVT.PULSE_MERGED, SBM_EVT.SYNC_DROP, SBM_EVT.MGMT_PEC, SBM_EVT.MGMT_DENIED]⟩

/-- SBM_ALERT_EN.EN, 22_management_sideband.md. -/
def SBM_ALERT_EN.EN : Field := ⟨684, 4, 0, .rw, 31, .any⟩
/-- SBM_ALERT_EN, 22_management_sideband.md, offset 0x0010. -/
def SBM_ALERT_EN : Reg := ⟨"SBM_ALERT_EN", .sbm, 14680080, [], 1, false,
  [SBM_ALERT_EN.EN]⟩

/-- SBM_ALERT_SRC.THERM, 22_management_sideband.md. -/
def SBM_ALERT_SRC.THERM : Field := ⟨685, 4, 4, .ro, 0, .any⟩
/-- SBM_ALERT_SRC.FLOG, 22_management_sideband.md. -/
def SBM_ALERT_SRC.FLOG : Field := ⟨686, 3, 3, .ro, 0, .any⟩
/-- SBM_ALERT_SRC.BOOT, 22_management_sideband.md. -/
def SBM_ALERT_SRC.BOOT : Field := ⟨687, 2, 2, .rc, 0, .any⟩
/-- SBM_ALERT_SRC.SAFE, 22_management_sideband.md. -/
def SBM_ALERT_SRC.SAFE : Field := ⟨688, 1, 1, .ro, 0, .any⟩
/-- SBM_ALERT_SRC.DEV, 22_management_sideband.md. -/
def SBM_ALERT_SRC.DEV : Field := ⟨689, 0, 0, .ro, 0, .any⟩
/-- SBM_ALERT_SRC, 22_management_sideband.md, offset 0x0014. -/
def SBM_ALERT_SRC : Reg := ⟨"SBM_ALERT_SRC", .sbm, 14680084, [], 1, false,
  [SBM_ALERT_SRC.THERM, SBM_ALERT_SRC.FLOG, SBM_ALERT_SRC.BOOT, SBM_ALERT_SRC.SAFE, SBM_ALERT_SRC.DEV]⟩

/-- SBM_GPIO_OUT.OUT, 22_management_sideband.md. -/
def SBM_GPIO_OUT.OUT : Field := ⟨690, 15, 0, .rw, 0, .any⟩
/-- SBM_GPIO_OUT, 22_management_sideband.md, offset 0x0020. -/
def SBM_GPIO_OUT : Reg := ⟨"SBM_GPIO_OUT", .sbm, 14680096, [], 1, false,
  [SBM_GPIO_OUT.OUT]⟩

/-- SBM_GPIO_IN.IN, 22_management_sideband.md. -/
def SBM_GPIO_IN.IN : Field := ⟨691, 15, 0, .ro, 0, .any⟩
/-- SBM_GPIO_IN, 22_management_sideband.md, offset 0x0024. -/
def SBM_GPIO_IN : Reg := ⟨"SBM_GPIO_IN", .sbm, 14680100, [], 1, false,
  [SBM_GPIO_IN.IN]⟩

/-- SBM_SW_STAT.SWITCHING, 22_management_sideband.md. -/
def SBM_SW_STAT.SWITCHING : Field := ⟨692, 15, 0, .ro, 0, .any⟩
/-- SBM_SW_STAT, 22_management_sideband.md, offset 0x0028. -/
def SBM_SW_STAT : Reg := ⟨"SBM_SW_STAT", .sbm, 14680104, [], 1, false,
  [SBM_SW_STAT.SWITCHING]⟩

/-- SBM_DPIN.PPS, 22_management_sideband.md. -/
def SBM_DPIN.PPS : Field := ⟨693, 6, 6, .ro, 0, .any⟩
/-- SBM_DPIN.TAMPER_N, 22_management_sideband.md. -/
def SBM_DPIN.TAMPER_N : Field := ⟨694, 5, 5, .ro, 1, .any⟩
/-- SBM_DPIN.MADDR, 22_management_sideband.md. -/
def SBM_DPIN.MADDR : Field := ⟨695, 4, 3, .ro, 0, .any⟩
/-- SBM_DPIN.PERST_B_N, 22_management_sideband.md. -/
def SBM_DPIN.PERST_B_N : Field := ⟨696, 2, 2, .ro, 0, .any⟩
/-- SBM_DPIN.PERST_A_N, 22_management_sideband.md. -/
def SBM_DPIN.PERST_A_N : Field := ⟨697, 1, 1, .ro, 0, .any⟩
/-- SBM_DPIN.PWR_GOOD, 22_management_sideband.md. -/
def SBM_DPIN.PWR_GOOD : Field := ⟨698, 0, 0, .ro, 1, .any⟩
/-- SBM_DPIN, 22_management_sideband.md, offset 0x0030. -/
def SBM_DPIN : Reg := ⟨"SBM_DPIN", .sbm, 14680112, [], 1, false,
  [SBM_DPIN.PPS, SBM_DPIN.TAMPER_N, SBM_DPIN.MADDR, SBM_DPIN.PERST_B_N, SBM_DPIN.PERST_A_N, SBM_DPIN.PWR_GOOD]⟩

/-- SBM_PIN_CFG.WIDTH, 22_management_sideband.md. -/
def SBM_PIN_CFG.WIDTH : Field := ⟨699, 23, 8, .rw, 100, .range 1 65535⟩
/-- SBM_PIN_CFG.EDGE, 22_management_sideband.md. -/
def SBM_PIN_CFG.EDGE : Field := ⟨700, 7, 6, .rw, 1, .range 1 3⟩
/-- SBM_PIN_CFG.PULL, 22_management_sideband.md. -/
def SBM_PIN_CFG.PULL : Field := ⟨701, 5, 4, .rw, 2, .range 0 2⟩
/-- SBM_PIN_CFG.FUNC, 22_management_sideband.md. -/
def SBM_PIN_CFG.FUNC : Field := ⟨702, 3, 0, .rw, 0, .range 0 9⟩
/-- SBM_PIN_CFG, 22_management_sideband.md, offset 0x0100 + n × 0x10, n = 0–15. -/
def SBM_PIN_CFG : Reg := ⟨"SBM_PIN_CFG", .sbm, 14680320, [(16, 16)], 1, false,
  [SBM_PIN_CFG.WIDTH, SBM_PIN_CFG.EDGE, SBM_PIN_CFG.PULL, SBM_PIN_CFG.FUNC]⟩

/-- SBM_PIN_TGT.TGT, 22_management_sideband.md. -/
def SBM_PIN_TGT.TGT : Field := ⟨703, 31, 0, .rw, 0, .any⟩
/-- SBM_PIN_TGT, 22_management_sideband.md, offset 0x0104 + n × 0x10. -/
def SBM_PIN_TGT : Reg := ⟨"SBM_PIN_TGT", .sbm, 14680324, [(16, 16)], 1, false,
  [SBM_PIN_TGT.TGT]⟩

/-- SBM_PIN_TICK.TICK, 22_management_sideband.md. -/
def SBM_PIN_TICK.TICK : Field := ⟨704, 63, 0, .ro, 0, .any⟩
/-- SBM_PIN_TICK, 22_management_sideband.md, offset 0x0108 + n × 0x10. -/
def SBM_PIN_TICK : Reg := ⟨"SBM_PIN_TICK", .sbm, 14680328, [(16, 16)], 2, false,
  [SBM_PIN_TICK.TICK]⟩

/-- The registers of block SYS. -/
def regsSYS : List Reg := [
  SYS_ID, SYS_TB, SYS_TB_STAT, SYS_TB_TRIM, SYS_TB_PPS, SYS_TB_PPS_SEQ, SYS_PACE_CTL, SYS_PWR_CAP, SYS_PWR_NOW, SYS_THERM, SYS_VFLOOR, SYS_XING, SYS_CMAP, SYS_FPACE, SYS_FTGT, SYS_FTEMP, SYS_FSTAT, SYS_BOOT_STAT, SYS_BOOT_NEXT, SYS_RESET, SYS_IMG_ID, SYS_BOOT_PH, SYS_NVM_ADDR, SYS_NVM_CMD, SYS_NVM_STAT, SYS_NVM_BUF]
/-- The registers of block PAR. -/
def regsPAR : List Reg := [
  PAR_LAYOUT, PAR_FD_OWN, PAR_LD_OWN, PAR_STATE, PAR_CMD, PAR_CMD_STAT, PAR_EVT, PAR_WMARK, PAR_TMO, PAR_RES, PAR_SHORT, PAR_SHORT_INFO, PAR_T2_FREE, PAR_FFAIL, PAR_DLOG_HEAD, PAR_DLOG_SEL, PAR_DLOG_ENT, PAR_TFAIL, PAR_RECOV_CTL, PAR_RECOV_STAT, PAR_RECOV_EVT, PAR_FLOG_HEAD, PAR_FLOG_SEL, PAR_FLOG_ENT]
/-- The registers of block TIER. -/
def regsTIER : List Reg := [
  TIER_CTL, TIER_SCRUB, TIER_FLT, TIER_FLT_LOC, TIER_PD_SEL, TIER_PD, TIER_HEAT_CTL, TIER_HEAT_THR, TIER_HEAT_BATCH, TIER_CKPT, TIER_FPOOL, TIER_FPOOL_SIZE, TIER_FPOOL_T2, TIER_FTOWER]
/-- The registers of block REPO. -/
def regsREPO : List Reg := [
  REPO_CTL, REPO_RD, REPO_WL, REPO_TMO, REPO_DIE, REPO_CH, REPO_CMD, REPO_CMD_STAT, REPO_OPEN, REPO_LOAD, REPO_LOAD_STAT, REPO_VOL_SEL, REPO_VOL_STATE, REPO_EVT, REPO_FLT]
/-- The registers of block CORE. -/
def regsCORE : List Reg := [
  CORE_STAT, CORE_THR_STATE, CORE_FLT, CORE_THR_SEL, CORE_THR_INFO, CORE_MEM_ADDR, CORE_MEM_DATA, CORE_MEM_FE, CORE_FQUIET, CORE_SQ_STAT, CORE_SQ_CUR, CORE_SPAN, CORE_SPAN_STEP]
/-- The registers of block STR. -/
def regsSTR : List Reg := [
  STR_FG_CFG, STR_FG_LANE, STR_FG_EVT, STR_FG_FIELDS]
/-- The registers of block SYN. -/
def regsSYN : List Reg := [
  SYN_POOL_SPLIT, SYN_POOL_FREE, SYN_POOL_MAP, SYN_EVT, SYN_FLT, SYN_URG, SYN_BAR]
/-- The registers of block LDG. -/
def regsLDG : List Reg := [
  LDG_CTL, LDG_STAT, LDG_T1, LDG_T1_PEAK, LDG_RSV, LDG_EVT, LDG_FLT, LDG_ENT_SEL, LDG_ENT, LDG_PROG, LDG_NSTATE, LDG_POL_CTL, LDG_EST, LDG_EST_TF, LDG_POL_EVT, LDG_POL_FLT, LDG_CLS_SEL, LDG_SLIPQ, LDG_CLS, LDG_BOOST, LDG_REP_STAT, LDG_REP_EVT, LDG_REP_FLT, LDG_SLOT_SEL, LDG_SLOT, LDG_SLOT_FRAME]
/-- The registers of block CMP. -/
def regsCMP : List Reg := [
  CMP_CTL, CMP_CUP, CMP_EVT, CMP_FLT, CMP_FSTAT, CMP_TAB_SEL, CMP_TAB]
/-- The registers of block TJL. -/
def regsTJL : List Reg := [
  TJL_ID, TJL_CLUSTER, TJL_CTL, TJL_BUDGET, TJL_TB_CFG, TJL_TB_STAT, TJL_TB_OFS, TJL_TB_ERR, TJL_PORT, TJL_PORT_LANES, TJL_PORT_EVT, TJL_PSTAT, TJL_PEVT, TJL_PCMD, TJL_PCMD_STAT, TJL_TIE_SEL, TJL_TIE]
/-- The registers of block HPT. -/
def regsHPT : List Reg := [
  HPT_PORT, HPT_CFG, HPT_EVT, HPT_PEVT, HPT_LEASE, HPT_STG_CFG, HPT_STG_TAG, HPT_STG_SEAL, HPT_STG_FREE, HPT_STG_STAT, HSEM_CLAIM, HSEM_STAT]
/-- The registers of block SEC. -/
def regsSEC : List Reg := [
  SEC_STAT, SEC_CTL, SEC_IMG, SEC_TAMP_EN, SEC_RST_CAUSE, SEC_ZCMD, SEC_EVT, SEC_DBG_NONCE, SEC_DBG_CMD, SEC_DBG_STAT, SEC_DBG_LEFT, SEC_DBG_TOKEN, SEC_ISO_EVT, SEC_SEALED, SEC_IDPUB]
/-- The registers of block GRD. -/
def regsGRD : List Reg := [
  GRD_PIN, GRD_CK_HEALTH, GRD_CK_STAT, GRD_CK_CFG, GRD_WIN, GRD_WIN_STAT, GRD_VR_HEAD, GRD_JUDGED, GRD_EVT, GRD_SAFE, GRD_TRIP, GRD_RES_CFG, GRD_VR, GRD_TB_CHK, GRD_TCFG, GRD_TEST_CFG, GRD_AGE, GRD_TEVT, GRD_TSTAT, GRD_ROT_SLACK, GRD_TEST_WAIT, GRD_ING, GRD_ING_CFG, GRD_INJ, GRD_INJ_AGE, GRD_STG, GRD_TASK]
/-- The registers of block CNT. -/
def regsCNT : List Reg := [
  CNT_SNAP_CMD, CNT_SNAP_STAT, CNT_BANK, CNT_BANK_WRAP]
/-- The registers of block DBG. -/
def regsDBG : List Reg := [
  DBG_EVT, DBG_DL_CTL, DBG_DL_STAT, DBG_WG_SEL, DBG_WG_ENT, DBG_SO_SEL, DBG_SO_VIEW, DBG_SO_WAIT, DBG_SO_SET, DBG_SO_SET_STAT, DBG_TR_CTL, DBG_TR_OBJ, DBG_TR_STAT, DBG_TR_SEL, DBG_TR_ENT]
/-- The registers of block SBM. -/
def regsSBM : List Reg := [
  SBM_MGMT_STAT, SBM_MGMT_CFG, SBM_QUIET, SBM_EVT, SBM_ALERT_EN, SBM_ALERT_SRC, SBM_GPIO_OUT, SBM_GPIO_IN, SBM_SW_STAT, SBM_DPIN, SBM_PIN_CFG, SBM_PIN_TGT, SBM_PIN_TICK]

/-- Every register of BAR0. -/
def allRegs : List Reg :=
  regsSYS ++ regsPAR ++ regsTIER ++ regsREPO ++ regsCORE ++ regsSTR ++ regsSYN ++ regsLDG ++ regsCMP ++ regsTJL ++ regsHPT ++ regsSEC ++ regsGRD ++ regsCNT ++ regsDBG ++ regsSBM

end Sys2Proof.Machine
end

