-- ==== Sys2Proof/Machine/State.lean ====
section
/-! DEFINITION. The machine's state as plain data, and its value after a device reset. -/

namespace Sys2Proof.Machine

/-- What an unlisted memory word reads as: 0, F/E empty (R146). -/
def word0 : MWord := ⟨0, false, false⟩
/-- An unlisted thread: IDLE (R139), program counter 0. -/
def thread0 : Thread := ⟨.idle, 0, .idle, 0⟩
/-- An unlisted sync object: dead (R190). -/
def obj0 : SyncObj := ⟨0, false, false, false, 0, 0, [], none⟩
/-- An unlisted barrier: generation 0, nothing arrived (R213). -/
def bar0 : BarSt := ⟨0, 0, [], 0, 0, false, false⟩
/-- An unlisted engine: IDLE. -/
def engine0 : Engine := ⟨[], [], 0, none, 0, [], .none⟩
/-- An unlisted lane. -/
def lane0 : LaneSt := ⟨[], false, []⟩
/-- An unlisted physical page: FREE (R92). -/
def page0 : Page := ⟨.free, 0, 0, 0, 0, .none, 0, 0, 0, false, false⟩
/-- An unlisted logical page: no physical page, heat 0. -/
def dir0 : DirEnt := ⟨none, none, none, none, 0⟩
/-- An unlisted Ledger entry: RETIRED, generation 0 (R228). -/
def entry0 : Entry := ⟨0, 0, 0, 0, 0, 0, 0, 0, 0, 0, 0, 0, false, false, false, false, 0, 0, 0, 0, 0, 0, 0, 0, 0,
  false, 0, 0, 0, 0⟩
/-- An unlisted slot: FREE. -/
def slot0 : Slot := ⟨0, 0, 0, 0, 0, [], [], [], [], 0, false, false, false, [], [], 0, false, 0⟩
/-- A partition before its first start. -/
def part0 : PartSt := ⟨0, 0, false, [], 0, false, false, false, 0, [], [], false, 0, [], [], [], false, 0, 0, 0,
  false, false, false⟩
/-- An unlisted doorbell slot (R359). -/
def bell0 : Bell := ⟨0, 0, 0, false, 0, 0, 0, 0, 0⟩
/-- An unlisted host semaphore: FREE, GEN 0. -/
def hsem0 : Hsem := ⟨0, 0, 0, false⟩

/-- An unlisted MSI-X entry: masked, as PCI Express resets it. -/
def msix0 : Msix := ⟨0, 0, 1, false⟩
/-- An unlisted function: D0, MSI-X disabled. -/
def func0 : Func := ⟨false, false, false, 0, 0, 0⟩
/-- An unlisted record of semaphore requests. -/
def hsemReq0 : HsemReq := ⟨0, false, 0⟩

/-- Base wafer, timebase and governor (02_wafer_fields_pace.md): leaf errors, the core map (physical number plus 1 by
mapped core), good cores found, CRC error ticks by link group, swaps in progress, since when a field stands at or
above CRIT at its floor and since when outside its operating range, when the next governor period ends, last PPS edge, when a transfer timeout last named a unit,
whether the system die has failed, edge dies that have failed by their number in R37, fields whose regulator is off until power is cycled (R561). -/
structure Wafer where
  running : Bool
  leaf : Store Int
  cmap : Store Nat
  bad : Store Bool
  crc : Store (List Nat)
  swap : Store Nat
  crit : Store Nat
  range : Store Nat
  govAt : Nat
  pps : Option Nat
  timeouts : Store Nat
  down : Bool
  edges : Store Bool
  latched : Store Bool
deriving DecidableEq, Repr

/-- Memory tiers (04_memory_tiers.md): words and header slots of every tier, physical pages, the page directories,
checkpoint versions, flips that wait. -/
structure Mem where
  words : Store MWord
  hdrs : Store Nat
  pages : Store Page
  dir : Store DirEnt
  ckpts : List Ckpt
  flips : List FlipReq
  ages : Store Nat
deriving DecidableEq, Repr

/-- Cores (06_cores_threads.md, 07_streams_fences.md): threads, statuses a thread
is still owed in program order (R197), registers, accumulator banks, engines. -/
structure Cores where
  threads : Store Thread
  owed : Store (List (Option Nat))
  sregs : Store Word
  vregs : Store Vec
  accs : Store Word
  engines : Store Engine
deriving DecidableEq, Repr

/-- Synchronisation (08_synchronisation.md): objects, parked polls in the order they parked, pool block owners
(partition plus 1), barriers, fence lanes. -/
structure Sync where
  objs : Store SyncObj
  parks : List Park
  blocks : Store Nat
  bars : Store BarSt
  lanes : Store LaneSt
deriving DecidableEq, Repr

/-- The Ledgers (09_ledger.md, 10_policy_fetchback.md): entries by field and number, moves in the order they were
queued, pending invocations in the order they became pending, classes with a late use since the last fence report, the
tick of each lane's last fence completion and its count since RUNNING by field, lanes whose present interval holds a
suspension, next scan ticks, coding table records
by field and slot (0 FREE), table serials, and whether an accession's wait has been reported (R235). -/
structure Ledger where
  entries : Store Entry
  moves : List Move
  invoc : List Invoc
  lateCls : Store Bool
  fenceAt : Store Nat
  fences : Store Nat
  skip : Store Bool
  scanAt : Store Nat
  tables : Store Nat
  serials : Store Nat
  told : Store Bool
deriving DecidableEq, Repr

/-- The replay units (11_replay.md): slots by field and number, queued replays, the part each span thread runs (slot
and part, plus 1), the step of each core's replay unit. -/
structure Replay where
  slots : Store Slot
  queue : List (Nat × Nat)
  parts : Store Nat
  steps : Store Nat
deriving DecidableEq, Repr

/-- Host ports (14_host_ports.md): doorbell slots by function and slot, host semaphores and each port's requests to
them, MSI-X entries, functions, functions that hold back vector 0 or vector 3 until a read, whether the five functions
of a port answer, since when a link is down, whether it is in DL_Down, staging sequence state. -/
structure HostU where
  bells : Store Bell
  sems : Store Hsem
  semReq : Store HsemReq
  msix : Store Msix
  funcs : Store Func
  inh0 : Store Bool
  inh3 : Store Bool
  ready : Store Bool
  down : Store Nat
  last : Store Nat
deriving DecidableEq, Repr

/-- The fault log (R490): device ring, newest first, and the partition rings. -/
structure Logs where
  dev : List LogEnt
  par : Store (List LogEnt)
deriving DecidableEq, Repr

/-- Counters and debug (21_counters_debug.md): counter values and WRAP bits by scope, target and index; the trace
memory, newest record first; the cause last traced of the traced core; captures that wait and the banks by requester;
waiter graphs by partition, and the tick plus 1 at which a graph's capture began; the tick plus 1 of a partition's last
transfer. -/
structure DbgU where
  vals : Store Nat
  wraps : Store Bool
  trace : List Nat
  cause : Nat
  snaps : List Snap
  banks : Store (List (Nat × Bool))
  graph : Store (List Nat)
  graphAt : Store Nat
  act : Store Nat
deriving DecidableEq, Repr

/-- An unlisted core's rotation. -/
def test0 : CoreTest := ⟨0, 0, 0, 0, 0, false, false, false, 0, [], 0⟩

/-- Guarded inference (17_guard_checker.md, 18_guard_timing.md): open frames by partition, oldest first; the mark held for
the next frame (R428); the sliding window, newest first (R438); stage windows; core rotations; requests queued at held
cores in arrival order; ingresses that wait; the verdict ring by partition and slot; comparisons in which a pin has read
high while commanded low (R442); busy counts by partition and task; consecutive timebase differences out of tolerance; the
tick plus 1 of each partition's last successful injection (R470); watch updates and tap packets on their way, in order. -/
structure GuardU where
  frames : Store (List Frame)
  marks : Store Nat
  win : Store (List Bool)
  windows : List Window
  tests : Store CoreTest
  queue : List HeldReq
  ingress : List Ingress
  records : Store Nat
  stuck : Store Nat
  busy : Store Nat
  tbBad : Nat
  inj : Store Nat
  reports : List WatchRep
  taps : List Tap
deriving DecidableEq, Repr

/-- An unlisted port: nothing sent or expected, the receiver's buffers of R325 as credit. -/
def lport0 : LPort := ⟨0, 0, [], [], [8, 64, 64, 512], [0, 4, 4, 8], 0, 0, 0, 0, 0, 0, [], false, 0⟩
/-- An unlisted tie at its source. -/
def tieOut0 : TieOut := ⟨0, 0, 0, 0, 0, 0, 0, [], 0, [], [], false, false⟩
/-- An unlisted tie at its target. -/
def tieIn0 : TieIn := ⟨0, 0, [], [], 0, 0, 0, 0, []⟩

/-- Thijolink (13_thijolink.md): port directions, ties at their source by number, at their target by source wafer and
number, timestamp exchanges (number, tick and t1), consecutive small errors, whether
the first exchange is done. -/
structure TjlU where
  ports : Store LPort
  ties : Store TieOut
  imps : Store TieIn
  exch : Nat
  exchAt : Nat
  t1 : Nat
  good : Nat
  first : Bool
deriving DecidableEq, Repr

/-- The partitions: what no register shows, their sections, the section copies of guarded partitions (R484), and the
device section in force. -/
structure Parts where
  st : Store PartSt
  sect : Store (Option Section)
  copy : Store (Option Section)
  dev : Option DevSect
deriving DecidableEq, Repr

/-- The Security Monitor (15_security.md): the sealed-region key of each partition (the start nonce it was made from,
plus 1; 0 destroyed), the tick at which an unlock ends and the first 8 bytes of its token's digest, the port and tick of
an ARM, whether the nonce has been used. -/
structure SecU where
  keys : Store Nat
  ends : Nat
  token : Nat
  arm : Option (Nat × Nat)
  used : Bool
deriving DecidableEq, Repr

/-- Start-up and the configuration NVM (16_image_startup.md): the bytes of both slots (slot B from 2^29 on; an unlisted
byte is erased, 0xFF), the slot being tried plus 1, the slots refused at this start, the kept section table (R374), flash
dies that have finished phase 9, partitions whose section load has been done at this start, NVM commands in the order they
came (the first is in progress), the tick at which phase DEVICE ended, and the capacity that each device declares in SFDP
(0: it did not answer). -/
structure BootU where
  bytes : Store Nat
  slot : Nat
  refused : List Nat
  table : List SectEnt
  flash : Store Bool
  loads : List Nat
  cmd : List NvmCmd
  deviceAt : Nat
  caps : Store Nat
deriving DecidableEq, Repr

/-- The sideband multiplexer, the management interface and the TAP (22_management_sideband.md): synchronised levels of the SBP
pins as a mask, the function that holds each pin, the tick plus 1 since which a pin switches, the tick plus 1 at which its
pulse ends; the address strap, the dynamic address (0 none), whether in-band interrupts are enabled, MWL and MRL; STATUS and
SEQ of the last WRITE, whether ALERT_N is asserted, whether a PF0 vector-0 event is set and not yet read, the newest DSEQ that a read of PAR_DLOG_HEAD through the management
interface has shown; the TAP instruction, the value preloaded into the boundary cells, the open instrument segments. -/
structure SideU where
  levels : Nat
  act : Store Nat
  sw : Store Nat
  pulse : Store Nat
  maddr : Nat
  dyn : Nat
  ibi : Bool
  mwl : Nat
  mrl : Nat
  status : Nat
  seq : Nat
  alert : Bool
  dev : Bool
  seen : Nat
  instr : Nat
  cells : Nat
  sibs : List Nat
deriving DecidableEq, Repr

/-- An unlisted volume: FREE. -/
def vol0 : Vol := ⟨0, 0, 0, 0, false, 0, false⟩
/-- An unlisted segment: erased. -/
def seg0 : Seg := ⟨0, 0, 0⟩
/-- An unlisted channel. -/
def chan0 : Chan := ⟨[], 0, false⟩

/-- The repository (05_repository.md): volumes by partition and number, segment maps (physical segment plus 1 by channel and
logical segment), physical segments, logical segments queued for relocation, channels, load runs that wait, pages of a segment and
segments of a channel by die, tiles that could not be reconstructed, the CLOSE that is PENDING in a share (1 plus its port
and function and 16 times its sequence), and the channels that were FAILED before the last device reset. -/
structure RepoU where
  vols : Store Vol
  map : Store Nat
  segs : Store Seg
  queue : List (Nat × Nat)
  chans : Store Chan
  runs : List LoadRun
  segPages : Store Nat
  segCount : Store Nat
  lost : Store Bool
  cmd : Store Nat
  failed : List Nat
deriving DecidableEq, Repr

/-- The machine. -/
structure State where
  pending : List Instr
  out : List Out
  fresh : Nat
  now : Nat
  regs : Store Nat
  staged : Store Nat
  shadow : Store Nat
  wafer : Wafer
  mem : Mem
  cores : Cores
  sync : Sync
  ledger : Ledger
  replay : Replay
  tjl : TjlU
  hosts : HostU
  logs : Logs
  guard : GuardU
  parts : Parts
  dbg : DbgU
  sec : SecU
  boot : BootU
  repo : RepoU
  side : SideU
deriving DecidableEq, Repr

/-- No command stops the block with a fault of this model's own. -/
inductive Fault where
  /-- Raised by nothing: it only fills the type. Safe: no run ends in it. -/
  | none
deriving DecidableEq, Repr

/-- Why a command is refused. -/
inductive Refusal where
  /-- Raised by Dispatch.lean for a command whose meaning is not written yet; safe: no claim can be made of it. -/
  | notModelled (mnemonic : String)
deriving DecidableEq, Repr

/-- The machine right after a device reset: every field of every register at its reset value (an unlisted key reads as
it), memory 0 (R146), every queue empty, the timebase not running (16_image_startup.md R405). -/
def State.reset : State :=
  { pending := [], out := [], fresh := 0, now := 0, regs := [], staged := [], shadow := []
    wafer := ⟨false, [], [], [], [], [], [], [], 0, none, [], false, [], []⟩
    mem := ⟨[], [], [], [], [], [], []⟩
    cores := ⟨[], [], [], [], [], []⟩
    sync := ⟨[], [], [], [], []⟩
    ledger := ⟨[], [], [], [], [], [], [], [], [], [], []⟩
    replay := ⟨[], [], [], []⟩
    tjl := ⟨[], [], [], 0, 0, 0, 0, false⟩
    hosts := ⟨[], [], [], [], [], [], [], [], [], []⟩
    logs := ⟨[], []⟩
    guard := ⟨[], [], [], [], [], [], [], [], [], [], 0, [], [], []⟩
    parts := ⟨[], [], [], none⟩
    dbg := ⟨[], [], [], 0, [], [], [], [], []⟩
    sec := ⟨[], 0, 0, none, false⟩
    boot := ⟨[], 0, [], [], [], [], [], 0, []⟩
    repo := ⟨[], [], [], [], [], [], [], [], [], [], []⟩
    side := ⟨0, [], [], [], 0, 0, false, 64, 64, 0, 0, false, false, 0, 1, 0, []⟩ }

end Sys2Proof.Machine
end

