-- ==== Sys2Proof/Machine/Ops.lean ====
section
/-! DEFINITION. The operations every family shares: register fields, ownership, events and vectors, the fault log,
words of memory, threads and their registers. -/

namespace Sys2Proof.Machine

/-! ### Register fields -/

/-- The number a register field of one copy is stored under. -/
def regKey (f : Field) (i : Nat) : Nat := f.id * 2 ^ 32 + i

/-- A register field's value: what was stored, or its reset value (R21). -/
def State.rd (s : State) (f : Field) (i : Nat) : Nat := Store.get f.reset s.regs (regKey f i)

/-- A register field stored, cut to its width. -/
def State.wr (s : State) (f : Field) (i v : Nat) : State :=
  { s with regs := Store.set f.reset s.regs (regKey f i) (v % 2 ^ f.width) }

/-- A register field's copies from `lo` to below `hi` back at reset (R21). -/
def State.clr (s : State) (f : Field) (lo hi : Nat) : State :=
  { s with regs := Store.keep (fun k => !(decide (regKey f lo ≤ k) && decide (k < regKey f hi))) s.regs }

/-- A field raised by one, wrapping at its width. -/
def State.inc (s : State) (f : Field) (i : Nat) : State := s.wr f i (s.rd f i + 1)

/-- A field raised by one, held at its largest value. -/
def State.incSat (s : State) (f : Field) (i : Nat) : State :=
  if s.rd f i + 1 < 2 ^ f.width then s.wr f i (s.rd f i + 1) else s

/-! ### Parts of the state -/

/-- The wafer part changed. -/
def State.onWafer (s : State) (g : Wafer → Wafer) : State := { s with wafer := g s.wafer }
/-- The memory part changed. -/
def State.onMem (s : State) (g : Mem → Mem) : State := { s with mem := g s.mem }
/-- The core part changed. -/
def State.onCores (s : State) (g : Cores → Cores) : State := { s with cores := g s.cores }
/-- The synchronisation part changed. -/
def State.onSync (s : State) (g : Sync → Sync) : State := { s with sync := g s.sync }
/-- The host part changed. -/
def State.onHosts (s : State) (g : HostU → HostU) : State := { s with hosts := g s.hosts }
/-- Something leaves the device. -/
def State.emit (s : State) (o : Out) : State := { s with out := o :: s.out }
/-- The state after one free value has been used. -/
def State.used (s : State) : State := { s with fresh := s.fresh + 1 }
/-- An operation for each element of a list, in its order. -/
def State.each {α : Type} (s : State) (l : List α) (g : State → α → State) : State := l.foldl g s
/-- An operation where a condition holds. -/
def State.on (s : State) (b : Bool) (g : State → State) : State := if b then g s else s

/-- The Ledger part changed. -/
def State.onLedger (s : State) (g : Ledger → Ledger) : State := { s with ledger := g s.ledger }

/-- The replay part changed. -/
def State.onReplay (s : State) (g : Replay → Replay) : State := { s with replay := g s.replay }

/-- The guarded part changed. -/
def State.onGuard (s : State) (g : GuardU → GuardU) : State := { s with guard := g s.guard }

/-- The Thijolink part changed. -/
def State.onTjl (s : State) (g : TjlU → TjlU) : State := { s with tjl := g s.tjl }

/-- The Security Monitor's part changed. -/
def State.onSec (s : State) (g : SecU → SecU) : State := { s with sec := g s.sec }

/-- The start-up part changed. -/
def State.onBoot (s : State) (g : BootU → BootU) : State := { s with boot := g s.boot }

/-- The repository's part changed. -/
def State.onRepo (s : State) (g : RepoU → RepoU) : State := { s with repo := g s.repo }

/-- The sideband part changed. -/
def State.onSide (s : State) (g : SideU → SideU) : State := { s with side := g s.side }

/-- An SBP pin driven to a level, or released (R546); while EXTEST, CLAMP or HIGHZ is in force the boundary cells hold the pins
(R543, R544). -/
def State.sbpOut (s : State) (n : Nat) (v : Option Bool) : State :=
  if s.side.instr = 3 ∨ s.side.instr = 4 ∨ s.side.instr = 5 then s
  else match v with
    | some b => s.emit (.pin n b)
    | none => s.emit (.release n)

/-! ### ALERT_N (R554) -/

/-- The sources of SBM_ALERT_SRC: DEV, SAFE, BOOT, FLOG, THERM from bit 0 up. -/
def State.alertSrc (s : State) : Nat :=
  boolNat s.side.dev + 2 * boolNat ((List.range 4).any fun p => decide (s.rd PAR_STATE.STATE p = 5)) + 4 * s.rd SBM_ALERT_SRC.BOOT 0 +
  8 * boolNat (decide (s.side.seen < (s.logs.dev.head?.map (·.dseq)).getD 0)) +
  16 * boolNat ((List.range 64).any fun f => decide (s.rd SYS_FTEMP.THROTTLED f = 1) || decide (s.rd SYS_FTEMP.CRIT f = 1))

/-- ALERT_N follows its sources; an in-band interrupt where it becomes asserted (R538). -/
def State.alertCheck (s : State) : State :=
  let src := s.alertSrc
  let on := decide (src &&& s.rd SBM_ALERT_EN.EN 0 ≠ 0)
  if on = s.side.alert then s
  else
    let s := s.onSide fun y => { y with alert := on }
    let s := s.each ((List.range 16).filter fun n => decide (Store.get 0 s.side.act n = 8)) fun s n => s.sbpOut n (if on then some false else none)
    if on && s.side.ibi && decide (s.side.dyn ≠ 0) then s.emit (.ibi src) else s

/-! ### Ownership (R59-R61) -/

/-- The columns of a partition, as a bit mask. -/
def State.cols (s : State) (p : Nat) : Nat :=
  if p = 0 then s.rd PAR_LAYOUT.COL_P0 0 else if p = 1 then s.rd PAR_LAYOUT.COL_P1 0
  else if p = 2 then s.rd PAR_LAYOUT.COL_P2 0 else if p = 3 then s.rd PAR_LAYOUT.COL_P3 0 else 0

/-- Whether a partition owns a field: its column. -/
def State.owns (s : State) (p f : Nat) : Bool := bit (s.cols p) (f % 8)

/-- The partition that owns a field. -/
def State.partOf (s : State) (f : Nat) : Option Nat := (List.range 4).find? (s.owns · f)

/-- The fields of a partition, ascending. -/
def State.fieldsOf (s : State) (p : Nat) : List Nat := (List.range 64).filter (s.owns p)

/-- The partition states (R63). -/
def stOff : Nat := 0
def stLoading : Nat := 1
def stAdmitted : Nat := 2
def stRunning : Nat := 3
def stSuspended : Nat := 4
def stSafe : Nat := 5
def stStopped : Nat := 6

/-- A partition's state. -/
def State.pst (s : State) (p : Nat) : Nat := s.rd PAR_STATE.STATE p
/-- Whether a partition is RUNNING. -/
def State.running (s : State) (p : Nat) : Bool := decide (s.pst p = stRunning)
/-- Whether a partition is in guarded inference mode. -/
def State.guarded (s : State) (p : Nat) : Bool := decide (s.rd PAR_STATE.MODE p = 2)
/-- Whether a field is failed (PAR_FFAIL). -/
def State.fieldFailed (s : State) (f : Nat) : Bool := bit (s.rd PAR_FFAIL.FIELDS 0) f
/-- Whether a tower is failed (PAR_TFAIL). -/
def State.towerFailed (s : State) (f w : Nat) : Bool := bit (s.rd PAR_TFAIL.TOWERS 0) (f * 4 + w)
/-- The working towers of a field, ascending. -/
def State.towers (s : State) (f : Nat) : List Nat := (List.range 4).filter fun w => !s.towerFailed f w

/-! ### Vectors and events (R362-R364, R489) -/

/-- Whether a host port is UP. -/
def State.portUp (s : State) (x : Nat) : Bool := decide (s.rd HPT_PORT.STATE x = 2)
/-- The host ports that are UP. -/
def State.upPorts (s : State) : List Nat := [0, 1].filter s.portUp

/-- The steward port of a partition: the holder of its semaphore (R365). -/
def State.steward (s : State) (p : Nat) : Option Nat :=
  match (Store.get hsem0 s.hosts.sems p).holder with
  | 1 => some 0
  | 2 => some 1
  | _ => none

/-- A vector of a function: sent, or left pending where it is masked or the function disabled (R364, R347). -/
def State.vector (s : State) (x pf v : Nat) : State :=
  if !s.portUp x then s
  else
    let e := Store.get msix0 s.hosts.msix (funcKey x pf * 64 + v)
    let fn := Store.get func0 s.hosts.funcs (funcKey x pf)
    if bit e.ctrl 0 || fn.d3 || fn.maskAll || !fn.msixEn then
      s.onHosts fun h => { h with msix := Store.set msix0 h.msix (funcKey x pf * 64 + v) { e with pend := true } }
    else s.emit (.msix x pf v)

/-- Vector 0 of a function, once until host software reads its HPT_PEVT (R363). -/
def State.vector0 (s : State) (x pf : Nat) : State :=
  if Store.get false s.hosts.inh0 (funcKey x pf) || !s.portUp x then s
  else (s.vector x pf 0).onHosts fun h => { h with inh0 := Store.set false h.inh0 (funcKey x pf) true }

/-- Vector 3 of a function, once until host software reads its ring head (R489). -/
def State.vector3 (s : State) (x pf : Nat) : State :=
  if Store.get false s.hosts.inh3 (funcKey x pf) || !s.portUp x then s
  else (s.vector x pf 3).onHosts fun h => { h with inh3 := Store.set false h.inh3 (funcKey x pf) true }

/-- The ports a partition's events go to: the steward's, or every port that is UP (R363). -/
def State.stewPorts (s : State) (p : Nat) : List Nat :=
  match s.steward p with
  | some x => [x]
  | none => s.upPorts

/-- Vector 0 to the steward host of a partition, and of PF0 on that port (R363). -/
def State.tellSteward (s : State) (p : Nat) : State :=
  ((s.each (s.stewPorts p) fun s x => (s.vector0 x (p + 1)).vector0 x 0).onSide fun y => { y with dev := true }).alertCheck

/-- Vector 0 of PF0 on every port that is UP. -/
def State.tellDevice (s : State) : State :=
  ((s.each s.upPorts fun s x => s.vector0 x 0).onSide fun y => { y with dev := true }).alertCheck

/-- An event bit of a partition's block set, and sent to the steward host (R363). -/
def State.event (s : State) (f : Field) (i p : Nat) : State := (s.wr f i 1).tellSteward p

/-! ### The fault log (R489-R491) -/

/-- Whether an error merges into a ring's newest entry (R490). -/
def mergesWith (e : Err) (part : Nat) (now : Nat) (x : LogEnt) : Bool :=
  decide (x.block = e.block) && decide (x.code = e.code) && decide (x.die = e.die) && decide (x.unit = e.unit) &&
  decide (x.sunit = e.sunit) && decide (x.part = part) && decide (now ≤ x.tick + 1000000) &&
  !(decide (e.block = 0x0D) && (decide (e.code = 1) || decide (e.code = 2)))

/-- An entry written into a ring of `n` entries, or merged into its newest (R490). -/
def ringPut (n : Nat) (r : List LogEnt) (e : Err) (part dseq pseq now : Nat) : List LogEnt :=
  let new : LogEnt := ⟨e.detail % 2 ^ 64, now % 2 ^ 64, dseq, pseq, e.block, e.code, e.die, e.unit, e.sunit, part,
    e.parts.isEmpty, e.cls, 0⟩
  match r with
  | [] => [new]
  | x :: t =>
    if mergesWith e part now x then { x with rep := min 0xFFFF (x.rep + 1) } :: t
    else (new :: r).take n

/-- The sequence of a ring's newest entry. -/
def headSeq (g : LogEnt → Nat) (r : List LogEnt) : Nat := (r.head?.map g).getD 0

/-- An error entered in the device ring and, with a partition tag, in the partition rings; then its vectors (R489). -/
def State.log (s : State) (e : Err) : State :=
  let part := e.parts.headD 0
  let dev := ringPut 4096 s.logs.dev e part (headSeq (·.dseq) s.logs.dev + 1) 0 s.now
  let dseq := headSeq (·.dseq) dev
  let par := if e.cls = 7 then s.logs.par else e.parts.foldl (fun m p =>
    let r := Store.get [] m p
    Store.set [] m p (ringPut 1024 r e p dseq (headSeq (·.pseq) r + 1) s.now)) s.logs.par
  let s := { s with logs := { dev := dev, par := par } }
  let s := if e.cls = 7 then s
    else if e.parts = [] then s.each s.upPorts (fun s x => s.vector3 x 0)
    else s.each e.parts fun s p => s.each (s.stewPorts p) fun s x => (s.vector3 x (p + 1)).vector3 x 0
  if e.cls = 5 ∨ e.cls = 6 then (s.each e.parts (·.tellSteward ·)).alertCheck
  else if e.cls = 7 then s.tellDevice else s.alertCheck

/-- An error of a register access (class ACCESS, R472), by the requester. -/
def State.logAccess (s : State) (code : Nat) (parts : List Nat) (off : Nat) : State :=
  s.log { block := 0, code := code, parts := parts, cls := 1, detail := Config.detail [off] }

/-! ### Sections, plans and placements -/

/-- What no register shows of a partition. -/
def State.part (s : State) (p : Nat) : PartSt := Store.get part0 s.parts.st p
/-- The same, changed. -/
def State.setPart (s : State) (p : Nat) (v : PartSt) : State :=
  { s with parts := { s.parts with st := Store.set part0 s.parts.st p v } }
/-- The same, changed by a function. -/
def State.updPart (s : State) (p : Nat) (g : PartSt → PartSt) : State := s.setPart p (g (s.part p))
/-- A partition's section. -/
def State.sect (s : State) (p : Nat) : Option Section := Store.get none s.parts.sect p
/-- The section copy of a guarded partition changed (R484). -/
def State.setCopy (s : State) (p : Nat) (c : Option Section) : State :=
  { s with parts := { s.parts with copy := Store.set none s.parts.copy p c } }
/-- The placement in force (PAR_STATE.VARIANT). -/
def State.placement (s : State) (p : Nat) : Option Placement :=
  (s.sect p).bind fun c => c.placements.lookup (s.rd PAR_STATE.VARIANT p)
/-- The plan in force (PAR_STATE.PLAN). -/
def State.plan (s : State) (p : Nat) : Option Plan :=
  (s.sect p).bind fun c => (s.placement p).bind fun pl =>
    if s.rd PAR_STATE.PLAN p = 1 then pl.tight.bind (c.plans.lookup ·) else c.plans.lookup pl.main
/-- An empty field record (R587). -/
def fieldPlan0 : FieldPlan := ⟨0, [], 0, 0, 0, 0, 0, 0, 0, 0⟩
/-- The record of a field in the plan in force; all 0 without one. -/
def State.fplan (s : State) (p f : Nat) : FieldPlan :=
  match s.plan p with
  | some pl => Store.get fieldPlan0 pl.fields f
  | none => fieldPlan0
/-- The program of a mapped core (R401). -/
def State.program (s : State) (f m : Nat) : Option Program :=
  (s.partOf f).bind fun p => (s.sect p).bind fun c => (s.placement p).bind fun pl =>
    ((c.coremaps.lookup pl.coremap).bind fun cm => cm.find? fun e => e.f = f && e.m = m).bind fun e =>
      c.programs.lookup e.prog
/-- The page directory in force (R401). -/
def State.pagedir (s : State) (p : Nat) : PageDir :=
  (((s.sect p).bind fun c => (s.placement p).bind fun pl => c.pagedirs.lookup pl.pagedir)).getD ⟨0, []⟩
/-- The fence group of a partition (R176). -/
def State.group (s : State) (p g : Nat) : Option Group := (s.sect p).bind fun c => c.fence.find? (·.g = g)
/-- The barrier definition of a partition (R212). -/
def State.barDef (s : State) (p b : Nat) : Option BarDef := (s.sect p).bind fun c => c.sync.bars.find? (·.num = b)

/-- Whether a logical page lies in a sealed region of its partition (R376). -/
def State.inRegion (s : State) (p l : Nat) : Bool :=
  match s.sect p with
  | some c => c.regions.any fun r => decide (r.1 ≤ l) && decide (l < r.1 + r.2)
  | none => false

/-! ### Volumes (R125, R129) -/

/-- A volume of a partition's share. -/
def State.vol (s : State) (p v : Nat) : Vol := Store.get vol0 s.repo.vols (p * 256 + v)
/-- A volume changed. -/
def State.setVol (s : State) (p v : Nat) (x : Vol) : State :=
  s.onRepo fun r => { r with vols := Store.set vol0 r.vols (p * 256 + v) x }
/-- The volume of a share that holds a T3 page: number and record. -/
def State.volOf (s : State) (p i : Nat) : Option (Nat × Vol) :=
  (s.repo.vols.find? fun e => decide (e.1 / 256 = p) && decide (e.2.st ≠ 0) && decide (e.2.base ≤ i) && decide (i < e.2.base + e.2.len)).map
    fun e => (e.1 % 256, e.2)

/-! ### Counters and trace (R514, R519, R529-R531) -/

/-- Whether a counter is a stall counter (64-bit ticks): R519. -/
def stallIdx (scope i : Nat) : Bool :=
  (decide (scope ≤ 2) && decide (i ≤ 0x0B)) || (decide (scope = 2) && decide (i = 0x26))
/-- The number of a counter. -/
def cntKey (scope tgt i : Nat) : Nat := (scope * 2 ^ 20 + tgt) * 2 ^ 12 + i
/-- A counter raised: it wraps at its width and sets its WRAP bit (R514). -/
def State.tally (s : State) (scope tgt i n : Nat) : State :=
  let k := cntKey scope tgt i
  let w := if stallIdx scope i then 2 ^ 64 else 2 ^ 48
  let v := Store.get 0 s.dbg.vals k + n
  { s with dbg := { s.dbg with
      vals := Store.set 0 s.dbg.vals k (v % w)
      wraps := if w ≤ v then Store.set false s.dbg.wraps k true else s.dbg.wraps } }

/-! ### SBP pins (R546-R552) -/

/-- A GPIO output follows its bit of SBM_GPIO_OUT: open drain drives low and releases for 1 (R555). -/
def State.gpioDrive (s : State) (n : Nat) : State :=
  let v := bit (s.rd SBM_GPIO_OUT.OUT 0) n
  s.sbpOut n (if s.rd SBM_PIN_CFG.FUNC n = 3 ∧ v then none else some v)

/-- The configured function takes an SBP pin, and an output function drives it (R546, R552, R554, R555). -/
def State.takePin (s : State) (n : Nat) : State :=
  let f := s.rd SBM_PIN_CFG.FUNC n
  let s := (s.onSide fun y => { y with act := Store.set 0 y.act n f, sw := Store.set 0 y.sw n 0 }).wr SBM_SW_STAT.SWITCHING 0
    (s.rd SBM_SW_STAT.SWITCHING 0 &&& (65535 - 2 ^ n))
  if f = 2 ∨ f = 3 then s.gpioDrive n
  else if f = 8 then s.sbpOut n (if s.side.alert then some false else none)
  else if f = 5 ∨ f = 7 ∨ f = 9 then s.sbpOut n (some false)
  else s

/-- An output pulse of an SBP pin (R548-R551): a raise while it is high extends it; while the pin switches there is none. -/
def State.pulse (s : State) (n : Nat) : State :=
  let fin := Store.get 0 s.side.pulse n
  if Store.get 0 s.side.sw n ≠ 0 then s.wr SBM_EVT.PULSE_MERGED 0 1
  else
    let s := s.onSide fun y => { y with pulse := Store.set 0 y.pulse n (s.now + s.rd SBM_PIN_CFG.WIDTH n * 10 + 1) }
    if fin ≠ 0 ∧ s.now < fin - 1 then s.wr SBM_EVT.PULSE_MERGED 0 1
    else (s.wr SBM_PIN_TICK.TICK n s.now).sbpOut n (some true)

/-- TRIG_OUT (R550): a pulse on every pin with that function. -/
def State.trigOut (s : State) : State :=
  s.each ((List.range 16).filter fun n => decide (s.rd SBM_PIN_CFG.FUNC n = 7)) fun s n => s.pulse n

/-- Trace capture stops (R529, R550). -/
def State.stopTrace (s : State) : State := if s.rd DBG_TR_STAT.ACTIVE 0 = 1 then (s.wr DBG_TR_STAT.ACTIVE 0 0).trigOut else s

/-- A trace record, where its kind and partition are traced (R529-R531): in ring mode the oldest is overwritten, and
with MODE 1 capture stops when the memory is full. -/
def State.trace (s : State) (kind part f c unit : Nat) (data : List Nat) : State :=
  if s.rd DBG_TR_STAT.ACTIVE 0 = 1 && bit (s.rd DBG_TR_CTL.SOURCES 0) (kind - 1) &&
      (s.rd DBG_TR_CTL.DEV 0 = 1 || s.rd DBG_TR_CTL.PART 0 = part) then
    let r := (s.now % 2 ^ 64) * 2 ^ 192 + kind * 2 ^ 184 + f * 2 ^ 178 + c * 2 ^ 170 + unit * 2 ^ 164 +
      Config.traceData (kind :: data) % 2 ^ 160
    let s := { s with dbg := { s.dbg with trace := (r :: s.dbg.trace).take 524288 } }
    let s := s.wr DBG_TR_STAT.NEXT 0 ((s.rd DBG_TR_STAT.NEXT 0 + 1) % 524288)
    if s.rd DBG_TR_CTL.MODE 0 = 1 ∧ s.dbg.trace.length = 524288 then
      (s.wr DBG_TR_STAT.FULL 0 1).stopTrace
    else s
  else s

/-! ### Words, headers -/

/-- A memory word. -/
def State.word (s : State) (k : Nat) : MWord := Store.get word0 s.mem.words k
/-- A memory word written whole. -/
def State.setWord (s : State) (k : Nat) (w : MWord) : State :=
  s.onMem fun m => { m with words := Store.set word0 m.words k w }
/-- A tile header slot. -/
def State.hdr (s : State) (k : Nat) : Nat := Store.get 0 s.mem.hdrs k
/-- A tile header slot written. -/
def State.setHdr (s : State) (k v : Nat) : State :=
  s.onMem fun m => { m with hdrs := Store.set 0 m.hdrs k (v % 2 ^ 512) }
/-- A physical page. -/
def State.page (s : State) (k : Nat) : Page := Store.get page0 s.mem.pages k
/-- The state of a physical page (R88); a T3 page's is its volume's (R129). -/
def State.pgSt (s : State) (k : Nat) : PgSt :=
  if k / 2 ^ 40 / 64 = 3 then
    match s.volOf (k / 2 ^ 40 % 64) (k % 2 ^ 40) with
    | some (_, v) => if v.st = 1 then .opened else if v.st = 2 then .sealed else .free
    | none => .free
  else (s.page k).st
/-- A physical page changed. -/
def State.setPage (s : State) (k : Nat) (g : Page) : State :=
  s.onMem fun m => { m with pages := Store.set page0 m.pages k g }
/-- A logical page's directory entry. -/
def State.dir (s : State) (p l : Nat) : DirEnt := Store.get dir0 s.mem.dir (dirKey p l)
/-- A logical page's directory entry changed. -/
def State.setDir (s : State) (p l : Nat) (d : DirEnt) : State :=
  s.onMem fun m => { m with dir := Store.set dir0 m.dir (dirKey p l) d }

/-- A Ledger entry. -/
def State.entry (s : State) (f n : Nat) : Entry := Store.get entry0 s.ledger.entries (entKey f n)
/-- A Ledger entry changed. -/
def State.setEntry (s : State) (f n : Nat) (e : Entry) : State :=
  s.onLedger fun l => { l with entries := Store.set entry0 l.entries (entKey f n) e }

/-- A replay-span slot. -/
def State.slot (s : State) (f n : Nat) : Slot := Store.get slot0 s.replay.slots (slotKey f n)
/-- A replay-span slot changed. -/
def State.setSlot (s : State) (f n : Nat) (v : Slot) : State :=
  s.onReplay fun r => { r with slots := Store.set slot0 r.slots (slotKey f n) v }

/-! ### Threads -/

/-- A thread's context. -/
def State.thread (s : State) (k : Nat) : Thread := Store.get thread0 s.cores.threads k
/-- A thread's context changed. -/
def State.setThread (s : State) (k : Nat) (t : Thread) : State :=
  s.onCores fun c => { c with threads := Store.set thread0 c.threads k t }
/-- A scalar register. -/
def State.sreg (s : State) (k r : Nat) : Word := Store.get 0 s.cores.sregs (k * 32 + r)
/-- A scalar register written. -/
def State.setSreg (s : State) (k r : Nat) (v : Word) : State :=
  s.onCores fun c => { c with sregs := Store.set 0 c.sregs (k * 32 + r) v }
/-- A vector register. -/
def State.vreg (s : State) (k r : Nat) : Vec := Store.get 0 s.cores.vregs (k * 8 + r)
/-- A vector register written. -/
def State.setVreg (s : State) (k r : Nat) (v : Vec) : State :=
  s.onCores fun c => { c with vregs := Store.set 0 c.vregs (k * 8 + r) v }
/-- The statuses a thread is owed, in program order: `none` while the commit handshake has not returned (R197). -/
def State.owed (s : State) (k : Nat) : List (Option Nat) := Store.get [] s.cores.owed k
/-- The owed statuses changed. -/
def State.setOwed (s : State) (k : Nat) (l : List (Option Nat)) : State :=
  s.onCores fun c => { c with owed := Store.set [] c.owed k l }
/-- The status of an instruction, in s0 (R153): held behind an earlier status still owed (R197). -/
def State.status (s : State) (k v : Nat) : State :=
  if (s.owed k).isEmpty then s.setSreg k 0 (BitVec.ofNat 64 v) else s.setOwed k (s.owed k ++ [some v])
/-- An instruction whose status comes at a later commit. -/
def State.owe (s : State) (k : Nat) : State := s.setOwed k (s.owed k ++ [none])
/-- The first status not yet returned, filled. -/
def fillOwed (v : Nat) : List (Option Nat) → List (Option Nat)
  | [] => []
  | none :: r => some v :: r
  | some a :: r => some a :: fillOwed v r
/-- Leading statuses that have returned, written to s0 in order. -/
def State.drainOwed (s : State) (k : Nat) : List (Option Nat) → State
  | some v :: r => (s.setSreg k 0 (BitVec.ofNat 64 v)).drainOwed k r
  | l => s.setOwed k l
/-- An owed status arrives. -/
def State.pay (s : State) (k v : Nat) : State := s.drainOwed k (fillOwed v (s.owed k))
/-- A stream engine. -/
def State.engine (s : State) (k : Nat) : Engine := Store.get engine0 s.cores.engines k
/-- A stream engine changed. -/
def State.setEngine (s : State) (k : Nat) (e : Engine) : State :=
  s.onCores fun c => { c with engines := Store.set engine0 c.engines k e }
/-- A sync object. -/
def State.obj (s : State) (k : Nat) : SyncObj := Store.get obj0 s.sync.objs k
/-- A sync object changed. -/
def State.setObj (s : State) (k : Nat) (o : SyncObj) : State :=
  s.onSync fun y => { y with objs := Store.set obj0 y.objs k o }

end Sys2Proof.Machine
end

