-- ==== Sys2Proof/Machine/Addr.lean ====
section
/-! DEFINITION. Registers by BAR0 offset (00_scope.md R12, R15): which copy and word an offset names, a word of a register,
the encodings of a field (R23), and the settings an image carries (16_image_startup.md R403, R404). -/

namespace Sys2Proof.Machine

/-- The number of a copy and what is left of an offset, along the dimensions of a register. -/
def peel : List (Nat × Nat) → Nat → Nat → Option (Nat × Nat)
  | [], i, r => some (i, r)
  | (n, st) :: t, i, r => if r / st < n then peel t (i * n + r / st) (r % st) else none

/-- The copy and word of a register that an offset names. -/
def Reg.at (g : Reg) (off : Nat) : Option (Nat × Nat) :=
  if off < g.base then none
  else (peel g.dims 0 (off - g.base)).bind fun x => if x.2 < g.words * 4 then some (x.1, x.2 / 4) else none

/-- The register, copy and word at a BAR0 offset. -/
def locate (off : Nat) : Option (Reg × Nat × Nat) :=
  allRegs.findSome? fun g => (g.at off).map fun x => (g, x.1, x.2)

/-- The bits of a word that a field occupies. -/
def Field.mask (f : Field) (w : Nat) : Nat :=
  let lo := max f.lo (32 * w)
  let hi := min f.hi (32 * w + 31)
  if hi < lo then 0 else (2 ^ (hi + 1 - lo) - 1) * 2 ^ (lo - 32 * w)

/-- A word of a register whose fields have given values. -/
def wordOf (fs : List Field) (val : Field → Nat) (w : Nat) : Nat :=
  (fs.map fun f => (val f * 2 ^ f.lo) / 2 ^ (32 * w) % 2 ^ 32 &&& f.mask w).sum

/-- A field's value after the bits of one word under a mask have taken a new value. -/
def Field.merged (f : Field) (cur w mask value : Nat) : Nat :=
  let v := cur * 2 ^ f.lo
  let old := v / 2 ^ (32 * w) % 2 ^ 32
  let m := mask &&& f.mask w
  let new := old - (old &&& m) + (value &&& m)
  (v - old * 2 ^ (32 * w) + new * 2 ^ (32 * w)) / 2 ^ f.lo % 2 ^ f.width

/-- Whether a field's table lists an encoding (R23). -/
def Field.lists (f : Field) (v : Nat) : Bool :=
  match f.legal with
  | .any => true
  | .range lo hi => decide (lo ≤ v) && decide (v ≤ hi)
  | .signed b => decide (v ≤ b) || decide (2 ^ f.width ≤ v + b)

/-- The fields of a register that the bits of a word under a mask reach. -/
def Reg.reached (g : Reg) (w mask : Nat) : List Field := g.fields.filter fun f => f.mask w &&& mask != 0

/-- The bits of a word under a mask stored in one copy of a register. -/
def State.poke (s : State) (g : Reg) (i w mask value : Nat) : State :=
  s.each (g.reached w mask) fun s f => s.wr f i (f.merged (s.rd f i) w mask value)

/-! ### Settings (R403, R404) -/

/-- The fields' window of a block: the registers that have one copy per field, with the place of that dimension. -/
def Reg.perField (g : Reg) : Option Nat :=
  match g.dims with
  | (64, st) :: _ => some st
  | _ => none

/-- The offsets a setting applies to, for the fields it reaches. -/
def Setting.offsets (x : Setting) (fs : List Nat) : List Nat :=
  if bit x.flags 0 then
    match (locate x.off).bind fun l => l.1.perField with
    | some st => fs.map fun f => x.off + f * st
    | none => []
  else [x.off]

/-- A setting applied (R403). -/
def State.setting (s : State) (fs : List Nat) (x : Setting) : State :=
  s.each (x.offsets fs) fun s o => match locate o with
    | some (g, i, w) => s.poke g i w x.mask x.value
    | none => s

/-- Whether a setting names only RWL fields of listed registers, with encodings their tables list, and ALL_FIELDS only
where R403 allows it. `mine` says which registers and copies its section may name. -/
def Setting.ok (x : Setting) (mine : Reg → Nat → Bool) : Bool :=
  match locate x.off with
  | none => false
  | some (g, i, w) =>
    let fs := g.reached w x.mask
    decide (x.off % 4 = 0) && decide (x.flags < 2) && mine g i && fs.all (fun f => decide (f.acc = .rwl) && f.lists (f.merged f.reset w x.mask x.value)) &&
    decide (x.mask % 2 ^ 32 = ((fs.map fun f => f.mask w &&& x.mask).sum)) &&
    (!bit x.flags 0 || match g.perField with
      | some st => decide (x.off - g.base < st)
      | none => false)

end Sys2Proof.Machine
end

