-- ==== Sys2Proof/Machine/Network.lean ====
section
/-! DEFINITION. Crossings, routes and reachability on the wafer (02_wafer_fields_pace.md R36, R37, 08_synchronisation.md R193,
19_failures.md R475, R476). -/

namespace Sys2Proof.Machine

/-- Fields beside the edge dies, in the order of R37: HD0, HD1, FD0-FD15, LD0-LD7, GD, SD (R36). -/
def edgeFields : List Nat :=
  [24, 31, 0, 1, 2, 3, 4, 5, 6, 7, 56, 57, 58, 59, 60, 61, 62, 63, 8, 16, 40, 48, 15, 23, 47, 55, 39, 32]

/-- The fields at the ends of a crossing (R37); one field for an edge die's. -/
def xingEnds (x : Nat) : List Nat :=
  if x < 56 then [x / 7 * 8 + x % 7, x / 7 * 8 + x % 7 + 1]
  else if x < 112 then [x - 56, x - 56 + 8]
  else [edgeFields.getD (x - 112) 0]

/-- Whether an edge die has failed, by its number in R37. -/
def State.edgeDead (s : State) (k : Nat) : Bool := Store.get false s.wafer.edges k

/-- Whether a crossing counts as LOST for routing: it is, or it leads to a field that has been powered down (R475). -/
def State.xingDead (s : State) (x : Nat) : Bool :=
  decide (s.rd SYS_XING.LOST x = 1) || (xingEnds x).any fun f => decide (s.rd SYS_FSTAT.OFF f = 1)

/-- Crossings along a column from row to row. -/
def vRoute (c r r' : Nat) : List Nat := (List.range 8).filterMap fun i => if min r r' ≤ i ∧ i < max r r' then some (56 + i * 8 + c) else none
/-- Crossings along a row from column to column. -/
def hRoute (r c c' : Nat) : List Nat := (List.range 8).filterMap fun i => if min c c' ≤ i ∧ i < max c c' then some (r * 7 + i) else none

/-- The route between two fields: columns first (R193). -/
def routeOf (f g : Nat) : List Nat := vRoute (f % 8) (f / 8) (g / 8) ++ hRoute (g / 8) (f % 8) (g % 8)
/-- The detour between two fields: rows first (R476). -/
def detourOf (f g : Nat) : List Nat := hRoute (f / 8) (f % 8) (g % 8) ++ vRoute (g % 8) (f / 8) (g / 8)

/-- Whether one field reaches another (R476). -/
def State.reaches (s : State) (f g : Nat) : Bool :=
  !((routeOf f g).any s.xingDead) || !((detourOf f g).any s.xingDead)

/-- Whether a field reaches an edge die, by its number in R37. -/
def State.reachesEdge (s : State) (f k : Nat) : Bool :=
  !s.xingDead (112 + k) && s.reaches f (edgeFields.getD k 0)

/-- The numbers in R37 of the flash dies and link dies of a partition. -/
def edgesOf (fd : Nat → Option Nat) (ld : Nat → Option Nat) (p : Nat) : List Nat :=
  ((List.range 16).filter fun d => decide (fd d = some p)).map (2 + ·) ++ ((List.range 8).filter fun n => decide (ld n = some p)).map (18 + ·)

end Sys2Proof.Machine
end

