-- ==== Sys2Proof/Machine/Tiles.lean ====
section
/-! DEFINITION. Tile headers (04_memory_tiers.md R90, R91), CRC-32C, and the check of a tile on read (R100). -/

namespace Sys2Proof.Machine

/-! ### CRC-32C -/

/-- One bit of the reflected CRC-32C division. -/
def crcBit (c : Nat) : Nat := if c % 2 = 1 then (c / 2) ^^^ 0x82F63B78 else c / 2
/-- One byte of a CRC-32C. -/
def crcByte (c b : Nat) : Nat := Nat.repeat crcBit 8 (c ^^^ (b % 256))
/-- CRC-32C of a byte string (R90). -/
def crc32c (l : List Nat) : Nat := l.foldl crcByte 0xFFFFFFFF ^^^ 0xFFFFFFFF

/-! ### Header fields (R90) -/

/-- The fields of a tile header, less its check values (R90). -/
structure Hdr where
  tag : Nat := 0
  stamp : Nat := 0
  clen : Nat := 0
  ctab : Nat := 0
  flags : Nat := 0
  cfmt : Nat := 0
  ppart : Nat := 0
  pcore : Nat := 0
  pfield : Nat := 0
  span : Nat := 0xFFFF
  step : Nat := 0
  tile : Nat := 0
  handle : Nat := 0
  cols : Nat := 0
  rows : Nat := 0
  layout : Nat := 0
  dtype : Nat := 0
deriving DecidableEq, Repr

/-- Magic number of a tile header. -/
def hdrMagic : Nat := 0x7E11
/-- MAGIC of a header word. -/
def hMagic (h : Nat) : Nat := bits h 15 0
/-- VER of a header word. -/
def hVer (h : Nat) : Nat := bits h 23 20
/-- DTYPE of a header word. -/
def hDtype (h : Nat) : Nat := bits h 27 24
/-- LAYOUT of a header word. -/
def hLayout (h : Nat) : Nat := bits h 31 28
/-- ROWS of a header word. -/
def hRows (h : Nat) : Nat := bits h 47 32
/-- COLS of a header word. -/
def hCols (h : Nat) : Nat := bits h 63 48
/-- HANDLE of a header word. -/
def hHandle (h : Nat) : Nat := bits h 95 64
/-- TILE of a header word. -/
def hTile (h : Nat) : Nat := bits h 127 96
/-- STEP of a header word. -/
def hStep (h : Nat) : Nat := bits h 159 128
/-- SPAN of a header word. -/
def hSpan (h : Nat) : Nat := bits h 175 160
/-- PFIELD of a header word. -/
def hPfield (h : Nat) : Nat := bits h 181 176
/-- PCORE of a header word. -/
def hPcore (h : Nat) : Nat := bits h 189 182
/-- PPART of a header word. -/
def hPpart (h : Nat) : Nat := bits h 191 190
/-- CFMT of a header word. -/
def hCfmt (h : Nat) : Nat := bits h 195 192
/-- PCV of a header word: PCRC is valid. -/
def hPcv (h : Nat) : Bool := bit h 196
/-- VOID of a header word. -/
def hVoid (h : Nat) : Bool := bit h 197
/-- MIRROR of a header word. -/
def hMirror (h : Nat) : Bool := bit h 198
/-- FLAGS of a header word. -/
def hFlags (h : Nat) : Nat := bits h 199 196
/-- CTAB of a header word. -/
def hCtab (h : Nat) : Nat := bits h 207 200
/-- CLEN of a header word. -/
def hClen (h : Nat) : Nat := bits h 223 208
/-- STAMP of a header word. -/
def hStamp (h : Nat) : Nat := bits h 287 224
/-- TAG of a header word. -/
def hTag (h : Nat) : Nat := bits h 319 288
/-- PCRC of a header word. -/
def hPcrc (h : Nat) : Nat := bits h 479 448
/-- HCRC of a header word. -/
def hHcrc (h : Nat) : Nat := bits h 511 480

/-- The fields of a header word. -/
def hdrOf (h : Nat) : Hdr :=
  ⟨hTag h, hStamp h, hClen h, hCtab h, hFlags h, hCfmt h, hPpart h, hPcore h, hPfield h, hSpan h, hStep h, hTile h,
    hHandle h, hCols h, hRows h, hLayout h, hDtype h⟩

/-- The header word of fields and a PCRC: MAGIC, VER and HCRC are written by the device (R90). -/
def hdrWord (x : Hdr) (pcrc : Nat) : Nat :=
  let b := hdrMagic + 2 ^ 20 + x.dtype % 16 * 2 ^ 24 + x.layout % 16 * 2 ^ 28 + x.rows % 2 ^ 16 * 2 ^ 32 +
    x.cols % 2 ^ 16 * 2 ^ 48 + x.handle % 2 ^ 32 * 2 ^ 64 + x.tile % 2 ^ 32 * 2 ^ 96 + x.step % 2 ^ 32 * 2 ^ 128 +
    x.span % 2 ^ 16 * 2 ^ 160 + x.pfield % 64 * 2 ^ 176 + x.pcore % 256 * 2 ^ 182 + x.ppart % 4 * 2 ^ 190 +
    x.cfmt % 16 * 2 ^ 192 + x.flags % 16 * 2 ^ 196 + x.ctab % 256 * 2 ^ 200 + x.clen % 2 ^ 16 * 2 ^ 208 +
    x.stamp % 2 ^ 64 * 2 ^ 224 + x.tag % 2 ^ 32 * 2 ^ 288 + pcrc % 2 ^ 32 * 2 ^ 448
  b + crc32c (bytesOf 60 b) * 2 ^ 480

/-- Bytes of an element of a DTYPE (R90). -/
def dtypeBytes (d : Nat) : Nat :=
  if d ≤ 1 then 2 else if d = 2 ∨ d = 6 then 4 else 1

/-- The rules of R91 on a header's shape and encodings. -/
def hdrShape (h : Nat) : Bool :=
  decide (hMagic h = hdrMagic) && decide (hVer h = 1) && decide (hLayout h ≤ 2) && decide (hDtype h ≤ 7) &&
  decide (hCfmt h ≤ 3) && (decide (hLayout h = 2) || (decide (hRows h % 16 = 0) && decide (hCols h % 16 = 0))) &&
  decide (hRows h * hCols h * dtypeBytes (hDtype h) ≤ 16384)

/-- The header check of R100: HCRC, then R91. -/
def hdrOk (h : Nat) : Bool := decide (hHcrc h = crc32c (bytesOf 60 (h % 2 ^ 480))) && hdrShape h

/-- The bytes of 2,048 payload words held sparsely. -/
def payloadBytes (d : Store Word) : List Nat :=
  (List.range 2048).flatMap fun w => bytesOf 8 (Store.get 0 d w).toNat

/-- The payload of a tile as words 0-2047. -/
def State.payload (s : State) (tile : Nat) : Store Word :=
  (s.mem.words.filter fun e => e.1 / 2048 = tile).filterMap fun e =>
    if e.2.data = 0 then none else some (e.1 % 2048, e.2.data)

/-- Whether a word of a tile is poisoned. -/
def State.poisoned (s : State) (tile : Nat) : Bool :=
  s.mem.words.any fun e => decide (e.1 / 2048 = tile) && e.2.poison

/-- A tile's payload written over whatever stood there, every word full and without poison (R171, R147). -/
def State.setPayload (s : State) (tile : Nat) (d : Store Word) (full : Bool) : State :=
  let rest := s.mem.words.filter fun e => e.1 / 2048 ≠ tile
  let new := (List.range 2048).foldl (fun m w =>
    Store.set word0 m (tileWord tile w) ⟨Store.get 0 d w, full, false⟩) rest
  s.onMem fun m => { m with words := new }

/-- The check of a tile read from T2, T3 or a mirror (R100): 0 passes, else the fault code. A compressed tile fails the
header check for every reader but a codec (R292). -/
def tileCheck (h : Nat) (d : Store Word) (codec : Bool) : Nat :=
  if !hdrOk h || (!codec && hCfmt h ≠ 0) then 9
  else if hPcv h && hPcrc h ≠ crc32c (payloadBytes d) then 10
  else 0

end Sys2Proof.Machine
end

