-- ==== Sys2Proof/Machine/Codec.lean ====
section
/-! DEFINITION. The pressed form (12_compression.md): formats, coding tables, coded tiles, the pressed stream and its
checks. All functions of this file are pure. -/

namespace Sys2Proof.Machine

/-! ### Elements and symbols (R294, R295) -/

/-- Formats of a pressed form. -/
def cfExpo : Nat := 1
def cfZrun : Nat := 2
def cfByte : Nat := 3

/-- Whether a DTYPE is a floating format of two or four bytes: BF16, FP16 or FP32 (R294). -/
def isFloat (d : Nat) : Bool := decide (d ≤ 2)
/-- Whether a DTYPE is one byte wide (R294). -/
def isByte (d : Nat) : Bool := d == 3 || d == 4 || d == 5 || d == 7

/-- The elements of a payload in ascending address order, little-endian (R295). -/
def groupBytes (n : Nat) : Nat → List Nat → List Nat
  | 0, _ => []
  | k + 1, l => ofBytes (l.take n) :: groupBytes n k (l.drop n)

/-- The elements of a payload of a DTYPE. -/
def elements (dt : Nat) (bytes : List Nat) : List Nat := groupBytes (dtypeBytes dt) (16384 / dtypeBytes dt) bytes

/-- The exponent field of an element (R294). -/
def expField (dt x : Nat) : Nat :=
  if dt = 0 then bits x 14 7 else if dt = 1 then bits x 14 10 else bits x 30 23

/-- Width of an element's raw field (R294). -/
def rawBits (dt : Nat) : Nat := if dt = 0 then 8 else if dt = 1 then 11 else 24

/-- The raw field of an element: its sign followed by its mantissa (R294). -/
def rawField (dt x : Nat) : Nat :=
  if dt = 0 then bit x 15 |> fun s => boolNat s * 2 ^ 7 + bits x 6 0
  else if dt = 1 then boolNat (bit x 15) * 2 ^ 10 + bits x 9 0
  else boolNat (bit x 31) * 2 ^ 23 + bits x 22 0

/-- A written symbol: its number, and width and value of the raw field that follows. -/
structure Sym where
  sym : Nat
  width : Nat
  raw : Nat
deriving DecidableEq, Repr

/-- The symbols of an element that is not part of a run. -/
def elemSym (dt x : Nat) : Sym := ⟨expField dt x, rawBits dt, rawField dt x⟩

/-- The run symbols of a run's length in binary, largest power first (R295). -/
def runSyms (n : Nat) : List Sym :=
  ((List.range 16).reverse.filter (bit n)).map fun k => ⟨256 + k, 0, 0⟩

/-- The symbols of a tile in ZRUN, with the length of the run of +0 elements before (R295). -/
def zrunSyms (dt : Nat) : Nat → List Nat → List Sym
  | n, [] => runSyms n
  | n, x :: r => if x = 0 then zrunSyms dt (n + 1) r else runSyms n ++ elemSym dt x :: zrunSyms dt 0 r

/-- The symbols of a tile's elements (R295). -/
def tileSyms (fmt dt : Nat) (el : List Nat) : List Sym :=
  if fmt = cfByte then el.map fun x => ⟨x, 0, 0⟩
  else if fmt = cfZrun then zrunSyms dt 0 el
  else el.map (elemSym dt)

/-- Symbols of a format's alphabet (R294). -/
def alphabet (fmt : Nat) : Nat := if fmt = cfZrun then 272 else 256

/-- The counts of an alphabet's symbols over a sample, one added to each (R302). -/
def symCounts (fmt : Nat) (l : List Sym) : List Nat :=
  let c := l.foldl (fun (m : Store Nat) y => Store.upd 0 m y.sym (· + 1)) []
  (List.range (alphabet fmt)).map fun i => Store.get 0 c i + 1

/-! ### Code lengths (R302) -/

/-- A coin or package of the package-merge method: its weight, and the symbols it holds. -/
structure Coin where
  w : Nat
  syms : List Nat
deriving DecidableEq, Repr

/-- Pairs of neighbours packaged; an odd last one is left out. -/
def packages : List Coin → List Coin
  | a :: b :: r => ⟨a.w + b.w, a.syms ++ b.syms⟩ :: packages r
  | _ => []

/-- Two lists in order of weight merged; of equal weights, the first list's come first. -/
def mergeCoins : List Coin → List Coin → List Coin
  | a, b => sortBy (fun x y : Coin => decide (x.w ≤ y.w)) (a ++ b)

/-- The list of the package-merge method after `n` levels. -/
def mergeLevels (coins : List Coin) : Nat → List Coin
  | 0 => coins
  | n + 1 => mergeCoins coins (packages (mergeLevels coins n))

/-- The code lengths 1-15 of least total, by the package-merge method with equal weights in ascending symbol order. -/
def codeLengths (counts : List Nat) : List Nat :=
  let coins := sortBy (fun x y : Coin => decide (x.w ≤ y.w)) (counts.zipIdx.map fun c => ⟨c.1, [c.2]⟩)
  let chosen := ((mergeLevels coins 14).take (2 * counts.length - 2)).flatMap (·.syms)
  let m := chosen.foldl (fun (m : Store Nat) y => Store.upd 0 m y (· + 1)) []
  (List.range counts.length).map (Store.get 0 m)

/-- A code word: symbol, length, value. -/
structure Code where
  sym : Nat
  len : Nat
  code : Nat
deriving DecidableEq, Repr

/-- Canonical code values in order, from the code and length before (R302). -/
def canonFrom : Nat → Nat → List (Nat × Nat) → List Code
  | _, _, [] => []
  | c, l, (s, n) :: r => let v := c * 2 ^ (n - l); ⟨s, n, v⟩ :: canonFrom (v + 1) n r

/-- The canonical codes of the lengths: by length and then by symbol (R302). -/
def canonCodes (lens : List Nat) : List Code :=
  let l := sortBy (fun a b : Nat × Nat => decide (a.2 < b.2) || (decide (a.2 = b.2) && decide (a.1 ≤ b.1)))
    ((lens.zipIdx.filter fun x => x.1 ≠ 0).map fun x => (x.2, x.1))
  match l with
  | [] => []
  | (_, n) :: _ => canonFrom 0 n l

/-! ### Coded bytes (R295) -/

/-- The `w` bits of a number, most significant first. -/
def msbBits (w v : Nat) : List Bool := (List.range w).reverse.map (bit v)

/-- A byte from bits, bit 7 first. -/
def byteOfBits (l : List Bool) : Nat := (l ++ List.replicate (8 - l.length) false).foldl (fun a b => 2 * a + boolNat b) 0

/-- Bits filled into bytes, the last one padded with 0 bits. -/
def bytesOfBits : Nat → List Bool → List Nat
  | 0, _ => []
  | k + 1, l => byteOfBits (l.take 8) :: bytesOfBits k (l.drop 8)

/-- The code word of a symbol. -/
def codeOf (codes : List Code) (s : Nat) : List Bool :=
  match codes.find? (·.sym = s) with
  | some c => msbBits c.len c.code
  | none => []

/-- The coded bytes of a tile. -/
def codeTile (fmt dt : Nat) (codes : List Code) (bytes : List Nat) : List Nat :=
  let l := (tileSyms fmt dt (elements dt bytes)).flatMap fun y => codeOf codes y.sym ++ msbBits y.width y.raw
  bytesOfBits ((l.length + 7) / 8) l

/-- The stored bytes of a plain tile and its MODE (R304): raw where its DTYPE differs from the table's or coding does not
shorten it. -/
def storeTile (fmt tdt dt : Nat) (codes : List Code) (bytes : List Nat) : Bool × List Nat :=
  if dt ≠ tdt then (true, bytes)
  else
    let c := codeTile fmt dt codes bytes
    if 16384 ≤ c.length then (true, bytes) else (false, c)

/-! ### Decoding (R308 check 6) -/

/-- The bits of bytes, bit 7 first. -/
def bitsOfBytes (l : List Nat) : List Bool := l.flatMap (msbBits 8)

/-- The number of bits, most significant first. -/
def natOfBits (l : List Bool) : Nat := l.foldl (fun a b => 2 * a + boolNat b) 0

/-- The next symbol, tried at `k` code lengths above `n`. -/
def nextFrom (codes : List Code) : Nat → Nat → List Bool → Option (Nat × List Bool)
  | 0, _, _ => none
  | k + 1, n, l =>
    match codes.find? fun c => decide (c.len = n + 1) && decide (n + 1 ≤ l.length) &&
        decide (c.code = natOfBits (l.take (n + 1))) with
    | some c => some (c.sym, l.drop (n + 1))
    | none => nextFrom codes k (n + 1) l

/-- The next symbol: codes have 1 to 15 bits. -/
def nextSym (codes : List Code) (l : List Bool) : Option (Nat × List Bool) := nextFrom codes 15 0 l

/-- An element from its exponent field and raw field. -/
def joinElem (dt e raw : Nat) : Nat :=
  if dt = 0 then raw / 2 ^ 7 * 2 ^ 15 + e * 2 ^ 7 + raw % 2 ^ 7
  else if dt = 1 then raw / 2 ^ 10 * 2 ^ 15 + e % 32 * 2 ^ 10 + raw % 2 ^ 10
  else raw / 2 ^ 23 * 2 ^ 31 + e * 2 ^ 23 + raw % 2 ^ 23

/-- Elements decoded until their count is reached exactly: none where a code is unknown or a run passes the tile end. -/
def decodeElems (fmt dt : Nat) (codes : List Code) : Nat → Nat → List Bool → Option (List Nat × List Bool)
  | 0, need, l => if need = 0 then some ([], l) else none
  | fuel + 1, need, l =>
    if need = 0 then some ([], l)
    else match nextSym codes l with
      | none => none
      | some (y, r) =>
        if fmt = cfByte then (decodeElems fmt dt codes fuel (need - 1) r).map fun x => (y :: x.1, x.2)
        else if 256 ≤ y then
          let n := 2 ^ (y - 256)
          if need < n then none
          else (decodeElems fmt dt codes fuel (need - n) r).map fun x => (List.replicate n 0 ++ x.1, x.2)
        else if r.length < rawBits dt then none
        else (decodeElems fmt dt codes fuel (need - 1) (r.drop (rawBits dt))).map fun x =>
          (joinElem dt y (natOfBits (r.take (rawBits dt))) :: x.1, x.2)

/-- A coded tile decoded to its 16,384 bytes: padding is under 8 bits and all 0 (R308). -/
def decodeTile (fmt dt : Nat) (codes : List Code) (bytes : List Nat) : Option (List Nat) :=
  let n := 16384 / dtypeBytes dt
  match decodeElems fmt dt codes n n (bitsOfBytes bytes) with
  | none => none
  | some (el, rest) =>
    if rest.length < 8 ∧ rest.all (· = false) then some (el.flatMap (bytesOf (dtypeBytes dt))) else none

/-! ### Tables (R299) -/

/-- The fields of a table record. -/
structure Table where
  tser : Nat
  est : Nat
  entry : Nat
  gen : Nat
  cfmt : Nat
  dtype : Nat
  lens : List Nat
deriving DecidableEq, Repr

/-- The record of a table, IN_USE, with its TCRC. -/
def tableWord (t : Table) : Nat :=
  let lo := 2 + (alphabet t.cfmt) * 2 ^ 16 + t.dtype * 2 ^ 32 + t.cfmt * 2 ^ 36 + t.gen * 2 ^ 40 + t.entry * 2 ^ 48 +
    t.est % 2 ^ 16 * 2 ^ 64 + t.tser * 2 ^ 80
  let hi := t.lens.zipIdx.foldl (fun a x => a + x.1 * 2 ^ (4 * x.2)) 0
  lo + crc32c (bytesOf 12 lo ++ bytesOf 136 hi) * 2 ^ 96 + hi * 2 ^ 128

/-- Whether a record's TCRC holds. -/
def tableOk (r : Nat) : Bool := decide (bits r 127 96 = crc32c (bytesOf 12 r ++ bytesOf 136 (r / 2 ^ 128)))

/-- The code lengths of a record. -/
def tableLens (r : Nat) : List Nat := (List.range (bits r 31 16)).map fun i => bits r (4 * i + 131) (4 * i + 128)

/-- What a cupping pass finds in its sample (R301-R303): a decline code, or the table but for its owner and serial. -/
inductive Cupped where
  | declined (code : Nat)
  | table (t : Table)
deriving DecidableEq, Repr

/-- The cupping pass over sample tiles: DTYPE of each with its bytes (R301, R302). -/
def cup (zrunEn : Bool) (zthr decline : Nat) (sample : List (Nat × List Nat)) : Cupped :=
  let dt := (sample.head?.map (·.1)).getD 6
  let els := sample.flatMap fun x => if x.1 = dt then elements dt x.2 else []
  let zeros := (els.filter (· = 0)).length
  let fmt := if isFloat dt then (if zrunEn ∧ els.length * zthr ≤ zeros * 256 then cfZrun else cfExpo)
    else if isByte dt then cfByte else 0
  if fmt = 0 then .declined 2
  else
    let lens := codeLengths (symCounts fmt (sample.flatMap fun x => if x.1 = dt then tileSyms fmt dt (elements dt x.2) else []))
    let codes := canonCodes lens
    let b := (sample.map fun x => (storeTile fmt dt x.1 codes x.2).2.length).sum
    let n := sample.length
    let est := (256 * (b + 32 * n) + 16384 * n - 1) / (16384 * n)
    if decline < est then .declined 3 else .table ⟨0, est, 0, 0, fmt, dt, lens⟩

/-! ### The pressed stream (R295-R297) -/

/-- Bytes up to the next multiple of 8. -/
def pad8 (l : List Nat) : List Nat := l ++ List.replicate ((8 - l.length % 8) % 8) 0

/-- What the stream keeps of a plain tile: its header, payload bytes, MODE and stored bytes. -/
structure Coded where
  hdr : Nat
  bytes : List Nat
  raw : Bool
  kept : List Nat
deriving DecidableEq, Repr

/-- The directory entry of a tile stored at a byte offset (R297). -/
def dirWord (c : Coded) (off : Nat) : Nat :=
  boolNat c.raw + hPcore c.hdr * 2 ^ 2 + hPfield c.hdr * 2 ^ 10 + hDtype c.hdr * 2 ^ 16 + hLayout c.hdr * 2 ^ 20 +
  hRows c.hdr * 2 ^ 24 + hCols c.hdr * 2 ^ 40 + c.kept.length * 2 ^ 56 + off / 8 * 2 ^ 72 + crc32c c.kept * 2 ^ 96 +
  crc32c c.bytes * 2 ^ 128 + hTag c.hdr * 2 ^ 160 + hStamp c.hdr * 2 ^ 192

/-- The directory of tiles stored one after the other from an offset. -/
def directory : Nat → List Coded → List Nat
  | _, [] => []
  | off, c :: r => bytesOf 32 (dirWord c off) ++ directory (off + (pad8 c.kept).length) r

/-- The pressed stream of an entry (R295, R296). -/
def pressedStream (handle step ctab : Nat) (t : Table) (l : List Coded) : List Nat :=
  let body := l.flatMap fun c => pad8 c.kept
  let dir := directory (64 + 32 * l.length) l
  let total := 64 + dir.length + body.length
  let h := 0x5CF1 + 2 ^ 16 + t.cfmt * 2 ^ 20 + ctab * 2 ^ 24 + step % 2 ^ 32 * 2 ^ 32 + handle * 2 ^ 64 +
    l.length * 2 ^ 416 + t.tser * 2 ^ 432 + total * 2 ^ 448
  let hb := bytesOf 60 h
  hb ++ bytesOf 4 (crc32c (hb ++ dir)) ++ dir ++ body

/-- A failed check of a pressed stream (R308): code of CMP_FLT, tile. -/
structure PressFail where
  code : Nat
  tile : Nat
deriving DecidableEq, Repr

/-- One tile of a stream restored (R308 checks 5-7): its directory word and plain bytes. -/
def restoreTile (codes : List Code) (t : Nat) (stream : List Nat) (i : Nat) : Except PressFail (Nat × List Nat) :=
  let d := ofBytes ((stream.drop (64 + 32 * i)).take 32)
  let kept := (stream.drop (8 * bits d 95 72)).take (bits d 71 56)
  if crc32c kept ≠ bits d 127 96 then .error ⟨4, i⟩
  else
    match (if bit d 0 then some kept else decodeTile (bits t 39 36) (bits d 19 16) codes kept) with
    | none => .error ⟨5, i⟩
    | some b => if crc32c b ≠ bits d 159 128 then .error ⟨6, i⟩ else .ok (d, b)

/-- The tiles of a stream from number `i` on. -/
def restoreFrom (codes : List Code) (t : Nat) (stream : List Nat) : Nat → Nat → Except PressFail (List (Nat × List Nat))
  | 0, _ => .ok []
  | n + 1, i =>
    match restoreTile codes t stream i with
    | .error e => .error e
    | .ok x => match restoreFrom codes t stream n (i + 1) with
      | .error e => .error e
      | .ok r => .ok (x :: r)

/-- A pressed stream checked and decoded (R308 checks 2-7), with the table record it is to be read by. -/
def readStream (ctab tiles entry gen table : Nat) (stream : List Nat) : Except PressFail (List (Nat × List Nat)) :=
  let h := ofBytes (stream.take 64)
  let dir := (stream.drop 64).take (32 * tiles)
  if bits h 15 0 ≠ 0x5CF1 ∨ bits h 19 16 ≠ 1 ∨ bits h 31 24 ≠ ctab ∨ 3 < bits h 23 20 ∨ bits h 23 20 = 0 ∨
      bits h 511 480 ≠ crc32c (stream.take 60 ++ dir) then .error ⟨1, 0⟩
  else if bits table 1 0 ≠ 2 ∨ bits table 63 48 ≠ entry ∨ bits table 47 40 ≠ gen ∨ bits table 95 80 ≠ bits h 447 432 then
    .error ⟨2, 0⟩
  else if !tableOk table then .error ⟨3, 0⟩
  else restoreFrom (canonCodes (tableLens table)) table stream tiles 0

/-- The tier fault code that reports a failed check (R308). -/
def pressTier (code : Nat) : Nat := if code ≤ 2 then 9 else 10

end Sys2Proof.Machine
end

