-- ==== Sys2Proof/Machine/Objects.lean ====
section
/-! DEFINITION. Sync objects and parked polls: references, signals, takes, the order of service, host waits, and the
faults of threads (08_synchronisation.md, 06_cores_threads.md R155). -/

namespace Sys2Proof.Machine

/-! ### Pool objects and who watches them -/

/-- The partition an object belongs to: its core's, or the owner of its pool block. -/
def State.objPart (s : State) (k : Nat) : Option Nat :=
  if k < poolBase then s.partOf (k / 64 / 152)
  else match Store.get 0 s.sync.blocks ((k - poolBase) / 64) with
    | 0 => none
    | n + 1 => some n

/-- The granted pool blocks of a partition, ascending. -/
def State.blocksOf (s : State) (p : Nat) : List Nat :=
  (List.range 256).filter fun b => Store.get 0 s.sync.blocks b = p + 1

/-- The absolute number of a partition's pool index. -/
def State.poolAbs (s : State) (p i : Nat) : Option Nat := ((s.blocksOf p)[i / 64]?).map fun b => b * 64 + i % 64

/-- An update of a watch object reported to the guard die (R452). -/
def State.watched (s : State) (k count : Nat) (kick : Bool) : State :=
  if k < poolBase then s
  else match s.objPart k with
    | none => s
    | some p => match (if s.running p && s.guarded p then (s.sect p).bind (·.guard) else none) with
      | none => s
      | some g => match g.stages.zipIdx.find? fun x => decide (s.poolAbs p x.1.watch = some (k - poolBase)) with
        | none => s
        | some x => s.onGuard fun y => { y with reports := y.reports ++ [⟨p, x.2, count, kick, s.now⟩] }

/-- SYNC_OUT (R548): a raise of a target object's COUNT starts a pulse. -/
def State.raised (s : State) (k : Nat) : State :=
  if k < poolBase then s
  else s.each ((List.range 16).filter fun n =>
    decide (s.rd SBM_PIN_CFG.FUNC n = 5) && decide (s.poolAbs (bits (s.rd SBM_PIN_TGT.TGT n) 25 24) (s.rd SBM_PIN_TGT.TGT n % 2 ^ 14) = some (k - poolBase)))
      fun s n => s.pulse n

/-! ### Parks -/

/-- A park removed. -/
def State.unpark (s : State) (pk : Park) : State :=
  s.onSync fun y => { y with parks := y.parks.filter (· ≠ pk) }

/-- A park at the end of the list: parks are served oldest first (R203). -/
def State.parkAt (s : State) (pk : Park) : State :=
  s.onSync fun y => { y with parks := y.parks ++ [pk] }

/-- A PARKED thread becomes READY; under a hold it will return to READY (R150, R157). -/
def State.wake (s : State) (k : Nat) : State :=
  let t := s.thread k
  match t.st with
  | .parked => s.setThread k { t with st := .ready }
  | .held => if t.prev = .parked then s.setThread k { t with prev := .ready } else s
  | _ => s

/-- The program counter moves to the next word. -/
def State.nextPc (s : State) (k : Nat) : State :=
  s.setThread k { s.thread k with pc := (s.thread k).pc + 1 }

/-- A thread parks on a target (R149). -/
def State.parkThread (s : State) (k : Nat) (tgt : Target) (take : Bool) (n tag sd : Nat) : State :=
  let s := s.setThread k { s.thread k with st := .parked }
  (s.parkAt ⟨.thread k, tgt, take, n, tag, s.now, sd⟩).tally 0 (k / 32) 0x17 1

/-- The vector of a doorbell's wait or NOTIFY, on the arming port, or on the other one where that port is FAILED (R364). -/
def State.bellVector (s : State) (pf port vec : Nat) : State :=
  s.vector (if s.rd HPT_PORT.STATE port = 3 then 1 - port else port) pf vec

/-- A host wait ends with a status, and its vector is sent (R211, R360). -/
def State.bellEnd (s : State) (pf slot status : Nat) : State :=
  let b := Store.get bell0 s.hosts.bells (pf * 64 + slot)
  (s.onHosts fun h =>
    { h with bells := Store.set bell0 h.bells (pf * 64 + slot) { b with state := 2, status := status } }).bellVector
      pf b.port b.vec

/-- A doorbell request ends with a status (R360); its vector where NOTIFY was set. -/
def State.bellDone (s : State) (pf slot status : Nat) : State :=
  let b := Store.get bell0 s.hosts.bells (pf * 64 + slot)
  let s := s.onHosts fun h =>
    { h with bells := Store.set bell0 h.bells (pf * 64 + slot) { b with state := 2, status := status } }
  if b.vec = 0 then s else s.bellVector pf b.port b.vec

/-- An engine's take has been served: the head descriptor's condition is met (`which` 0 TAKE_SRC, 1 TAKE_DST). -/
def gotTake (which : Nat) : List Work → List Work
  | [] => []
  | w :: r =>
    if w.issued < w.d.tiles then (if which = 0 then { w with gotSrc := true } else { w with gotDst := true }) :: r
    else w :: gotTake which r

/-- A parked poll completes: the thread has its status and goes on, the engine its unit, the host its record. -/
def State.finish (s : State) (pk : Park) (status : Nat) : State :=
  let s := s.unpark pk
  match pk.who with
  | .thread k => ((s.status k status).nextPc k).wake k
  | .engine k => s.setEngine k { s.engine k with work := gotTake pk.sd (s.engine k).work }
  | .host pf slot => s.bellEnd pf slot status

/-- One parked poll of an object judged in its turn (R203): `blocked` once a take has found its condition unmet. -/
def serveObjOne (k : Nat) (a : State × Bool) (pk : Park) : State × Bool :=
  if pk.tgt = .obj k then
    let o := a.1.obj k
    if pk.take then
      if !a.2 && pk.n ≤ o.count then
        let s := a.1.setObj k { o with count := o.count - pk.n }
        ((if pk.n = 0 then s else s.watched k (o.count - pk.n) false).finish pk 0, false)
      else (a.1, true)
    else if pk.n ≤ o.count then (a.1.finish pk 0, a.2) else a
  else a

/-- The parked polls of an object served, oldest first (R203). -/
def State.serveObj (s : State) (k : Nat) : State := (s.sync.parks.foldl (serveObjOne k) (s, false)).1

/-- One parked LD.FE of a word judged in its turn (R203): consume-mode empties the word. -/
def serveWordOne (k : Nat) (a : State × Bool) (pk : Park) : State × Bool :=
  if pk.tgt = .word k then
    let w := a.1.word k
    if w.full && !(pk.take && a.2) then
      let s := if pk.take then a.1.setWord k { w with full := false } else a.1
      match pk.who with
      | .thread t => ((((s.unpark pk).setSreg t pk.sd w.data).nextPc t).wake t, a.2)
      | _ => (s.unpark pk, a.2)
    else (a.1, a.2 || pk.take)
  else a

/-- The parked LD.FEs of a word served, oldest first (R203). -/
def State.serveWord (s : State) (k : Nat) : State := (s.sync.parks.foldl (serveWordOne k) (s, false)).1

/-! ### Sync faults (R201, R223) -/

/-- The record SYN_FLT of a partition. -/
def State.synFlt (s : State) (p code : Nat) (src : Source) (target : Nat) : State :=
  let s := if s.rd SYN_FLT.VALID p = 1 then s.wr SYN_FLT.OVER p 1 else s
  (((((s.wr SYN_FLT.VALID p 1).wr SYN_FLT.CODE p code).wr SYN_FLT.SFIELD p src.field).wr SYN_FLT.SCORE p
    src.core).wr SYN_FLT.SUNIT p src.unit).wr SYN_FLT.TARGET p target

/-- The reference that names an object in a record: kind 2 for a local object, kind 3 with the absolute number. -/
def objRef (k : Nat) : Nat :=
  if k < poolBase then 2 * 2 ^ 22 + k / 64 / 152 * 2 ^ 16 + k / 64 % 152 * 2 ^ 8 + k % 64
  else 3 * 2 ^ 22 + (k - poolBase)

/-- DIE of a log entry about a source (R490): a host die for hosts, else the field. -/
def srcDie (src : Source) : Nat := if src.unit = 62 then 0x40 else if src.unit = 63 then 0x41 else src.field

/-- An object fault: SYN_FLT, the fault log (block SYN), the event. -/
def State.objFault (s : State) (k code cls : Nat) (src : Source) (ev : Field) : State :=
  match s.objPart k with
  | none => s
  | some p =>
    let s := s.log ⟨0x08, code, srcDie src, src.core, src.unit, [p], cls, objRef k⟩
    (s.synFlt p code src (objRef k)).event ev p p

/-! ### References (R166, R191) -/

/-- What a sync reference names for a requester. -/
inductive Named where
  | none
  | obj (k : Nat)
  | range
  | foreign
deriving DecidableEq, Repr

/-- A sync reference resolved for a source (R166, R191, R220). PF0 names pool objects by absolute number (R358). -/
def State.resolve (s : State) (src : Source) (ref : Nat) (absolute : Bool) : Named :=
  let n := ref % 64
  match bits ref 23 22 with
  | 1 => if bits ref 21 6 = 0 && n ≤ 47 then (if src.own then .obj (objKey src.field src.core n) else .range) else .none
  | 2 =>
    let f := bits ref 21 16
    let m := bits ref 15 8
    if bits ref 7 6 = 0 && n ≤ 47 && m ≤ 151 then (if s.owns src.part f then .obj (objKey f m n) else .foreign) else .none
  | 3 =>
    let i := ref % 2 ^ 14
    if bits ref 21 14 ≠ 0 then .none
    else if absolute then (if s.objPart (poolKey i) = some src.part then .obj (poolKey i) else .range)
    else match s.poolAbs src.part i with
      | some a => .obj (poolKey a)
      | Option.none => .range
  | _ => .none

/-! ### Signals and takes (R198-R204) -/

/-- A trace record of a sync operation on the traced object (R531). -/
def State.traceObj (s : State) (k op n status : Nat) (src : Source) : State :=
  let tr : Source := ⟨s.rd DBG_TR_CTL.PART 0, s.rd DBG_TR_OBJ.FIELD 0, s.rd DBG_TR_OBJ.CORE 0, 0, true⟩
  if s.resolve tr (s.rd DBG_TR_OBJ.REF 0) false = .obj k then
    s.trace 4 src.part src.field src.core src.unit [op, n, (s.obj k).count, status]
  else s

/-- The largest COUNT (R198). -/
def countMax : Nat := 0xFFFFFFFF

/-- A signal of count `n` reaches an object (R198): the new state and the status. `op` 0 SIG, 2 SEM.ADD. -/
def State.sigObj (s : State) (k n op : Nat) (src : Source) : State × Nat :=
  let o := s.obj k
  if o.broken then (s, 6)
  else if !o.live then (s, 4)
  else
    let past := decide (countMax < o.count + n)
    let s := s.setObj k { o with
      count := min (o.count + n) countMax
      sat := o.sat || past
      last := if op = 2 ∧ n = 0 then o.last else some ⟨src.field, src.core, src.unit, op, s.now % 2 ^ 64⟩ }
    let c := min (o.count + n) countMax
    let s := (if o.count < c then s.raised k else s).watched k c (decide (op = 0) && decide (n = 1) && decide (src.unit < 36))
    let s := s.on past fun s => s.objFault k 2 3 src SYN_EVT.SAT
    ((s.traceObj k op n (boolNat past) src).serveObj k, boolNat past)

/-- A signed delta reaches an object (R199). -/
def State.addObj (s : State) (k : Nat) (d : Int) (src : Source) : State × Nat :=
  let o := s.obj k
  if 0 ≤ d then s.sigObj k d.toNat 2 src
  else if o.broken then (s, 6)
  else if !o.live then (s, 4)
  else if o.count < d.natAbs then ((s.objFault k 3 3 src SYN_EVT.UFL).traceObj k 2 d.natAbs 2 src, 2)
  else (((s.setObj k { o with count := o.count - d.natAbs }).watched k (o.count - d.natAbs) false).traceObj k 2 d.natAbs 0 src, 0)

/-- A request of a partition failed an isolation check at a delivery point (R382). -/
def State.isoEvt (s : State) (p point : Nat) : State := (s.wr SEC_ISO_EVT.POINT p point).event SEC_ISO_EVT.BLOCKED p p

/-- A request blocked at a partition boundary (R220): BLOCKED, XPART and SYN_FLT in the sender's window, the log. -/
def State.blocked (s : State) (src : Source) (ref : Nat) : State :=
  let s := s.log ⟨0x08, 6, srcDie src, src.core, src.unit, [src.part], 2, ref⟩
  ((s.synFlt src.part 6 src ref).event SYN_EVT.XPART src.part src.part).isoEvt src.part 1

/-- A signal from an engine or a host, by reference (R166, R206). -/
def State.signalRef (s : State) (src : Source) (ref n : Nat) (absolute : Bool) : State × Nat :=
  match s.resolve src ref absolute with
  | .obj k => s.sigObj k n 0 src
  | .foreign => (s.blocked src ref, 3)
  | _ => (s, 5)

/-- An object becomes BROKEN (R208): its held signals are discarded. -/
def State.breakObj (s : State) (k code cls : Nat) (src : Source) : State :=
  let o := s.obj k
  let s := s.setObj k { o with broken := true, held := [] }
  s.objFault k code cls src SYN_EVT.LC_ERR

/-- Whether a landing or posted signal of another engine would mix a landing counter (R208). -/
def mixes (o : SyncObj) (eng : Nat) : Bool := (o.landed ≠ 0 || !o.held.isEmpty) && o.src ≠ eng + 1

/-- Held signals released in arrival order while enough bytes have landed (R207). -/
def releaseHeld (k : Nat) (src : Source) : Nat → State → State
  | 0, s => s
  | n + 1, s =>
    let o := s.obj k
    match o.held with
    | [] => s
    | h :: r =>
      if h.bytes ≤ o.landed then
        releaseHeld k src n ((s.setObj k { o with held := r, landed := o.landed - h.bytes }).sigObj k h.n 0 src).1
      else s

/-- A posted signal arrives: held until its bytes have landed (R207, R208). -/
def State.postSignal (s : State) (k eng n bytes : Nat) (src : Source) : State :=
  let o := s.obj k
  if o.broken then s
  else if mixes o eng || 4 ≤ o.held.length then s.breakObj k 8 3 src
  else releaseHeld k src 5 (s.setObj k { o with src := eng + 1, held := o.held ++ [⟨eng + 1, n, bytes⟩] })

/-- Posted bytes land (R207, R208). -/
def State.landBytes (s : State) (k eng bytes : Nat) (src : Source) : State :=
  let o := s.obj k
  if o.broken then s
  else if mixes o eng || countMax < o.landed + bytes then s.breakObj k 8 3 src
  else releaseHeld k src 5 (s.setObj k { o with src := eng + 1, landed := o.landed + bytes })

/-- A poll of an object (R200): served at once where nothing older waits unserved, or parked. -/
def State.pollObj (s : State) (who : Who) (k n : Nat) (take : Bool) (tag sd : Nat) : State :=
  let pk : Park := ⟨who, .obj k, take, n, tag, s.now, sd⟩
  let s := match who with
    | .thread t => s.setThread t { s.thread t with st := .parked }
    | _ => s
  let s := (s.parkAt pk).serveObj k
  match who with
  | .thread t => if (s.thread t).st = .parked then s.tally 0 (t / 32) 0x17 1 else s
  | _ => s

end Sys2Proof.Machine
end

