-- ==== Sys2Proof/Machine/Pages.lean ====
section
/-! DEFINITION. Pages and page directories (04_memory_tiers.md): what a logical page is, allocation, seal, free,
mirrors, tier faults. -/

namespace Sys2Proof.Machine

/-! ### What a logical page is (R586, R587, R229) -/

/-- The set bits of a mask below 64, ascending. -/
def maskBits (m : Nat) : List Nat := (List.range 64).filter (bit m)

/-- The field of the page at place `i` of a range (R586). -/
def rangeField (r : Range) (i : Nat) : Nat :=
  if r.spread then
    let l := maskBits r.fields
    (l[i % max 1 l.length]?).getD 0
  else r.field

/-- The directory range that declares a logical page. -/
def State.rangeOf (s : State) (p l : Nat) : Option Range :=
  (s.pagedir p).ranges.find? fun r => decide (r.lbase ≤ l) && decide (l < r.lbase + r.pages)

/-- The field whose Ledger range holds a logical page. -/
def State.ldgField (s : State) (p l : Nat) : Option Nat :=
  (s.fieldsOf p).find? fun f => decide ((s.fplan p f).lbase ≤ l) && decide (l < (s.fplan p f).lbase + (s.fplan p f).lpages)

/-- The field whose spill range holds a logical page. -/
def State.spillField (s : State) (p l : Nat) : Option Nat :=
  (s.fieldsOf p).find? fun f => decide ((s.fplan p f).sbase ≤ l) && decide (l < (s.fplan p f).sbase + (s.fplan p f).spages)

/-- Pages that hold a number of tiles. -/
def pagesFor (tiles : Nat) : Nat := (tiles + 3) / 4

/-- The entry of a field whose plain form holds a logical page, and that is not RETIRED. -/
def State.entryAt (s : State) (f l : Nat) : Option Nat :=
  ((s.ledger.entries.filter fun e => e.1 / 65536 = f).find? fun e =>
    decide (e.2.st ≠ 0) && decide (e.2.lpage ≤ l) && decide (l < e.2.lpage + pagesFor e.2.tiles)).map (·.1 % 65536)

/-- What a logical page is to a program. -/
inductive LPage where
  | undeclared
  | range (r : Range) (f : Nat)
  | ledger (f : Nat)
  | spill (f : Nat)
  | remote (tie : Nat)
deriving DecidableEq, Repr

/-- The tie whose remote range holds a logical page (R316). -/
def State.tieOf (s : State) (p l : Nat) : Option Nat :=
  ((s.sect p).bind fun c => c.links.ties.find? fun t => decide (t.lbase ≤ l) && decide (l < t.lbase + t.pages)).map (·.num)

/-- A logical page classified. -/
def State.lpage (s : State) (p l : Nat) : LPage :=
  match s.rangeOf p l with
  | some r => .range r (rangeField r (l - r.lbase))
  | none =>
    match s.ldgField p l with
    | some f => .ledger f
    | none =>
      match s.spillField p l with
      | some f => .spill f
      | none =>
        match s.tieOf p l with
        | some t => .remote t
        | none => .undeclared

/-- The flip group of a logical page. -/
def State.groupOf (s : State) (p l : Nat) : Option Nat := (s.rangeOf p l).bind (·.group)

/-- The physical page a read of a logical page resolves to (R583): fixed for T0 and T3. -/
def State.current (s : State) (p l : Nat) : Option Nat :=
  match s.rangeOf p l with
  | some r =>
    if r.tier = 0 then some (pageKey 0 r.field (r.pbase + (l - r.lbase)))
    else if r.tier = 3 then some (pageKey 3 p (r.pbase + (l - r.lbase)))
    else (s.dir p l).cur
  | none => (s.dir p l).cur

/-- The physical page a write of a logical page goes to: the pending page of a flip group (R583). -/
def State.target (s : State) (p l : Nat) : Option Nat :=
  if (s.groupOf p l).isSome then (s.dir p l).pend else s.current p l

/-! ### Pools -/

/-- Pool numbers of T1 pages: the plan's classes 0-7, the Ledger budget. -/
def poolLedger : Nat := 8
/-- Pool numbers of T2 pages: declared, staging, context, spill reserve, held after a stop. -/
def poolT2 : Nat := 0
def poolStaging : Nat := 1
def poolContext : Nat := 2
def poolSpill : Nat := 3
def poolHeat : Nat := 4
def poolHeld : Nat := 5

/-- Pages in use of a tier and field that pass a test. -/
def State.countPages (s : State) (tier f : Nat) (g : Page → Bool) : Nat :=
  Store.count (fun k v => decide (k / 2 ^ 40 = tier * 64 + f) && decide (v.st ≠ .free) && g v) s.mem.pages

/-- Place of a field among a range's spread, and how many of its pages lie there. -/
def rangePagesIn (r : Range) (f : Nat) : Nat :=
  if r.spread then
    let l := maskBits r.fields
    match l.findIdx? (· = f) with
    | some j => (r.pages + l.length - 1 - j) / l.length
    | none => 0
  else if r.field = f then r.pages else 0

/-- The staging sub-reservation of a field (R353). -/
def State.stgIn (s : State) (p f : Nat) : Nat :=
  (((s.pagedir p).ranges.filter fun r => decide (r.cls = 4)).map fun r => rangePagesIn r f).sum

/-- The declared T2 of a field that R71 counts: without its staging sub-reservation (R353). -/
def State.declT2 (s : State) (p f : Nat) : Nat := (s.fplan p f).t2 - s.stgIn p f

/-- Declared T2 pages in use: the general pages and the heat pool's. -/
def State.usedT2 (s : State) (p f : Nat) : Nat :=
  s.countPages 2 f fun g => decide (g.part = p) && (decide (g.pool = poolT2) || decide (g.pool = poolHeat))

/-- Free pages of a field's declared T2 (R71). -/
def State.freeT2 (s : State) (p f : Nat) : Nat := s.declT2 p f - s.usedT2 p f

/-- T1 pages of a pool in use in a field. -/
def State.usedT1 (s : State) (f pool : Nat) : Nat := s.countPages 1 f fun g => decide (g.pool = pool)

/-- Pages of a tier in a field (R87). -/
def State.tierSize (s : State) (tier f : Nat) : Nat :=
  if tier = 1 then 1536 else if tier = 2 then (s.towers f).length * 786432 else 0

/-- A free physical page of a tier in a field: the spec names no order of choice, so the search begins anywhere. -/
def State.freePhys (s : State) (tier f : Nat) : Option Nat :=
  let n := s.tierSize tier f
  if n = 0 then none
  else ((List.range (min n (s.mem.pages.length + 1))).map fun i =>
    pageKey tier f ((Config.pageStart s.fresh n + i) % n)).find? fun k => (s.page k).st = .free

/-- A physical page taken from the free pool for a logical page (R92). -/
def State.take (s : State) (k p l cls pool : Nat) (w : Writer) : State :=
  (s.setPage k ⟨.opened, cls, p, l, pool, w, 0, 0, 0, false, decide (pageTier k = 2) && s.inRegion p l⟩).used

/-- PAR_EVT.T2_LOW, once per fall below the mark (R71), and the mark re-armed once free pages stand at it again. -/
def State.checkLow (s : State) (p f : Nat) : State :=
  let mark := s.rd PAR_WMARK.T2_LOW p * s.declT2 p f
  let low := decide (s.freeT2 p f * 100 < mark)
  let st := s.part p
  if low && !st.low.contains f then
    (s.setPart p { st with low := f :: st.low }).event PAR_EVT.T2_LOW p p
  else if !low && st.low.contains f then s.setPart p { st with low := st.low.filter (· ≠ f) }
  else s

/-- A T2 page of the declared pages allocated: none where the field has no free page (R71). -/
def State.allocT2 (s : State) (p f l cls : Nat) (w : Writer) : Option (State × Nat) :=
  if s.freeT2 p f = 0 then none
  else (s.freePhys 2 f).map fun k => ((s.take k p l cls poolT2 w).checkLow p f, k)

/-- A T1 page of a class allocated: none where the class has no free page in the field (R71). T1 pages read SEALED
while allocated (R88). -/
def State.allocT1 (s : State) (p f l cls c : Nat) (w : Writer) : Option (State × Nat) :=
  if ((s.fplan p f).t1cls[c]?).getD 0 ≤ s.usedT1 f c then none
  else (s.freePhys 1 f).map fun k =>
    ((s.setPage k ⟨.sealed, cls, p, l, c, w, 0, 0, 0, false, false⟩).used, k)

/-! ### Descriptors (R88) -/

/-- State number of a page descriptor. -/
def pgStNum : PgSt → Nat
  | .free => 0
  | .opened => 1
  | .sealed => 2
  | .freeing => 3
  | .invalid => 4

/-- The descriptor of a physical page that stands behind a logical page (R88). -/
def State.descOf (s : State) (p l k : Nat) : Nat :=
  let g := s.page k
  let d := s.dir p l
  let r := s.rangeOf p l
  let tier := pageTier k
  let st := if tier = 0 then 2 else pgStNum (s.pgSt k)
  let cls := match r with
    | some r => if tier = 2 then (if g.st = .free then r.cls else g.cls) else r.cls
    | none => 3
  let pin := (r.map fun r => boolNat r.pin).getD 0
  let fld := match r with
    | some r => rangeField r (l - r.lbase)
    | none => pageField k
  let m := match d.mirror with
    | some m => pageTier m * 2 ^ 109 + pageField m * 2 ^ 103 + pageIdx m * 2 ^ 80
    | none => 0
  d.heat * 2 ^ 120 + cls * 2 ^ 116 + st * 2 ^ 113 + pin * 2 ^ 112 + boolNat r.isNone * 2 ^ 111 + m +
    g.readers * 2 ^ 64 + tier * 2 ^ 62 + fld * 2 ^ 56 + pageIdx k

/-- The descriptor TIER_PD shows of a logical page: 0 where undeclared; a declared page with no physical page shows
FREE with the tier, field, class and PIN of its range. -/
def State.pageDesc (s : State) (p l : Nat) : Nat :=
  match s.current p l with
  | some k => s.descOf p l k
  | none =>
    match s.lpage p l with
    | .range r f => r.cls * 2 ^ 116 + boolNat r.pin * 2 ^ 112 + r.tier * 2 ^ 62 + f * 2 ^ 56
    | .ledger f => 3 * 2 ^ 116 + 2 ^ 111 + 1 * 2 ^ 62 + f * 2 ^ 56
    | .spill f => 3 * 2 ^ 116 + 2 ^ 111 + 2 * 2 ^ 62 + f * 2 ^ 56
    | .remote _ => 0
    | .undeclared => 0

/-! ### Tier faults (R107) -/

/-- The STREAM number of an engine in TIER_FLT (R162). -/
def streamNo (e : Nat) : Nat := if isShelf e then 0x300 + engUnit e else engCore e * 4 + engUnit e

/-- The descriptor of the page a fault is about: a refused write or an INVALID page of a flip group is its pending page (R583). -/
def State.faultDesc (s : State) (p l code : Nat) : Nat :=
  match (if code = 1 ∨ code = 2 ∨ code = 5 then s.target p l else none) with
  | some k => s.descOf p l k
  | none => s.pageDesc p l

/-- A tier fault recorded: TIER_FLT, its locator, the fault log, the event to the steward (R107). -/
def State.tierFlt (s : State) (p f stream code l : Nat) : State :=
  let loc := s.faultDesc p l code % 2 ^ 64
  let s := s.log ⟨0x03, code, f, 0xFF, 0, [p], 2, loc⟩
  let s := if s.rd TIER_FLT.VALID 0 = 1 then s.wr TIER_FLT.OVER 0 1 else s
  let s := (((s.wr TIER_FLT.VALID 0 1).wr TIER_FLT.PART 0 p).wr TIER_FLT.STREAM 0 stream).wr TIER_FLT.CODE 0 code
  let s := ((s.wr TIER_FLT_LOC.LOC 0 loc).trace 7 p f 0xFF 0 [code, l]).tellSteward p
  s.on (decide (code = 7)) fun s => s.isoEvt p 1

/-! ### Heat and mirrors (R101-R105) -/

/-- Whether a page's heat is never counted (R102). -/
def State.exempt (s : State) (p l : Nat) : Bool :=
  match s.rangeOf p l with
  | some r => r.pin || !([0, 1, 2, 5, 9].contains r.cls)
  | none => true

/-- Heat added to a logical page, saturating at 255 (R101). -/
def State.addHeat (s : State) (p l n : Nat) : State :=
  if s.exempt p l || s.rd TIER_CTL.HEAT_EN 0 = 0 then s
  else s.setDir p l { s.dir p l with heat := min 255 ((s.dir p l).heat + n) }

/-- A physical page returns to the free pool (R96): content and headers stand until it is written again. -/
def State.release (s : State) (k : Nat) : State := s.setPage k page0

/-- A page enters FREEING, and FREE at once where nothing reads it (R95). -/
def State.freeing (s : State) (k : Nat) : State :=
  if (s.page k).readers = 0 then s.release k else s.setPage k { s.page k with st := .freeing }

/-- A mirror dropped: its page frees once its reads have landed (R105). -/
def State.dropMirror (s : State) (p l : Nat) : State :=
  let d := s.dir p l
  match d.mirror with
  | none => s
  | some m => ((s.setDir p l { d with mirror := none }).freeing m).tally 1 (pageField m) 0x15 1

/-- A read of a physical page accepted (R95). -/
def State.readStart (s : State) (k : Nat) : State := s.setPage k { s.page k with readers := (s.page k).readers + 1 }
/-- A read of a physical page ended; a dropped mirror's page then frees. -/
def State.readEnd (s : State) (k : Nat) : State :=
  let g := s.page k
  let s := s.setPage k { g with readers := g.readers - 1 }
  if g.st = .freeing ∧ g.cls = 8 ∧ g.readers ≤ 1 then s.release k else s

/-- A mirror copy in progress abandoned: its pool page frees, its read of the source ends. -/
def State.dropCopy (s : State) (p l : Nat) : State :=
  let d := s.dir p l
  match d.copy with
  | none => s
  | some x => ((s.setDir p l { d with copy := none }).release x.1).readEnd x.2

/-! ### Seals (R93) -/

/-- The header of a tile that was never written before its page sealed. -/
def voidHdr (p f : Nat) : Hdr := { flags := 2, ppart := p, pfield := f, pcore := 0xFF, rows := 1, cols := 16384, layout := 2, dtype := 7 }

/-- One tile of a page at its seal: VOID where it was never written; PCRC, PCV and HCRC computed. `stg` gives the
header a staging seal writes (R356). -/
def State.sealTile (s : State) (k t : Nat) (stg : Option Hdr) : State :=
  let g := s.page k
  let tk := tileKey k t
  let written := bit g.written t
  let s := if written then s else s.onMem fun m =>
    { m with words := (List.range 2048).foldl (fun w i =>
        Store.set word0 w (tileWord tk i) ⟨Config.voidWord tk i, false, false⟩) m.words }
  let h := match stg with
    | some h => { h with flags := 1 + (if written then 0 else 2), tile := 0 }
    | none => if written then { hdrOf (s.hdr tk) with flags := 1 + 2 * (hFlags (s.hdr tk) / 2) }
        else { voidHdr g.part (pageField k) with flags := 3 }
  s.setHdr tk (hdrWord h (crc32c (payloadBytes (s.payload tk))))

/-- A page seals (R93): every tile has its header and check values, and the page is SEALED. -/
def State.sealPage (s : State) (k : Nat) (stg : Option Hdr) : State :=
  let s := s.each [0, 1, 2, 3] fun s t => s.sealTile k t stg
  let g := s.page k
  s.setPage k { g with st := .sealed, sealReq := false, sealer := 0 }

/-- The logical pages of a partition that the directory holds an entry for. -/
def State.dirPages (s : State) (p : Nat) : List Nat :=
  (s.mem.dir.filter fun e => e.1 / 2 ^ 40 = p).map (·.1 % 2 ^ 40)

/-! ### Halts for want of a page (R71, R186) -/

/-- Halted engines of a partition whose halt a freed page ends (R186): cause T2_SHORT for a declared T2 page of the
field, T1_SHORT for a page of the same class. -/
def State.resumeShort (s : State) (p f cause pool : Nat) : State :=
  s.each s.cores.engines fun s e =>
    match (s.engine e.1).halt with
    | none => s
    | some h =>
      let here : Bool := match s.lpage p h.lpage with
        | .range r f' => decide (f' = f) && (decide (cause = 0x20) || decide (r.t1class = pool))
        | .spill f' => decide (f' = f) && decide (cause = 0x20)
        | _ => false
      if decide (h.cause = cause) && here && decide (s.partOf (engField e.1) = some p) then
        s.setEngine e.1 { s.engine e.1 with halt := none }
      else s

/-- A page returned to its pool: waiting halts resume (R186), and the T2_LOW mark may be re-armed (R71). -/
def State.returned (s : State) (k : Nat) (g : Page) : State :=
  let f := pageField k
  if pageTier k = 2 ∧ (g.pool = poolT2 ∨ g.pool = poolHeat) then (s.checkLow g.part f).resumeShort g.part f 0x20 0
  else if pageTier k = 1 ∧ g.pool < 8 then s.resumeShort g.part f 0x23 g.pool
  else s

/-- A page freed at once, and what its return to the pool brings. -/
def State.freeNow (s : State) (k : Nat) : State := (s.release k).returned k (s.page k)

end Sys2Proof.Machine
end

