-- ==== Sys2Proof/Machine/Stalls.lean ====
section
/-! DEFINITION. Stall accounting (07_streams_fences.md R182-R184), and time moving forward to a tick that is due. -/

namespace Sys2Proof.Machine

/-- Whether a descriptor of an engine signals an object as its tiles land. -/
def State.signals (s : State) (e : Nat) (w : Work) (k : Nat) : Bool :=
  let p := (s.partOf (engField e)).getD 0
  decide (s.resolve ⟨p, engField e, engCore e, 32, !isShelf e⟩ w.d.sigDst false = .obj k)

/-- The feeding descriptor of an object (R182): an engine's descriptor with tiles that have not landed. -/
def State.feeder (s : State) (k : Nat) : Option (Nat × Work) :=
  s.cores.engines.findSome? fun e =>
    (e.2.work.find? fun w => decide (w.retired < w.d.tiles) && s.signals e.1 w k).map fun w => (e.1, w)

/-- The logical page of tile `i` on the source side of a descriptor, where that side is a page (R168). -/
def srcPage (d : Desc) (i : Nat) : Option Nat :=
  if bits d.src 63 62 = 1 then some (bits d.src 39 0 + (bits d.src 41 40 + i) / 4) else none

/-- The park of a thread. -/
def State.parkOf (s : State) (k : Nat) : Option Park := s.sync.parks.find? fun pk => decide (pk.who = .thread k)

/-- The source page of the next tile a descriptor has not landed. -/
def nextSrc (w : Work) : Option Nat := srcPage w.d w.retired

/-- The cause of a wait with tag DATA on an object with a feeding descriptor (R183 rows 6-12). -/
def State.dataCause (s : State) (e : Nat) (w : Work) : Nat :=
  let eng := s.engine e
  let p := (s.partOf (engField e)).getD 0
  let ent := (nextSrc w).bind fun l => match s.lpage p l with
    | .ledger f => (s.entryAt f l).map fun n => s.entry f n
    | _ => none
  let stg : Bool := match (nextSrc w).bind (s.rangeOf p) with
    | some r => decide (r.cls = 4)
    | none => false
  if eng.halt.isSome then 6
  else if ent.any fun x => decide (x.st = 8) then 5
  else match eng.wait with
    | .flip _ => 3
    | .back => 8
    | _ => if stg then 9 else if w.d.wgt then 0 else 1

/-- The cause of a waiting thread (R183): the first row that applies. -/
def State.cause (s : State) (k : Nat) : Nat :=
  if (s.thread k).st = .held ∧ (Store.get test0 s.guard.tests (k / 32)).seg ≠ 0 then 7
  else match s.parkOf k with
    | none => 1
    | some pk =>
      match pk.tgt with
      | .fence _ _ _ => 4
      | tgt =>
        if pk.tag = 1 then 2 else if pk.tag = 2 then 3 else if pk.tag = 3 then 9
        else match tgt with
          | .obj o => match s.feeder o with
            | some (e, w) => s.dataCause e w
            | none => 1
          | .entry f n => if (s.entry f n).st = 8 then 5 else 1
          | _ => 1

/-- The groups and lanes a thread takes part in (R176). -/
def State.lanesOf (s : State) (k : Nat) : List (Nat × Nat) :=
  ((((s.partOf (k / 32 / 152)).bind s.sect).map (·.fence)).getD []).flatMap fun g =>
    (g.members.filter fun m => decide (thrKey m.f m.m m.t = k)).map fun m => (g.g, m.lane)

/-- A lane of a fence group. -/
def State.lane (s : State) (p g l : Nat) : LaneSt := Store.get lane0 s.sync.lanes (laneKey p g l)
/-- A lane changed. -/
def State.setLane (s : State) (p g l : Nat) (v : LaneSt) : State :=
  s.onSync fun y => { y with lanes := Store.set lane0 y.lanes (laneKey p g l) v }

/-- A waiting thread judged for lateness (R180, R181): a wait with cause WGT_LATE marks its lane's last fence late, and the
feeding engine hints each source page with a tile not yet landed, once per page and fence of the lane. -/
def State.judge (s : State) (k : Nat) : State :=
  let p := (s.partOf (k / 32 / 152)).getD 0
  if (s.thread k).st = .parked ∧ s.cause k = 0 then
    s.each (s.lanesOf k) fun s x =>
      let v := s.lane p x.1 x.2
      let s := s.setLane p x.1 x.2 { v with late := true }
      match (s.parkOf k).bind fun pk => match pk.tgt with | .obj o => s.feeder o | _ => none with
      | none => s
      | some (_, w) =>
        let l := ((List.range w.d.tiles).filterMap fun i => if w.retired ≤ i then srcPage w.d i else none).eraseDups.filter fun l =>
          !v.hinted.contains l
        (s.each l fun s l => s.addHeat p l (s.rd TIER_HEAT_THR.HINT p)).setLane p x.1 x.2 { v with late := true, hinted := v.hinted ++ l }
  else s

/-- Every waiting thread of a partition judged for lateness. -/
def State.judgeAll (s : State) (p : Nat) : State :=
  s.each (s.sync.parks.filterMap fun pk => match pk.who with
    | .thread k => if s.partOf (k / 32 / 152) = some p then some k else none
    | _ => none) fun s k => s.judge k

/-- The threads of a core that wait: PARKED or HELD, with the tick since when. -/
def State.waiters (s : State) (c : Nat) : List (Nat × Nat) :=
  ((List.range 32).map (c * 32 + ·)).filterMap fun k =>
    let st := (s.thread k).st
    if st = .parked ∨ st = .held then some (k, ((s.parkOf k).map (·.since)).getD (s.thread k).issued) else none

/-- The thread that has waited longest, the lower number first on a tie (R184). -/
def longest : List (Nat × Nat) → Option Nat
  | [] => none
  | (k, t) :: r =>
    match longest r, r with
    | some j, _ => if t ≤ ((r.find? fun e => e.1 = j).map (·.2)).getD 0 then some k else some j
    | none, _ => some k

/-- Whether a core is quiescent (R151). -/
def State.quiet (s : State) (c : Nat) : Bool :=
  ((List.range 32).all fun t => decide ((s.thread (c * 32 + t)).st ≠ .ready) && decide ((s.thread (c * 32 + t)).st ≠ .held)) &&
  ((List.range 4).all fun e => (s.engine (c * 4 + e)).flight.all fun x => decide (x.st = .landed) || decide (x.st = .failed))

/-- `n` ticks charged to a core's counters, in which it issues nothing (R184, R519); none while SUSPENDED (R515). -/
def State.charge (s : State) (n c : Nat) : State :=
  if (s.partOf (c / 152)).any fun p => decide (s.pst p = stSuspended) then s
  else
    let s := if s.quiet c then s.tally 0 c 0x0B n else s
    match longest (s.waiters c) with
    | some k =>
      let cs := s.cause k
      let s := if s.rd DBG_TR_OBJ.FIELD 0 = c / 152 ∧ s.rd DBG_TR_OBJ.CORE 0 = c % 152 ∧ s.dbg.cause ≠ cs then
          (s.trace 5 ((s.partOf (c / 152)).getD 0) (c / 152) (c % 152) 0x3F [s.dbg.cause, cs, k % 32])
        else s
      ({ s with dbg := { s.dbg with cause := cs } }).tally 0 c cs n
    | none =>
      if (List.range 32).any fun t => decide ((s.thread (c * 32 + t)).st = .ready) then s else s.tally 0 c 0x0A n

/-- `n` ticks charged to the busy counts of a partition's tasks: some thread of the task is READY (R455). -/
def State.chargeTasks (s : State) (n p : Nat) : State :=
  match (if s.running p && s.guarded p then (s.sect p).bind (·.guard) else none) with
  | none => s
  | some g => s.each g.tasks.zipIdx fun s x =>
    let i := p * 64 + x.2
    if (List.range 32).any fun t => bit x.1.threads t && decide ((s.thread (thrKey x.1.field x.1.core t)).st = .ready) then
      let b := Store.get 0 s.guard.busy i + n
      (s.onGuard fun y => { y with busy := Store.set 0 y.busy i b }).wr GRD_TASK.PEAK i (max (s.rd GRD_TASK.PEAK i) (min b 0xFFFFFFFF))
    else s

/-- The mapped cores (R33). -/
def State.mapped (s : State) : List Nat := s.wafer.cmap.map (·.1)

/-- Time moves forward to a tick that is due: nothing happens on the way but the counters' ticks, and the mark of a wrap of the
64-bit count (R48). -/
def State.reach (s : State) (t : Nat) : State :=
  if s.wafer.running ∧ s.now < t then
    let n := t - s.now
    let s := { (s.each s.mapped fun s c => s.charge n c).each [0, 1, 2, 3] (fun s p => s.chargeTasks n p) with now := t }
    if (t - n) / 2 ^ 64 < t / 2 ^ 64 then s.wr SYS_TB_STAT.WRAP 0 1 else s
  else s

end Sys2Proof.Machine
end

