-- ==== Sys2Proof/Machine/Halt.lean ====
section
/-! DEFINITION. Stopping a partition: what every entry into STOPPED does (03_partitions_admission.md R79), and the abort
of its operations in flight (20_collisions.md R498, R499). -/

namespace Sys2Proof.Machine

/-- The cursor of an engine (R185), as CORE_SQ_CUR lays it out: the first tile that has not landed, and which of the
three after it have. -/
def State.cursorOf (s : State) (k : Nat) : Nat :=
  let e := s.engine k
  let at_ : Option (Nat × Nat × Nat) := match e.flight with
    | x :: _ => some (x.slot, x.idx, x.tile)
    | [] => (e.work.find? fun w => w.issued < w.d.tiles).map fun w => (w.slot, w.idx, w.issued)
  match at_ with
  | none => 0
  | some (sl, ix, t) =>
    let mask := ((e.flight.drop 1).take 3).zipIdx.foldl (fun a x => a + boolNat (decide (x.1.st = .landed)) * 2 ^ x.2) 0
    let lp := ((e.work.find? fun w => w.slot = sl ∧ w.idx = ix).bind fun w => srcPage w.d t).getD 0
    mask * 2 ^ 60 + sl * 2 ^ 56 + t * 2 ^ 48 + ix * 2 ^ 45 + lp % 2 ^ 40

/-- An engine halts with a cause (R185). -/
def State.haltEngine (s : State) (k cause l : Nat) : State :=
  let s := s.setEngine k { s.engine k with halt := some ⟨cause, s.now, l⟩ }
  s.setEngine k { s.engine k with cursor := s.cursorOf k }

/-- A page open for an aborted write becomes INVALID (R92, R499). -/
def State.invalidate (s : State) (k : Nat) : State :=
  if (s.page k).st = .opened then s.setPage k { s.page k with st := .invalid, sealReq := false } else s

/-- The tiles in flight of an engine aborted (R498): those that have not landed have no effect; reads end, open T2
destination pages become INVALID. -/
def State.abortFlights (s : State) (k : Nat) : State :=
  let e := s.engine k
  let cur := s.cursorOf k
  let s := s.each e.flight fun s x =>
    if x.st = .landed then s
    else
      let s := match x.rpage with | some r => s.readEnd r | none => s
      match x.wpage with | some w => (if pageTier w = 2 then s.invalidate w else s) | none => s
  s.setEngine k { e with flight := [], cursor := cur }

/-- The engines of a partition that have anything to say. -/
def State.enginesOf (s : State) (p : Nat) : List Nat :=
  (s.cores.engines.map (·.1)).filter fun k => decide (s.partOf (engField k) = some p)

/-- Whether a doorbell's wait is on an object of a partition. -/
def State.hostWaitOf (s : State) (p : Nat) (pk : Park) : Bool :=
  match pk.who, pk.tgt with
  | .host _ _, .obj k => decide (s.objPart k = some p)
  | .host _ _, .barrier p' _ _ => decide (p' = p)
  | _, _ => false

/-- Armed host waits of a partition end with NOT_RUNNING, their vectors sent (R222). -/
def State.endHostWaits (s : State) (p : Nat) : State :=
  s.each (s.sync.parks.filter (s.hostWaitOf p)) fun s pk => s.finish pk 9

/-- Words and headers of a physical page zero-filled (R96). -/
def State.zeroPage (s : State) (k : Nat) : State :=
  s.onMem fun m => { m with
    words := m.words.filter fun e => e.1 / 8192 ≠ k
    hdrs := m.hdrs.filter fun e => e.1 / 4 ≠ k }

/-- Whether a page is a CHECKPOINT page that a stop holds or a KEEP restart carries (R79, R81). -/
def carriable (g : Page) : Bool := decide (g.cls = 6) && decide (g.st = .sealed) && !g.region

/-- The T2 pages of a partition freed and zero-filled, but for those that `keep` names, which are held (R79). -/
def State.freeT2Pages (s : State) (p : Nat) (keep : Page → Bool) : State :=
  let mine := s.mem.pages.filter fun e => decide (pageTier e.1 = 2) && decide (e.2.part = p)
  s.each mine fun s e =>
    if keep e.2 then s.setPage e.1 { e.2 with pool := poolHeld, readers := 0 }
    else (s.zeroPage e.1).setPage e.1 page0

/-- The pool blocks of a partition released, their objects discarded (R79). -/
def State.releaseBlocks (s : State) (p : Nat) : State :=
  let bs := s.blocksOf p
  s.onSync fun y => { y with
    blocks := y.blocks.filter fun e => e.2 ≠ p + 1
    objs := y.objs.filter fun e => !(decide (poolBase ≤ e.1) && bs.contains ((e.1 - poolBase) / 64)) }

/-- The floor of a field's supply in mV (R45). -/
def State.floorMv (s : State) : Nat :=
  let guarded := (List.range 4).any fun p => s.guarded p && decide (stAdmitted ≤ s.pst p) && decide (s.pst p ≤ stSafe)
  if guarded then max 680 (s.rd SYS_VFLOOR.MV 0) else s.rd SYS_VFLOOR.MV 0

/-- A partition's fields go quiescent at the supply floor. -/
def State.toFloor (s : State) (p : Nat) : State :=
  s.each (s.fieldsOf p) fun s f => if s.rd SYS_FSTAT.OFF f = 1 then s else s.wr SYS_FPACE.MV f s.floorMv

/-- A partition's transfers, moves, replays and waits in flight aborted (R79 step 2): entries being spilled return to
the state the spill began in. -/
def State.abortAll (s : State) (p : Nat) : State :=
  let mine := fun (f : Nat) => decide (s.partOf f = some p)
  let s := s.each (s.enginesOf p) fun s k => s.abortFlights k
  let s := s.onLedger fun l => { l with
    moves := l.moves.filter fun m => !mine m.f
    invoc := l.invoc.filter fun i => !mine i.f
    entries := Store.mapAll entry0 (fun k e => if mine (k / 65536) && decide (e.st = 4) then { e with st := e.from_, emerg := false } else e) l.entries }
  let s := s.onReplay fun r => { r with queue := r.queue.filter fun q => !mine q.1 }
  let s := s.onMem fun m => { m with flips := m.flips.filter fun r => r.part ≠ p }
  let s := s.each (s.dirPages p) fun s l => (s.dropCopy p l).dropMirror p l
  s.endHostWaits p

/-- The start epoch changes at an entry into LOADING, STOPPED or SAFE (R501). -/
def State.nextEpoch (s : State) (p : Nat) : State :=
  s.setPart p { s.part p with epoch := ((s.part p).epoch + 1) % 256 }

/-! ### The fault pins (R441-R445) -/

/-- The state field of a checker pair in GRD_CK_HEALTH. -/
def ckField (p : Nat) : Field :=
  if p = 0 then GRD_CK_HEALTH.STATE0 else if p = 1 then GRD_CK_HEALTH.STATE1
  else if p = 2 then GRD_CK_HEALTH.STATE2 else GRD_CK_HEALTH.STATE3

/-- Whether a partition's section declares guarded inference mode. -/
def State.declGuard (s : State) (p : Nat) : Bool := (s.sect p).any fun c => decide (c.mode = 2)

/-- Whether the conditions of R443 all hold. -/
def State.pinsFree (s : State) : Bool :=
  let g := (List.range 4).filter s.declGuard
  !g.isEmpty &&
  (g.all fun p => s.running p && s.rd GRD_INJ.DONE p = 1 && s.rd (ckField p) 0 ≠ 2) &&
  ((List.range 4).all fun p => s.rd GRD_TRIP.TRIP p = 0) &&
  s.rd GRD_PIN.MISMATCH 0 = 0 && s.rd SEC_STAT.ZEROIZED 0 = 0

/-- The commands of both pins brought in line with R443; a pin that follows its command reads back so. -/
def State.pins (s : State) : State :=
  let low := boolNat (!s.pinsFree)
  if s.rd GRD_PIN.A_CMD 0 = low ∧ s.rd GRD_PIN.B_CMD 0 = low then s
  else
    let s := (s.wr GRD_PIN.A_CMD 0 low).wr GRD_PIN.B_CMD 0 low
    (((s.wr GRD_PIN.A_READ 0 low).wr GRD_PIN.B_READ 0 low).emit (.pin 16 (low = 0))).emit (.pin 17 (low = 0))

/-! ### STOPPED -/

/-- The load runs of a partition end with LOAD_FAULT; the volume stays LOADING (R79, R127). -/
def State.endLoads (s : State) (p : Nat) : State :=
  if s.repo.runs.any fun r => decide (r.part = p) then
    let s := (s.onRepo fun r => { r with runs := r.runs.filter fun x => decide (x.part ≠ p) }).wr REPO_LOAD_STAT.RESULT p 7
    (s.log ⟨0x04, 0x83, 0xFF, 0xFF, 0, [p], 2, 0⟩).event REPO_EVT.LOAD_FAULT p p
  else s

/-- The versions of a partition's checkpoints all of whose pages still stand (R79, R81). -/
def State.keepCkpts (s : State) (p : Nat) : State :=
  s.onMem fun m => { m with ckpts := m.ckpts.filter fun c => decide (c.part ≠ p) ||
    (c.pages.all fun x => carriable (s.page x.2) && decide ((s.page x.2).part = p)) }

/-- A partition's sealed-region key destroyed (R379). -/
def State.dropKey (s : State) (p : Nat) : State := s.onSec fun c => { c with keys := Store.set 0 c.keys p 0 }

/-- The result of a partition command that has been PENDING (R73, R74), and vector 2 on the function it came through
(R362). -/
def State.finishCmd (s : State) (p res : Nat) : State :=
  match (s.part p).cmd with
  | 0 => s
  | n + 1 =>
    let x := n % 16 / 5
    let s := s.setPart p { s.part p with cmd := 0 }
    (((s.wr PAR_CMD_STAT.SEQ p (n / 16)).wr PAR_CMD_STAT.PORT p (x + 1)).wr PAR_CMD_STAT.RESULT p res).vector x (n % 16 % 5) 2

/-- The end of phase 11 of start-up (R405), once every formed partition has left OFF and LOADING. -/
def State.bootAdmit (s : State) : State :=
  if s.rd SYS_BOOT_STAT.PHASE 0 = 11 ∧ (List.range 4).all (fun q => decide (s.cols q = 0) || decide (stAdmitted ≤ s.pst q)) then
    (s.wr SYS_BOOT_PH.TICK 11 s.now).wr SYS_BOOT_STAT.PHASE 0 (if s.rd SYS_BOOT_PH.TICK 9 = 0 then 9 else 12)
  else s

/-- A partition leaves LOADING: its RESTART is answered OK or KEEP_DENIED (R81, R509), or one that arrived meanwhile is
carried out. -/
def State.leaveLoading (s : State) (p : Nat) : State :=
  let s := s.bootAdmit
  let t := s.part p
  match t.after with
  | 0 => ((s.wr PAR_STATE.BUSY p 0).finishCmd p (if t.denied then 6 else 0)).updPart p fun t => { t with denied := false }
  | n + 1 => (s.wr PAR_STATE.BUSY p 1).updPart p fun t => { t with next := 2, keep := decide (n = 1), after := 0, denied := false }

/-- A steward lease goes on once its partition leaves SUSPENDED (R366). -/
def State.leaseResume (s : State) (p : Nat) : State :=
  if s.pst p ≠ stSuspended then s
  else s.onHosts fun h =>
    let x := Store.get hsem0 h.sems p
    if x.holder = 0 then h
    else { h with sems := Store.set hsem0 h.sems p { x with start := x.start + (s.now - max x.start (s.part p).began) } }

/-- Entry into STOPPED with a cause (R79, R82). -/
def State.stopPart (s : State) (p cause : Nat) : State :=
  let was := s.pst p
  let s := (s.leaseResume p).log ⟨0x02, cause, 0xFF, 0xFF, 0, [p], 6, was⟩
  let s := s.setCopy p none
  let s := if s.rd (ckField p) 0 = 3 then s.wr (ckField p) 0 1 else s
  let s := s.endLoads p
  let s := if was = stLoading then s else
    let s := s.abortAll p
    let s := (((s.dropKey p).freeT2Pages p carriable).keepCkpts p)
    let s := s.onMem fun m => { m with dir := Store.mapAll dir0 (fun k d =>
      if k / 2 ^ 40 = p then { d with
        cur := d.cur.filter fun c => pageTier c ≠ 2
        pend := d.pend.filter fun c => pageTier c ≠ 2 } else d) m.dir }
    s.releaseBlocks p
  let s := s.updPart p fun t => { t with halting := false, held := true, save := 0, next := 0, frozen := true }
  let s := ((s.wr PAR_STATE.STATE p stStopped).wr PAR_STATE.CAUSE p cause).wr PAR_RECOV_STAT.PHASE p 0
  ((((s.nextEpoch p).toFloor p).leaveLoading p)).pins

end Sys2Proof.Machine
end

