-- ==== Sys2Proof/Machine/Guard.lean ====
section
/-! DEFINITION. Frames, verdicts, SAFE and the fault pins of a guarded partition (17_guard_checker.md,
18_guard_timing.md): the operations other families use. -/

namespace Sys2Proof.Machine

/-! ### Frames -/

/-- The open frames of a partition, oldest first. -/
def State.frames (s : State) (p : Nat) : List Frame := Store.get [] s.guard.frames p
/-- The open frames changed, and GRD_CK_STAT.OPEN with them. -/
def State.setFrames (s : State) (p : Nat) (l : List Frame) : State :=
  (s.onGuard fun g => { g with frames := Store.set [] g.frames p l }).wr GRD_CK_STAT.OPEN p l.length

/-- The CHECKER record of a partition. -/
def State.checker (s : State) (p : Nat) : Option Checker := (s.sect p).bind (·.checker)
/-- The GUARD record of a partition. -/
def State.guardRec (s : State) (p : Nat) : Option GuardRec := (s.sect p).bind (·.guard)

/-- Whether every SUMMARY and RESULT watch point has delivered its items for a frame (R428). -/
def complete (c : Checker) (f : Frame) : Bool :=
  c.points.zipIdx.all fun w => !(w.1.kind == 1 || w.1.kind == 3) ||
    decide (w.1.per ≤ (f.items.filter fun i => i.wp = w.2).length)

/-- JUDGE is called for the oldest open frame once it is complete, unmarked and not judged (R429). -/
def State.callJudge (s : State) (p : Nat) : State :=
  match s.frames p, s.checker p with
  | f :: r, some c =>
    if s.running p ∧ f.called = 0 ∧ f.mark = 0 ∧ f.judged.isNone ∧ complete c f then
      (s.setFrames p ({ f with called := s.now + 1 } :: r)).wr GRD_CK_STAT.STATE p 1
    else s
  | _, _ => s

/-- A cause presented for an open frame (R433, R454): a FAIL replaces a judgement that has not committed; STALE comes
after a judgement, or after another cause, and then has no effect. -/
def present (cause : Nat) (f : Frame) : Frame :=
  if f.mark ≠ 0 then f
  else if cause = 8 ∧ f.judged.isSome then f
  else { f with mark := cause, judged := none }

/-- A FAIL presented for every open frame that has no verdict. -/
def State.failFrames (s : State) (p cause : Nat) : State := s.setFrames p ((s.frames p).map (present cause))

/-! ### The result (R435) and the record (R434) -/

/-- A staging page allocated for a logical page, with its writer (R354, R435). -/
def State.allocStg (s : State) (p l : Nat) (w : Writer) : Option (State × Nat) :=
  match s.rangeOf p l with
  | some r =>
    (s.freePhys 2 (rangeField r (l - r.lbase))).map fun k =>
      let s := s.take k p l 4 poolStaging w
      (s.setDir p l { s.dir p l with cur := some k }, k)
  | none => none

/-- The header of a staging seal (R356). -/
def stgHdr (p f tag dtype now : Nat) : Hdr :=
  { tag := tag, stamp := now, ppart := p, pcore := 0xFF, pfield := f, cols := 16384 / dtypeBytes dtype, rows := 1, layout := 2, dtype := dtype }

/-- A word of a result page: its first `n` bytes of result, then bytes of which the spec states nothing (R435). -/
def resultWord (draw : Nat) (d : Word) (n w : Nat) : Word :=
  let k := 256 ^ min 8 (n - 8 * w)
  BitVec.ofNat 64 (d.toNat % k + (Config.resultTail draw w).toNat / k * k)

/-- The payload of a result page: RLEN bytes of the result's item (R435). -/
def resultTile (draw : Nat) (d : Store Word) (rlen : Nat) : Store Word :=
  (List.range 2048).foldl (fun m w => Store.set 0 m w (resultWord draw (Store.get 0 d w) rlen w)) []

/-- The result of a PASS delivered into its staging page, sealed by the guard die: none where the page is not FREE. -/
def State.deliver (s : State) (p : Nat) (c : Checker) (f : Frame) (j : Judged) : Option (State × Nat) :=
  match s.sect p with
  | none => none
  | some sec =>
    let i := c.rfirst + f.num % max 1 c.rpages
    let l := sec.stgBase + i
    if (s.dir p l).cur.isSome then none
    else (s.allocStg p l .guard).map fun a =>
      let data := ((f.items[j.ritem]?).map (·.data)).getD []
      let s := (a.1.setPayload (tileKey a.2 0) (resultTile a.1.fresh data j.rlen) false).used
      let s := s.setPage a.2 { s.page a.2 with written := 1 }
      (s.sealPage a.2 (some (stgHdr p (pageField a.2) f.num 7 s.now)), i)

/-- The result bytes of a judgement. -/
def resultBytes (f : Frame) (j : Judged) : List Nat :=
  (payloadBytes (((f.items[j.ritem]?).map (·.data)).getD [])).take j.rlen

/-- The fields of a verdict record (R434), before MAGIC and RCRC. -/
structure Verdict where
  part : Nat
  verdict : Nat
  cause : Nat
  testreq : Bool
  safe : Bool
  overrun : Bool
  wincnt : Nat
  rseq : Nat
  frame : Nat
  ingress : Nat
  vtick : Nat
  checks : Nat
  rpage : Nat
  rlen : Nat
  rdig : Nat
deriving DecidableEq, Repr

/-- A verdict record as a word of 512 bits (R434). -/
def verdictWord (v : Verdict) : Nat :=
  let b := 0x7EC4 + 2 ^ 16 + (v.part + v.verdict * 4) * 2 ^ 24 + v.cause * 2 ^ 32 +
    (boolNat v.testreq + 2 * boolNat v.safe + 4 * boolNat v.overrun) * 2 ^ 40 + v.wincnt % 256 * 2 ^ 48 +
    v.rseq % 2 ^ 32 * 2 ^ 64 + v.frame % 2 ^ 32 * 2 ^ 96 + v.ingress % 2 ^ 64 * 2 ^ 128 + v.vtick % 2 ^ 64 * 2 ^ 192 +
    min 0xFFFFFFFF (v.vtick - v.ingress) * 2 ^ 256 + v.checks % 2 ^ 32 * 2 ^ 288 + v.rpage % 2 ^ 32 * 2 ^ 320 +
    v.rlen * 2 ^ 352 + v.rdig * 2 ^ 384
  b + crc32c (bytesOf 60 b) * 2 ^ 480

/-- The cores that produced items, named by PFIELD and PCORE (R437). -/
def producers (f : Frame) (j : Option Judged) : List Nat :=
  let items := match j with
    | some j => if j.susp.isEmpty then f.items else j.susp.filterMap (f.items[·]?)
    | none => f.items
  ((items.filter fun i => hPcore i.hdr < 152).map fun i => coreKey (hPfield i.hdr) (hPcore i.hdr)).eraseDups

/-- The rotation of a core. -/
def State.ctest (s : State) (c : Nat) : CoreTest := Store.get test0 s.guard.tests c
/-- The rotation of a core changed. -/
def State.setTest (s : State) (c : Nat) (t : CoreTest) : State :=
  s.onGuard fun g => { g with tests := Store.set test0 g.tests c t }
/-- Whether a test segment holds a core (CORE_STAT.TEST). -/
def State.heldCore (s : State) (c : Nat) : Bool := decide ((s.ctest c).seg ≠ 0)

/-- An extra segment requested for a core (R437): requests before it starts are merged (R462). -/
def State.askExtra (s : State) (c : Nat) : State := s.setTest c { s.ctest c with due := true }

/-- Whether a cause counts as a disagreement (R433). -/
def disagrees (cause : Nat) : Bool := decide (1 ≤ cause) && decide (cause ≤ 4)

/-- Whether a task of a stage is in overrun (R455). -/
def State.overrun (s : State) (p stage : Nat) : Bool :=
  ((s.guardRec p).map fun r => r.tasks.zipIdx.any fun x => decide (x.1.stage = stage) && decide (s.rd GRD_TASK.OVER (p * 64 + x.2) = 1)).getD false

/-- The windows of the stages that a stage, or the ingress (0xFF), opens for a frame (R453); in an overrun of such a stage the
frame takes FAIL WDOG at the opening (R455). -/
def State.openWindows (s : State) (p prev frame : Nat) : State :=
  let ss := ((s.guardRec p).map fun r => (r.stages.zipIdx.filter fun x => decide (x.1.prev = prev)).map (·.2)).getD []
  let s := s.onGuard fun g => { g with windows := g.windows ++
    (ss.filter fun x => decide (s.rd GRD_STG.LAST (p * 16 + x) < frame)).map fun x => ⟨p, x, frame, s.now, true, false, false⟩ }
  if ss.any (s.overrun p) then s.setFrames p ((s.frames p).map fun f => if f.num = frame then present 6 f else f) else s

/-- The next ingress that waits opens its frame, and its signal is applied (R450). -/
def State.openWaiting (s : State) (p : Nat) : State :=
  if 4 ≤ (s.frames p).length then s
  else match s.guard.ingress.find? fun i => decide (i.part = p) with
    | none => s
    | some i =>
      let m := Store.get 0 s.guard.marks p
      let s := s.onGuard fun g => { g with ingress := g.ingress.filter (· ≠ i), marks := Store.set 0 g.marks p 0 }
      let s := s.setFrames p (s.frames p ++ [⟨i.frame, i.tick, [], 0, m, 0, none⟩])
      let src : Source := ⟨p, 0, 0, 62 + i.port, false⟩
      let r := s.sigObj i.obj i.n 0 src
      let s := r.1.bellDone (p + 1) i.slot r.2
      s.openWindows p 0xFF i.frame

/-- The pins asserted, and the checker's pair stopped, on entry into SAFE; first cause and causes recorded (R439). -/
def State.safeCause (s : State) (p cause : Nat) : State :=
  let s := s.on (decide (s.rd GRD_SAFE.FIRST p = 0)) fun s => s.wr GRD_SAFE.FIRST p cause
  s.wr GRD_SAFE.CAUSES p (s.rd GRD_SAFE.CAUSES p ||| 2 ^ cause)

/-- A verdict committed for a frame (R433-R438): result, record, vector 4, window; the frame closes. Without SAFE. -/
def State.commitRecord (s : State) (p : Nat) (f : Frame) (verdict cause : Nat) (safe : Bool) : State :=
  let j := f.judged
  let dl : Option (State × Nat × Judged) := match verdict, j, s.checker p with
    | 0, some j, some c => (s.deliver p c f j).map fun a => (a.1, a.2, j)
    | _, _, _ => none
  let overrun := decide (verdict = 0) && dl.isNone
  let s := match dl with
    | some a => a.1
    | none => s
  let bad := disagrees cause
  let win := (bad :: Store.get [] s.guard.win p).take (s.rd GRD_WIN.SPAN p)
  let cnt := (win.filter id).length
  let s := s.onGuard fun g => { g with win := Store.set [] g.win p win }
  let s := (s.wr GRD_WIN_STAT.FRAMES p win.length).wr GRD_WIN_STAT.COUNT p cnt
  let prod := if bad then producers f j else []
  let s := s.each prod fun s c => s.askExtra c
  let seq := s.rd GRD_VR_HEAD.RSEQ p + 1
  let word := verdictWord ⟨p, verdict, cause, !prod.isEmpty, safe || (bad && decide (s.rd GRD_WIN.THRESH p ≤ cnt)), overrun, cnt, seq,
    f.num, f.ingress, s.now, (j.map (·.checks)).getD 0, (dl.map (·.2.1)).getD 0xFFFFFFFF,
    (dl.map (·.2.2.rlen)).getD 0, (dl.map fun a => crc32c (resultBytes f a.2.2)).getD 0⟩
  let s := s.onGuard fun g => { g with records := Store.set 0 g.records (p * 256 + seq % 256) word }
  let s := (s.wr GRD_VR_HEAD.RSEQ p seq).wr GRD_JUDGED.FRAME p f.num
  let s := s.setFrames p ((s.frames p).filter fun x => x.num ≠ f.num)
  let s := s.onGuard fun g => { g with windows := g.windows.filter fun w => !(w.kicked && decide (w.part = p) && decide (w.frame = f.num)) }
  let s := if verdict = 1 then s.event GRD_EVT.SUSPECT p p else if verdict = 2 then s.event GRD_EVT.FAIL p p
    else if verdict = 3 then s.event GRD_EVT.STALE p p else s
  let s := s.on overrun fun s => s.event GRD_EVT.OVERRUN p p
  let s := s.each s.upPorts fun s x => s.vector x (p + 1) 4
  let s := (s.tally 2 p (0x20 + verdict) 1).trace 8 p 0 0xFF 0 [f.num, verdict, cause]
  let run := if (verdict = 2 ∧ (cause = 6 ∨ cause = 7)) ∨ verdict = 3 then s.rd GRD_TSTAT.RUNCNT p + 1 else 0
  s.wr GRD_TSTAT.RUNCNT p (min 15 run)

/-- Entry into SAFE with a cause (R439, R440): pins, the last FAIL record (R440 step 2; its cause where the frame carries
no FAIL cause is a free value), issue stopped and transfers aborted, the event. A later cause is only recorded. -/
def State.enterSafe (s : State) (p cause : Nat) (record : Bool) : State :=
  if s.pst p = stSafe then s.safeCause p cause
  else if !(s.running p && s.guarded p) then s
  else
    let s := ((s.safeCause p cause).wr PAR_STATE.STATE p stSafe).pins
    let s := match record, s.frames p with
      | true, f :: _ => s.commitRecord p { f with judged := none } 2 (if f.mark = 0 ∨ f.mark = 8 then Config.safeCause cause % 256 else f.mark) true
      | _, _ => s
    let s := (s.wr GRD_CK_STAT.STATE p 2).abortAll p
    let s := s.log ⟨0x0A, 0x83, 0x70, 0xC0 + p, 0, [p], 6, cause⟩
    (s.setPart p { s.part p with frozen := true, epoch := ((s.part p).epoch + 1) % 256 }).event GRD_EVT.SAFE p p

/-- A verdict committed with its consequences: the window (R438), the timing run (R456), the next frames. -/
def State.commitVerdict (s : State) (p : Nat) (f : Frame) (verdict cause : Nat) : State :=
  let s := s.commitRecord p f verdict cause false
  if s.rd GRD_WIN.THRESH p ≤ s.rd GRD_WIN_STAT.COUNT p ∧ disagrees cause then s.enterSafe p 1 false
  else if s.rd GRD_AGE.RUN p ≤ s.rd GRD_TSTAT.RUNCNT p ∧ s.rd GRD_TSTAT.RUNCNT p ≠ 0 then s.enterSafe p 7 true
  else ((s.wr GRD_CK_STAT.STATE p 0).openWaiting p).callJudge p

end Sys2Proof.Machine
end

