-- ==== Sys2Proof/Machine/Failing.lean ====
section
/-! DEFINITION. Failed units and what they start (19_failures.md R477-R483): the halt of a partition, its recovery up to
the abort, failed cores, fields and towers. -/

namespace Sys2Proof.Machine

/-! ### Halts (R479) -/

/-- Issue stops at once in every core of a partition, and its transfers are aborted (R479 step 3, R483 step 2). -/
def State.freeze (s : State) (p next : Nat) : State :=
  let s := s.abortAll p
  s.setPart p { s.part p with frozen := true, halting := false, next := next }

/-- Whether every fence group of a partition has stopped. -/
def State.allStopped (s : State) (p : Nat) : Bool :=
  ((s.sect p).map (·.fence)).getD [] |>.all fun g => (s.part p).stopped.contains g.g

/-- A halt goes on to its abort once every group has stopped (R479). -/
def State.checkHalt (s : State) (p : Nat) : State :=
  if (s.part p).halting && s.allStopped p then s.freeze p 1 else s

/-- A fence group stops (R479 step 2). -/
def State.stopGroup (s : State) (p g : Nat) : State :=
  if (s.part p).stopped.contains g then s
  else s.setPart p { s.part p with stopped := g :: (s.part p).stopped }

/-- The groups of a partition that include a core satisfying a test. -/
def State.groupsWith (s : State) (p : Nat) (t : Nat → Nat → Bool) : List Nat :=
  ((((s.sect p).map (·.fence)).getD []).filter fun g => g.members.any fun m => t m.f m.m).map (·.g)

/-- A halt begins in a RUNNING partition, or a failure joins the recovery already ordered. -/
def State.beginHalt (s : State) (p last : Nat) (hit : Nat → Nat → Bool) : State :=
  let s := s.wr PAR_RECOV_STAT.LAST p last
  if (s.part p).next ≠ 0 then s
  else if s.guarded p then
    let s := ((s.failFrames p 5).wr PAR_STATE.BUSY p 1).wr PAR_RECOV_STAT.PHASE p 1
    s.freeze p 1
  else
    let s := s.each (s.groupsWith p hit) fun s g => s.stopGroup p g
    let s := if (s.part p).halting then s
      else ((s.setPart p { s.part p with halting := true, began := s.now }).wr PAR_STATE.BUSY p 1).wr PAR_RECOV_STAT.PHASE p 1
    s.checkHalt p

/-- A unit failure reaches a partition (R477, R479, R483, and the edges of chapters 03 and 19): RUNNING halts; SUSPENDED
is recorded until RESUME; ADMITTED is re-admitted in place by the next ADMIT. -/
def State.unitFail (s : State) (p last : Nat) (hit : Nat → Nat → Bool) : State :=
  let s := s.event PAR_RECOV_EVT.UNIT_FAIL p p
  if s.pst p = stRunning then s.beginHalt p last hit
  else if s.pst p = stSuspended then s.setPart p { s.part p with recover := true }
  else if s.pst p = stAdmitted then s.setPart p { s.part p with next := 3 }
  else s

/-- A LOST entry of a partition (R482, R483): recovery without a remap; only reported where LOST_ACT is 0. -/
def State.lostRecovery (s : State) (p : Nat) : State :=
  if s.running p ∧ (s.guarded p ∨ s.rd PAR_RECOV_CTL.LOST_ACT p = 1) then s.beginHalt p 4 fun _ _ => false else s

/-! ### Failed units (R477, R480) -/

/-- The physical core that holds a mapped number. -/
def State.phys (s : State) (c : Nat) : Option Nat :=
  match Store.get 0 s.wafer.cmap c with
  | 0 => none
  | n + 1 => some n

/-- Whether a physical core is a spare: good and not mapped (R33). -/
def State.isSpare (s : State) (f y : Nat) : Bool :=
  !Store.get false s.wafer.bad (f * 160 + y) && !((List.range 152).any fun m => s.phys (coreKey f m) = some y)

/-- A field is failed (R475): its cores, engines and Residency Engine accept nothing. `cond` is DETAIL of R491. -/
def State.failField (s : State) (f cond : Nat) : State :=
  if s.fieldFailed f then s
  else
    let s := s.wr PAR_FFAIL.FIELDS 0 (s.rd PAR_FFAIL.FIELDS 0 + 2 ^ f)
    let s := s.log ⟨0x00, 0x41, f, 0xFE, 0, (s.partOf f).toList, 5, cond⟩
    match s.partOf f with
    | none => s
    | some p =>
      let s := s.each ((List.range 608).map fun i => engKey f 0 0 + i) fun s k => if (s.engine k).flight.isEmpty then s else s.abortFlights k
      let s := s.each ((List.range 16).map (shelfKey f)) fun s k => if (s.engine k).flight.isEmpty then s else s.abortFlights k
      s.unitFail p 2 fun f' _ => decide (f' = f)

/-- The READY and PARKED threads of a core enter HELD (R156, R157). -/
def State.holdThreads (s : State) (c : Nat) : State :=
  s.each (List.range 32) fun s t =>
    let k := c * 32 + t
    let th := s.thread k
    if th.st = .ready ∨ th.st = .parked then s.setThread k { th with st := .held, prev := th.st } else s

/-- The HELD threads of a core return to the state they had before (R157). -/
def State.freeThreads (s : State) (c : Nat) : State :=
  s.each (List.range 32) fun s t =>
    let k := c * 32 + t
    let th := s.thread k
    if th.st = .held then s.setThread k { th with st := th.prev, prev := .idle } else s

/-- A mapped number moves to the lowest-numbered spare of its field, with all it holds (R480, R159); a field without one
becomes SHORT and is failed (R34). -/
def State.remap (s : State) (c : Nat) : State :=
  let f := c / 152
  match (List.range 160).find? (s.isSpare f) with
  | some y =>
    let s := s.onWafer fun w => { w with cmap := Store.set 0 w.cmap c (y + 1) }
    let s := (s.wr SYS_FSTAT.GOOD f (s.rd SYS_FSTAT.GOOD f - 1)).wr SYS_FSTAT.SPARES f (s.rd SYS_FSTAT.SPARES f - 1)
    s.log ⟨0x00, 0x45, f, c % 152, 0, (s.partOf f).toList, 4, y⟩
  | none => ((s.wr SYS_FSTAT.GOOD f (s.rd SYS_FSTAT.GOOD f - 1)).wr SYS_FSTAT.SHORT f 1).failField f 5

/-- The remaps that a partition's failed cores wait for (R480); a field that has failed since needs none. -/
def State.remapLost (s : State) (p : Nat) (l : List Nat) : State :=
  let s := s.each l fun s c => if decide (64 ≤ c / 152) || decide (s.partOf (c / 152) ≠ some p) || s.fieldFailed (c / 152) then s else s.remap c
  s.updPart p fun t => { t with lost := [] }

/-- A core is failed (R477): it is held for good and its transfers abort. Its number moves to a spare (R480): after the halt of a
partition that runs, at the recovery of one that is SUSPENDED, else at once. -/
def State.failCore (s : State) (c cond : Nat) : State :=
  let f := c / 152
  match s.phys c with
  | none => s
  | some y =>
    if Store.get false s.wafer.bad (f * 160 + y) then s
    else
      let s := s.onWafer fun w => { w with bad := Store.set false w.bad (f * 160 + y) true }
      let s := s.log ⟨0x00, 0x40, f, c % 152, 0, (s.partOf f).toList, 5, cond⟩
      let s := s.holdThreads c
      let s := s.each (List.range 4) fun s e => if (s.engine (c * 4 + e)).flight.isEmpty then s else s.abortFlights (c * 4 + e)
      match s.partOf f with
      | none => s.remap c
      | some p =>
        let s := if s.running p ∨ s.pst p = stSuspended then s.setPart p { s.part p with lost := (s.part p).lost ++ [c] } else s.remap c
        s.unitFail p 1 fun f' m => decide (coreKey f' m = c)

/-- The tile of a T2 page that lies on a tower, for the working towers at the time (R99). -/
def tileOn (ws : List Nat) (idx w : Nat) : List Nat :=
  (List.range 4).filter fun t => decide (ws[(idx + t) % max 1 ws.length]? = some w)

/-- A tower is failed (R477): every T2 page of its field loses the tile that lies on it, and reads of it end ECC_UE. -/
def State.failTower (s : State) (f w cond : Nat) : State :=
  if s.towerFailed f w then s
  else
    let ws := s.towers f
    let s := s.wr PAR_TFAIL.TOWERS 0 (s.rd PAR_TFAIL.TOWERS 0 + 2 ^ (f * 4 + w))
    let s := s.log ⟨0x00, 0x42, f, 0xF0 + w, 0, (s.partOf f).toList, 5, cond⟩
    let s := s.each (s.mem.pages.filter fun e => decide (e.1 / 2 ^ 40 = 2 * 64 + f) && decide (e.2.st ≠ .free)) fun s e =>
      s.each (tileOn ws (pageIdx e.1) w) fun s t =>
        let k := tileWord (tileKey e.1 t) 0
        s.setWord k { s.word k with poison := true }
    match s.partOf f with
    | none => s
    | some p => s.unitFail p 3 fun _ _ => false

end Sys2Proof.Machine
end

