-- ==== Sys2Proof/Machine/LedgerOps.lean ====
section
/-! DEFINITION. The Residency Engine's operations (09_ledger.md, 10_policy_fetchback.md): entries and their pages,
positions and leads, moves, emergency spill, call slips, retirement. -/

namespace Sys2Proof.Machine

/-! ### Handles (R225) -/

/-- A tensor handle. -/
def handleOf (p f n g : Nat) : Nat := p * 2 ^ 30 + f * 2 ^ 24 + n * 2 ^ 8 + g
/-- Partition of a handle. -/
def hndPart (h : Nat) : Nat := bits h 31 30
/-- Field of a handle. -/
def hndField (h : Nat) : Nat := bits h 29 24
/-- Entry of a handle. -/
def hndEntry (h : Nat) : Nat := bits h 23 8
/-- Generation of a handle. -/
def hndGen (h : Nat) : Nat := bits h 7 0
/-- The partition whose Ledger a field holds. -/
def State.entPart (s : State) (f : Nat) : Nat := (s.partOf f).getD 0
/-- The present handle of an entry. -/
def State.handle (s : State) (f n : Nat) : Nat := handleOf (s.entPart f) f n (s.entry f n).gen

/-! ### Records and events -/

/-- An event of a field's Ledger, sent to the steward host. -/
def State.ldgEvt (s : State) (ev : Field) (f : Nat) : State := s.event ev f (s.entPart f)

/-- LDG_FLT and the fault log. -/
def State.ldgFlt (s : State) (f n code tcode : Nat) : State :=
  let s := s.log ⟨0x05, code, f, 0xFF, 0, [s.entPart f], 2, s.handle f n⟩
  let s := if s.rd LDG_FLT.VALID f = 1 then s.wr LDG_FLT.OVER f 1 else s
  ((((s.wr LDG_FLT.VALID f 1).wr LDG_FLT.CODE f code).wr LDG_FLT.ENTRY f n).wr LDG_FLT.GEN f (s.entry f n).gen).wr
    LDG_FLT.TCODE f tcode

/-- An entry changes state (R239): LAST_TK and the trace record with it. -/
def State.toSt (s : State) (f n st : Nat) (g : Entry → Entry) : State :=
  let e := s.entry f n
  let e' := g e
  (s.setEntry f n { e' with st := st, lastTk := s.now % 2 ^ 64 }).trace 2 (s.entPart f) f 0xFF 0
    [s.handle f n, e.st, st, e'.action]

/-- An action carried out: the entry's ACTION and the field's counter. -/
def State.act (s : State) (f n a : Nat) : State := (s.setEntry f n { s.entry f n with action := a }).tally 1 f (0x20 + a) 1

/-! ### Budget and marks (R247) -/

/-- Ledger T1 budget of a field. -/
def State.ldgBudget (s : State) (f : Nat) : Nat := (s.fplan (s.entPart f) f).t1ldg
/-- Ledger T1 use of a field. -/
def State.ldgUsed (s : State) (f : Nat) : Nat := s.usedT1 f poolLedger
/-- The high mark. -/
def State.highMark (s : State) (f : Nat) : Nat := s.ldgBudget f * s.rd PAR_WMARK.HIGH (s.entPart f) / 100
/-- The low mark. -/
def State.lowMark (s : State) (f : Nat) : Nat := s.ldgBudget f * s.rd PAR_WMARK.LOW (s.entPart f) / 100
/-- Spill reserve pages of a field in use (R65). -/
def State.rsvUsed (s : State) (f : Nat) : Nat := s.countPages 2 f fun g => decide (g.pool = poolSpill)

/-! ### Positions (R238, R265) -/

/-- The lane of an entry, as LDG_PROG and LDG_EST_TF count it. -/
def laneIdx (f : Nat) (e : Entry) : Nat := progKey f e.grp e.lane

/-- Signed fence distance to NEED: the largest where none is set. -/
def State.distF (s : State) (f n : Nat) : Int :=
  let e := s.entry f n
  if e.needF = 0xFFFF then 2 ^ 31 - 1
  else
    let d := (e.needF + 65536 - s.rd LDG_PROG.FENCE (laneIdx f e)) % 65536
    if 32768 ≤ d then (d : Int) - 65536 else d

/-- An entry's distance (R238): its NEED position less the lane's present position. -/
def State.distance (s : State) (f n : Nat) : Int :=
  let e := s.entry f n
  if e.needF = 0xFFFF then 2 ^ 40
  else s.distF f n * 65536 + (e.needM : Int) - s.rd LDG_PROG.MARK (laneIdx f e)

/-- The largest and smallest 32-bit signed numbers. -/
def i32max : Int := 2147483647
def i32min : Int := -2147483648
/-- Saturation at 32 bits (R258). -/
def sat32 (x : Int) : Int := if i32max < x then i32max else if x < i32min then i32min else x

/-- Time to need in ticks (R265). -/
def State.ttn (s : State) (f n : Nat) : Int :=
  let e := s.entry f n
  if e.needF = 0xFFFF then i32max
  else
    let tf := s.rd LDG_EST_TF.TICKS (laneIdx f e)
    let el := s.now - Store.get 0 s.ledger.fenceAt (laneIdx f e)
    let here := max (s.rd LDG_PROG.MARK (laneIdx f e)) (min (el * 65536 / max 1 tf) 65535)
    sat32 (s.distF f n * tf + Int.fdiv (((e.needM : Int) - here) * tf) 65536)

/-! ### Slots, spans and replayability (R273, R287) -/

/-- The span table's record of a span of a field's partition. -/
def State.spanDef (s : State) (f sid : Nat) : Option SpanDef :=
  (s.sect (s.entPart f)).bind fun c => c.spans.find? (·.sid = sid)

/-- Whether a slot is replayable, looking at most `d` spans deep (R287). -/
def State.replayableAt (s : State) : Nat → Nat → Nat → Bool
  | 0, _, _ => false
  | d + 1, f, n =>
    let t := s.slot f n
    decide (t.st = 2) && !t.broken && !t.stale && !s.fieldFailed f &&
    ((s.spanDef f t.sid).any fun r => r.parts.all fun x => (s.phys (coreKey f x.core)).any fun y =>
      !Store.get false s.wafer.bad (f * 160 + y)) &&
    t.ins.all fun h =>
      let e := s.entry (hndField h) (hndEntry h)
      decide (e.gen = hndGen h) && decide (e.st ≠ 0) && decide (e.deps < 255) &&
      (decide (e.st ≠ 6) || (decide (e.span ≠ 0xFFFF) && s.replayableAt d (hndField h) e.span))

/-- Whether an entry's span is replayable. -/
def State.replayable (s : State) (f n : Nat) : Bool :=
  decide ((s.entry f n).span ≠ 0xFFFF) && s.replayableAt 4 f (s.entry f n).span

/-- The handles of an entry's span inputs. -/
def State.inputs (s : State) (f n : Nat) : List Nat :=
  if (s.entry f n).span = 0xFFFF then [] else (s.slot f (s.entry f n).span).ins

/-- Whether an input is READY or RESIDENT. -/
def State.inputReady (s : State) (h : Nat) : Bool :=
  let st := (s.entry (hndField h) (hndEntry h)).st
  decide (st = 9) || decide (st = 2)

/-! ### Pages of an entry (R229) -/

/-- Class ACTIVATION (R89). -/
def clsAct : Nat := 3

/-- A Ledger T1 page for a logical page: none where the budget is used up. -/
def State.allocLdg (s : State) (p f l : Nat) : Option State :=
  if s.ldgBudget f ≤ s.ldgUsed f then none
  else (s.freePhys 1 f).map fun k =>
    ((s.setPage k ⟨.sealed, clsAct, p, l, poolLedger, .none, 0, 0, 0, false, false⟩).setDir p l
      { s.dir p l with cur := some k }).used

/-- Ledger T1 pages for `n` logical pages from `l`: none, and nothing taken, where the budget is short. -/
def State.allocRun (s : State) (p f l n : Nat) : Option State :=
  if s.ldgBudget f < s.ldgUsed f + n then none
  else (List.range n).foldl (fun o i => o.bind fun s => s.allocLdg p f (l + i)) (some s)

/-- A physical page freed: at once, or once its reads have landed (R95). -/
def State.freePg (s : State) (k : Nat) : State :=
  if (s.page k).readers = 0 then s.freeNow k else s.setPage k { s.page k with st := .freeing }

/-- The page behind a logical page freed, and the pending one with it. -/
def State.dropLog (s : State) (p l : Nat) : State :=
  let d := s.dir p l
  let s := s.setDir p l { d with cur := none, pend := none }
  let s := match d.cur with | some k => s.freePg k | none => s
  match d.pend with | some k => s.freePg k | none => s

/-- The plain-form pages of an entry freed. -/
def State.freePlain (s : State) (f n : Nat) : State :=
  let e := s.entry f n
  s.each (List.range (pagesFor e.tiles)) fun s i => s.dropLog (s.entPart f) (e.lpage + i)

/-- The moved-form pages of an entry freed. -/
def State.freeMoved (s : State) (f n : Nat) : State :=
  let e := s.entry f n
  s.each (List.range e.spages) fun s i => s.dropLog (s.entPart f) (e.spage + i)

/-- The T2 page among those behind a moved-form logical page. -/
def State.spillPg (s : State) (p l : Nat) : Option Nat :=
  let d := s.dir p l
  match d.pend with
  | some k => some k
  | none => d.cur.filter fun k => decide (pageTier k = 2)

/-- The fresh T2 pages of a spill freed (R251): INVALID, then free. -/
def State.freeSpill (s : State) (f n : Nat) : State :=
  let e := s.entry f n
  let p := s.entPart f
  s.each (List.range e.spages) fun s i =>
    match s.spillPg p (e.spage + i) with
    | none => s
    | some k =>
      let d := s.dir p (e.spage + i)
      let s := s.setDir p (e.spage + i) (if d.pend = some k then { d with pend := none } else { d with cur := none })
      s.freePg k

/-- The coding table of an entry freed (R300). -/
def State.freeTable (s : State) (f n : Nat) : State :=
  let k := f * 256 + (s.entry f n).ctab
  let r := Store.get 0 s.ledger.tables k
  if bits r 63 48 = n ∧ bits r 47 40 = (s.entry f n).gen ∧ r ≠ 0 then
    s.onLedger fun l => { l with tables := Store.set 0 l.tables k 0 }
  else s

/-- Runs of the spill range that are taken: moved forms, and pages kept for presses under way. -/
def State.takenRuns (s : State) (f : Nat) : List (Nat × Nat) :=
  ((s.ledger.entries.filter fun e => decide (e.1 / 65536 = f) && decide (e.2.spages ≠ 0)).map fun e => (e.2.spage, e.2.spages)) ++
  ((s.ledger.moves.filter fun m => decide (m.f = f) && decide (m.kind = .press) && m.started).map fun m =>
    (m.page, pagesFor (s.entry f m.n).tiles))

/-- A free run of logical pages of a field's spill range. -/
def State.spillRun (s : State) (f n : Nat) : Option Nat :=
  let r := s.fplan (s.entPart f) f
  let t := s.takenRuns f
  ((r.sbase :: t.map fun x => x.1 + x.2).filter fun l => decide (r.sbase ≤ l) && decide (l + n ≤ r.sbase + r.spages) &&
    t.all fun x => decide (l + n ≤ x.1) || decide (x.1 + x.2 ≤ l)).min?

/-! ### Moves (R243) -/

/-- Whether a move belongs to an entry. -/
def moveOf (f n : Nat) (m : Move) : Bool := decide (m.f = f) && decide (m.n = n)

/-- A move queued. -/
def State.queueMove (s : State) (f n : Nat) (k : MoveKind) (codec demand : Bool) (tiles : Nat) : State :=
  s.onLedger fun l => { l with moves := l.moves ++ [⟨f, n, k, false, codec, tiles, tiles, s.now, demand, 0, 0, 0⟩] }

/-- The move of an entry abandoned: its shelf descriptors and tiles in flight end with no effect (R245, R498). -/
def State.abortMove (s : State) (f n : Nat) : State :=
  let s := match s.ledger.moves.find? fun m => moveOf f n m && decide (m.kind = .press) && m.started with
    | none => s
    | some m =>
      let s := s.each (List.range (pagesFor (s.entry f n).tiles)) fun s i => s.dropLog (s.entPart f) (m.page + i)
      s.onLedger fun l => { l with tables := Store.set 0 l.tables (f * 256 + m.table) 0 }
  let s := s.onLedger fun l => { l with moves := l.moves.filter fun m => !moveOf f n m }
  s.each ((List.range 16).map (shelfKey f)) fun s k =>
    let e := s.engine k
    if e.work.any fun w => decide (w.slot = n) then
      let s := s.each (e.flight.filter fun x => decide (x.slot = n) && decide (x.st ≠ .landed)) fun s x =>
        match x.rpage with | some r => s.readEnd r | none => s
      s.setEngine k { e with
        work := e.work.filter fun w => decide (w.slot ≠ n)
        flight := e.flight.filter fun x => decide (x.slot ≠ n)
        halt := if (e.flight.any fun x => decide (x.slot = n) && decide (x.st = .failed)) || (e.work.head?.any fun w => decide (w.slot = n)) then none else e.halt }
    else s

/-- Parked LDG.USEs of an entry end with a status; engines that wait for it go on. -/
def State.serveEntry (s : State) (f n status : Nat) : State :=
  let s := s.each (s.sync.parks.filter fun pk => decide (pk.tgt = .entry f n)) fun s pk => s.finish pk status
  s.each (s.cores.engines.filter fun e => decide (e.2.wait = .entry f n)) fun s e =>
    s.setEngine e.1 { s.engine e.1 with wait := .none }

/-- A word of a class record (R256). -/
def State.clsWord (s : State) (f c w : Nat) : Nat :=
  ((s.plan (s.entPart f)).bind fun p => (p.pclass[c]?).bind fun r => r[w]?).getD 0

/-- An entry becomes READY (R269): its waiters go on, and a late use raises its class's boost. -/
def State.ready (s : State) (f n : Nat) : State :=
  let e := s.entry f n
  let s := s.toSt f n 9 fun e => { e with lateAt := 0 }
  let s := if e.lateAt = 0 then s else
    let mx := s.clsWord f e.cls 3
    let b := min (s.rd LDG_BOOST.TICKS (f * 64 + e.cls) + (s.now + 1 - e.lateAt)) mx
    let s := s.wr LDG_BOOST.TICKS (f * 64 + e.cls) b
    s.on (decide (b = mx)) fun s => s.ldgEvt LDG_POL_EVT.LATE_ESC f
  s.serveEntry f n 0

/-- An entry becomes RESIDENT. -/
def State.resident (s : State) (f n : Nat) : State := (s.toSt f n 2 id).serveEntry f n 0

/-! ### Lead (R266) -/

/-- A division rounded up. -/
def cdiv (a b : Nat) : Nat := (a + b - 1) / b

/-- Stored tiles of an entry's moved form. -/
def storedTiles (e : Entry) : Nat := if e.stiles = 0 then e.tiles else e.stiles

/-- Whether an entry's form beside the plain one is pressed. -/
def pressedForm (e : Entry) : Bool := decide (e.st = 3) || (decide (e.stiles ≠ 0) && (decide (e.st = 5) || decide (e.st = 4) || decide (e.st = 7)))

/-- X and D of an entry (R266). -/
def State.leadXD (s : State) (f n : Nat) : Nat :=
  let e := s.entry f n
  let x := if e.st = 4 ∨ e.st = 5 then cdiv (e.spages * 65536 * 1000) (max 1 (s.rd LDG_EST.T2R f)) else 0
  let d := if pressedForm e then cdiv (e.tiles * 16384 * 1000) (max 1 (s.rd LDG_EST.DEC f)) else 0
  x + d

/-- P of an entry (R266), along dropped inputs at most `d` deep. -/
def State.leadP (s : State) : Nat → Nat → Nat → Nat
  | 0, _, _ => 0
  | d + 1, f, n =>
    let e := s.entry f n
    if e.st ≠ 6 then 0
    else
      let own := cdiv ((s.slot f e.span).spanTk * (s.clsWord f e.cls 2 % 65536)) 256
      own + ((s.inputs f n).map fun h => if s.inputReady h then 0 else
        s.leadXD (hndField h) (hndEntry h) + s.leadP d (hndField h) (hndEntry h)).sum

/-- Stored tiles of call slips and input fetches queued and not started (LDG_SLIPQ). -/
def State.slipQ (s : State) (f : Nat) : Nat :=
  ((s.ledger.moves.filter fun m => decide (m.f = f) && !m.started && (decide (m.kind = .slip) || decide (m.kind = .input))).map (·.total)).sum

/-- The lead of an entry (R266). -/
def State.lead (s : State) (f n : Nat) : Nat :=
  let e := s.entry f n
  let q := cdiv (s.slipQ f * 16384 * 1000) (max 1 (s.rd LDG_EST.T2R f))
  min 2147483647 (q + s.leadXD f n + s.leadP 4 f n + s.clsWord f e.cls 1 + s.rd LDG_BOOST.TICKS (f * 64 + e.cls))

/-! ### Call slips (R268) -/

/-- A call slip issued, on an entry and along its dropped inputs (R268). -/
def State.slipAt : Nat → Nat → Nat → Bool → Bool → State → State
  | 0, _, _, _, _, s => s
  | d + 1, f, n, demand, input, s =>
    let e := s.entry f n
    if e.slip || [0, 7, 8, 9].contains e.st then s
    else
      let s := s.trace 3 (s.entPart f) f 0xFF 0 [s.handle f n, (s.ttn f n).toNat, s.lead f n]
      let s := s.setEntry f n { e with slip := true }
      let s := s.on input fun s => s.tally 1 f 0x33 1
      let kind : MoveKind := if input then .input else .slip
      if e.st = 1 then
        (if decide (e.tiles ≤ ((List.range e.tiles).filter (bit e.landed)).length) then
          (((s.abortMove f n).onLedger fun l => { l with invoc := l.invoc.filter fun i => !(decide (i.f = f) && decide (i.n = n)) }).act f n 4).ready f n
        else s)
      else if e.st = 2 then ((s.abortMove f n).act f n 4).ready f n
      else if e.st = 3 ∨ e.st = 5 then s.queueMove f n kind (e.stiles ≠ 0) demand (storedTiles e)
      else if e.st = 4 then
        let s := (s.abortMove f n).freeSpill f n
        if e.from_ = 3 then
          (s.toSt f n 3 id).queueMove f n kind true demand (storedTiles e)
        else ((s.setEntry f n { s.entry f n with spage := 0, spages := 0 }).act f n 4).ready f n
      else
        s.each (s.inputs f n) fun s h => if s.inputReady h then s else slipAt d (hndField h) (hndEntry h) demand true s

/-- A call slip. -/
def State.slip (s : State) (f n : Nat) (demand : Bool) : State := State.slipAt 4 f n demand false s

/-- A late use (R269): LATE, the class, and a demand slip where none is in force. -/
def State.lateUse (s : State) (f n : Nat) : State :=
  let e := s.entry f n
  let s := s.setEntry f n { e with late := true, lateAt := if e.lateAt = 0 then s.now + 1 else e.lateAt }
  let s := (s.tally 1 f 0x2A 1).onLedger fun l => { l with lateCls := Store.set false l.lateCls (f * 64 + e.cls) true }
  if e.slip then s else (s.tally 1 f 0x29 1).slip f n true

/-! ### Retirement (R244, R245, R252) -/

/-- A slot becomes FREE, and a replay queued for it is discarded (R284). -/
def State.freeSlot (s : State) (f n : Nat) : State :=
  s.onReplay fun r => { r with
    slots := Store.set slot0 r.slots (slotKey f n) slot0
    queue := r.queue.filter (· ≠ (f, n)) }

/-- An output of a slot retires (R284). -/
def State.outGone (s : State) (f sl h : Nat) : State :=
  let t := s.slot f sl
  if sl < 4096 ∧ t.outs.contains h then
    let t := { t with live := t.live - 1 }
    if t.live = 0 ∧ (t.st = 2 ∨ (t.st = 3 ∧ !t.going)) then s.freeSlot f sl else s.setSlot f sl t
  else s

/-- An entry retires: everything it holds is freed, and inputs that only it kept retire with it. -/
def State.retireAt : Nat → Nat → Nat → Bool → State → State
  | 0, _, _, _, s => s
  | d + 1, f, n, lost, s =>
    let e := s.entry f n
    if e.st = 0 then s
    else
      let h := s.handle f n
      let ins := if e.st = 6 ∨ e.st = 8 then s.inputs f n else []
      let s := (((s.abortMove f n).freeTable f n).freePlain f n).freeMoved f n
      let s := s.toSt f n 0 fun e => { e with users := 0, slip := false, lost := lost, spage := 0, spages := 0 }
      let s := s.onLedger fun l => { l with
        invoc := l.invoc.filter fun i => !(decide (i.f = f) && decide (i.n = n))
        told := Store.set false (Store.set false l.told (f * 2) false) (f * 2 + 1) false }
      let s := (s.serveEntry f n (if lost then 0xF else 0xC)).outGone f e.span h
      s.each ins fun s i =>
        let fi := hndField i
        let ni := hndEntry i
        let x := s.entry fi ni
        let s := s.setEntry fi ni { x with deps := x.deps - 1 }
        if x.deps ≤ 1 ∧ x.uses = 0 ∧ x.st ≠ 0 then retireAt d fi ni false (s.act fi ni 6) else s

/-- Deaccession of an entry whose USES and DEPS are 0 (R244). -/
def State.deaccess (s : State) (f n : Nat) : State :=
  let e := s.entry f n
  if e.st ≠ 0 ∧ e.uses = 0 ∧ e.deps = 0 then State.retireAt 5 f n false (s.act f n 6) else s

/-- DEPS of an entry's span inputs raised or lowered. -/
def State.depInputs (s : State) (f n : Nat) (up : Bool) : State :=
  s.each (s.inputs f n) fun s h =>
    let x := s.entry (hndField h) (hndEntry h)
    if up then s.setEntry (hndField h) (hndEntry h) { x with deps := x.deps + 1 }
    else (s.setEntry (hndField h) (hndEntry h) { x with deps := x.deps - 1 }).deaccess (hndField h) (hndEntry h)

/-- An entry is LOST (R252, R290): waiting engines halt with a code, it retires with LOST set, and the partition
recovers as R482 and R483 decide. -/
def State.lose (s : State) (f n code : Nat) : State :=
  let e := s.entry f n
  let s := s.each (s.cores.engines.filter fun x => decide (x.2.wait = .entry f n)) fun s x =>
    let s := s.setEngine x.1 { s.engine x.1 with wait := .none }
    (s.haltEngine x.1 code e.lpage).tierFlt (s.entPart f) f (streamNo x.1) code e.lpage
  let s := (s.ldgFlt f n 3 code).ldgEvt LDG_EVT.LOST f
  (State.retireAt 5 f n true s).lostRecovery (s.entPart f)

/-- A replay of a slot queued (R288), unless one waits already. -/
def State.queueReplay (s : State) (f n : Nat) : State :=
  if s.replay.queue.contains (f, n) then s
  else (s.setSlot f n { s.slot f n with since := s.now }).onReplay fun r => { r with queue := r.queue ++ [(f, n)] }

/-- A fetch has failed (R252): the entry is replayed where its span allows, else LOST. -/
def State.fetchFail (s : State) (f n code : Nat) : State :=
  if s.replayable f n then
    let s := ((s.ldgFlt f n 2 code).ldgEvt LDG_EVT.FETCH_FAIL f).abortMove f n
    let s := (s.freeTable f n).freeMoved f n
    let s := (s.depInputs f n true).toSt f n 8 fun e => { e with spage := 0, spages := 0, stiles := 0, landed := 0 }
    let s := s.act f n 5
    let s := s.each (s.inputs f n) fun s h => if s.inputReady h then s else
      State.slipAt 4 (hndField h) (hndEntry h) true true s
    s.queueReplay f (s.entry f n).span
  else s.lose f n code

/-! ### Spills (R239, R248, R249, R251) -/

/-- The T2 pages of a spill allocated as far as there are any: from the reserve in an emergency, else declared T2. -/
def State.spillPages (s : State) (p f l n : Nat) (emerg pressed : Bool) : State :=
  s.each (List.range n) fun s i =>
    let put := fun (s : State) (k : Nat) =>
      let d := s.dir p (l + i)
      s.setDir p (l + i) (if pressed then { d with pend := some k } else { d with cur := some k })
    if emerg then match s.freePhys 2 f with
      | some k => put (s.take k p (l + i) clsAct poolSpill .none) k
      | none => s
    else match s.allocT2 p f (l + i) clsAct .none with
      | some a => put a.1 a.2
      | none => s

/-- An entry enters SPILLING (R239): its press is abandoned, its T2 pages are drawn, its move is queued. A spill range
without a run of pages long enough leaves it where it is. -/
def State.startSpill (s : State) (f n : Nat) (emerg : Bool) : State :=
  let s := s.abortMove f n
  let e := s.entry f n
  let p := s.entPart f
  let pressed := decide (e.st = 3)
  let tiles := if pressed then e.stiles else e.tiles
  match (if pressed then some e.spage else s.spillRun f (pagesFor tiles)) with
  | none => s
  | some l =>
    let s := s.toSt f n 4 fun e => { e with spage := l, spages := pagesFor tiles, from_ := e.st, emerg := e.emerg || emerg }
    let s := s.spillPages p f l (pagesFor tiles) emerg pressed
    ((s.act f n 2).on emerg fun s => s.tally 1 f 0x2B 1).queueMove f n (if emerg then .emerg else .spill) false false tiles

/-- A spill has failed (R251). -/
def State.spillFail (s : State) (f n code : Nat) : State :=
  let e := s.entry f n
  let s := ((s.ldgFlt f n 1 code).abortMove f n).freeSpill f n
  let s := if e.from_ = 3 then s.toSt f n 3 fun e => { e with emerg := false, spared := true }
    else (s.toSt f n 2 fun e => { e with emerg := false, spared := true, spage := 0, spages := 0 }).serveEntry f n 0
  s.ldgEvt LDG_EVT.SPILL_FAIL f

/-- Candidates of emergency spill, in order (R248). -/
def State.emergCands (s : State) (f : Nat) : List Nat :=
  let l := (s.ledger.entries.filter fun e => decide (e.1 / 65536 = f) && (decide (e.2.st = 2) || decide (e.2.st = 3)) &&
    decide (e.2.users = 0) && !e.2.slip && !e.2.spared).map (·.1 % 65536)
  sortBy (fun a b => decide (s.distance f b < s.distance f a) || (decide (s.distance f a = s.distance f b) && decide (a ≤ b))) l

/-- T1 pages of a candidate. -/
def formPages (e : Entry) : Nat := if e.st = 3 then e.spages else pagesFor e.tiles

/-- Selection by emergency spill (R248): each candidate in order while the projection is above the low mark; too small a
reserve stops the partition (R249). -/
def State.selectFrom (f low : Nat) : List Nat → Nat → State → State × Nat
  | [], pj, s => (s, pj)
  | c :: r, pj, s =>
    if pj ≤ low ∨ !s.running (s.entPart f) then (s, pj)
    else
      let n := formPages (s.entry f c)
      if s.ldgBudget f < s.rsvUsed f + n then
        ((s.stopPart (s.entPart f) 8).event PAR_EVT.T2_EXHAUSTED (s.entPart f) (s.entPart f), 0)
      else selectFrom f low r (pj - n) (s.startSpill f c true)

/-- Ledger T1 use looked at: where it has changed, the peak, and emergency spill (R247, R248). -/
def State.watchUse (s : State) (f : Nat) : State :=
  let p := s.entPart f
  let u := s.ldgUsed f
  let same := decide (s.rd LDG_T1.USED f = u)
  let s := s.wr LDG_T1.USED f u
  let s := if s.rd LDG_T1_PEAK.PEAK f < u then s.wr LDG_T1_PEAK.PEAK f u else s
  if !s.running p || same then s
  else if s.highMark f < u then
    let s := if s.rd LDG_STAT.EMERG f = 1 then s
      else ((s.wr LDG_STAT.EMERG f 1).ldgEvt LDG_EVT.EMERG_SPILL f).event PAR_EVT.EMERG_SPILL p p
    let going := ((s.ledger.entries.filter fun e => decide (e.1 / 65536 = f) && decide (e.2.st = 4) && e.2.emerg).map fun e =>
      if e.2.from_ = 3 then e.2.spages else pagesFor e.2.tiles).sum
    let r := State.selectFrom f (s.lowMark f) (s.emergCands f) (u - going) s
    if s.lowMark f < r.2 then (r.1.ldgFlt f 0 4 0).ldgEvt LDG_EVT.EMERG_STUCK f else r.1
  else if u ≤ s.lowMark f then s.wr LDG_STAT.EMERG f 0
  else s

/-! ### Slips and replays that wait for pages (R247, R268, R288) -/

/-- Place of a move's class in the order of R243. -/
def kindRank : MoveKind → Nat
  | .slip => 0
  | .input => 1
  | .emerg => 2
  | .spill => 3
  | .press => 4

/-- The moves of a field that have not started, in the order of R243: call slips nearest NEED first, demand slips at the
head; otherwise as queued. -/
def State.waitingMoves (s : State) (f : Nat) : List Move :=
  sortBy (fun a b : Move =>
    if kindRank a.kind ≠ kindRank b.kind then decide (kindRank a.kind ≤ kindRank b.kind)
    else if a.kind = .slip then (if a.demand ≠ b.demand then a.demand else decide (s.ttn f a.n ≤ s.ttn f b.n))
    else true) (s.ledger.moves.filter fun m => decide (m.f = f) && !m.started)

/-- Call slips in their order take their plain-form pages and enter FETCHING, until one must wait (R247). -/
def State.trySlips (f : Nat) : List Move → State → State
  | [], s => s
  | m :: r, s =>
    let e := s.entry f m.n
    if (m.kind = .slip ∨ m.kind = .input) ∧ (e.st = 3 ∨ e.st = 5) then
      match s.allocRun (s.entPart f) f e.lpage (pagesFor e.tiles) with
      | some s' => trySlips f r ((s'.toSt f m.n 7 fun e => { e with landed := 0 }).act f m.n 4)
      | none => s.ldgEvt LDG_EVT.BUDGET_WAIT f
    else trySlips f r s

/-- DROPPED entries with a call slip in force enter REPLAYING once every input is READY or RESIDENT (R239, R288). -/
def State.tryReplays (s : State) (f : Nat) : State :=
  let l := (s.ledger.entries.filter fun e => decide (e.1 / 65536 = f) && decide (e.2.st = 6) && e.2.slip).map (·.1 % 65536)
  s.each l fun s n =>
    let e := s.entry f n
    if (s.inputs f n).all s.inputReady then
      match s.allocRun (s.entPart f) f e.lpage (pagesFor e.tiles) with
      | some s' =>
        let s := (s'.toSt f n 8 fun e => { e with landed := 0 }).act f n 5
        s.queueReplay f e.span
      | none => s.ldgEvt LDG_EVT.BUDGET_WAIT f
    else s

end Sys2Proof.Machine
end

