-- ==== Sys2Proof/Machine/Faulting.lean ====
section
/-! DEFINITION. Faults of threads (06_cores_threads.md R155), and what they and the confinement of span threads do to a
span's recording or replay (11_replay.md R279, R283, R290). -/

namespace Sys2Proof.Machine

/-! ### Thread faults (R155) -/

/-- A thread's fault recorded: FAULTED, CORE_FLT and the fault log written, the handler's fault word filled. -/
def State.recordFault (s : State) (k code sub : Nat) : State :=
  let c := k / 32
  let f := c / 152
  let m := c % 152
  let t := s.thread k
  let s := s.log ⟨0x10, code, f, m, k % 32, (s.partOf f).toList, if code = 3 then 2 else 3, Config.detail [t.pc, sub]⟩
  let s := s.setThread k { t with st := .faulted }
  let s := if s.rd CORE_FLT.VALID c = 1 then s.wr CORE_FLT.OVER c 1 else s
  let s := ((((s.wr CORE_FLT.VALID c 1).wr CORE_FLT.THREAD c (k % 32)).wr CORE_FLT.PC c t.pc).wr
    CORE_FLT.CODE c code).tally 0 c 0x15 1
  match (s.program f m).bind (·.handler) with
  | none => s
  | some w =>
    let wk := localWord f m w
    let old := s.word wk
    let rec0 := 2 ^ 31 + (if old.full then 2 ^ 30 else 0) + k % 32 * 2 ^ 24 + t.pc % 8192 * 2 ^ 8 + code + sub * 2 ^ 32
    (s.setWord wk ⟨BitVec.ofNat 64 rec0, true, false⟩).serveWord wk

/-! ### Spans (R279, R283, R290) -/

/-- The slot and part that a span thread runs. -/
def State.partRun (s : State) (k : Nat) : Option (Nat × Nat) :=
  match Store.get 0 s.replay.parts k with
  | 0 => none
  | n + 1 => some (n / 16, n % 16)

/-- A span's part descriptor. -/
def State.spanPart (s : State) (f sl part : Nat) : Option SpanPart := (s.spanDef f (s.slot f sl).sid).bind fun d => d.parts[part]?

/-- LDG_REP_FLT and the fault log. -/
def State.repFlt (s : State) (f code sl core thr : Nat) : State :=
  let s := s.log ⟨0x05, code, f, core, thr, [s.entPart f], if code < 0x10 then 3 else 2, (s.slot f sl).sid⟩
  let s := if s.rd LDG_REP_FLT.VALID f = 1 then s.wr LDG_REP_FLT.OVER f 1 else s
  (((((s.wr LDG_REP_FLT.VALID f 1).wr LDG_REP_FLT.CODE f code).wr LDG_REP_FLT.SID f (s.slot f sl).sid).wr
    LDG_REP_FLT.SLOT f sl).wr LDG_REP_FLT.CORE f core).wr LDG_REP_FLT.THREAD f thr

/-- The span threads of a slot stop and return to IDLE; a FAULTED one stays so. -/
def State.endRun (s : State) (f sl : Nat) : State :=
  let mine := (s.replay.parts.filter fun e => decide (e.1 / 32 / 152 = f) && decide ((e.2 - 1) / 16 = sl)).map (·.1)
  s.each mine fun s k =>
    let t := s.thread k
    let s := if t.st = .faulted then s else s.setThread k { t with st := .idle }
    (s.onSync fun y => { y with parks := y.parks.filter fun pk => decide (pk.who ≠ .thread k) }).onReplay fun r =>
      { r with parts := Store.set 0 r.parts k 0 }

/-- A slot whose run has ended goes to CLOSED, or to FREE where no output lives (R282, R284). -/
def State.closeSlot (s : State) (f sl : Nat) : State :=
  let t := { s.slot f sl with st := 2, going := false, redo := [], accs := 0 }
  if t.live = 0 then s.freeSlot f sl else s.setSlot f sl t

/-- A replay that cannot run or fails loses its outputs (R290). -/
def State.loseReplay (s : State) (f sl code core thr : Nat) : State :=
  let t := s.slot f sl
  let outs := if t.redo.isEmpty then t.outs else t.redo
  let s := (s.repFlt f code sl core thr).endRun f sl
  let s := s.setSlot f sl { t with st := 2, going := false, redo := [], accs := 0 }
  let s := s.onReplay fun r => { r with queue := r.queue.filter (· ≠ (f, sl)) }
  let s := s.each outs fun s h =>
    let e := s.entry f (hndEntry h)
    if e.gen = hndGen h ∧ e.st = 8 then s.lose f (hndEntry h) 5 else s
  s.ldgEvt (if code = 0x12 then LDG_REP_EVT.STALE else if code = 0x11 then LDG_REP_EVT.MISMATCH else LDG_REP_EVT.REP_FAIL) f

/-- A recording breaks (R283): the other parts stop, the issuing threads wake with SPAN_BROKEN, and the slot holds a
recording that did not complete. -/
def State.breakRecord (s : State) (f sl : Nat) : State :=
  let s := (s.endRun f sl).setSlot f sl { s.slot f sl with broken := true }
  let s := s.each (s.sync.parks.filter fun pk => decide (pk.tgt = .slot f sl)) fun s pk => s.finish pk 0x10
  (s.closeSlot f sl).ldgEvt LDG_REP_EVT.BROKEN f

/-- A thread faults: FAULTED, with its record; a span thread's fault breaks its recording or fails its replay. -/
def State.threadFault (s : State) (k code sub : Nat) : State :=
  let s := s.recordFault k code sub
  let f := k / 32 / 152
  match s.partRun k with
  | none => s
  | some (sl, _) => if (s.slot f sl).st = 3 then s.loseReplay f sl 0x10 (k / 32 % 152) (k % 32) else s.breakRecord f sl

/-- A thread faults with SPAN and a sub-code (R277, R279, R282). -/
def State.spanFault (s : State) (k sub : Nat) : State :=
  let s := s.repFlt (k / 32 / 152) sub (((s.partRun k).map (·.1)).getD 0) (k / 32 % 152) (k % 32)
  s.threadFault k 7 sub

/-- A thread fault with code SYNC and a sub-code (R223). -/
def State.syncFault (s : State) (k sub target : Nat) : State :=
  let f := k / 32 / 152
  let s := match s.partOf f with
    | some p => s.synFlt p sub ⟨p, f, k / 32 % 152, k % 32, true⟩ target
    | none => s
  s.threadFault k 5 sub

/-- Bounds of a part's scratch window in bytes (R273). -/
def scratch (x : SpanPart) : Nat × Nat := (x.scrBase * 4096, x.scrBase * 4096 + (if x.scrLen = 0 then 128 else x.scrLen) * 4096)

/-- Whether a local access of a thread stays inside the scratch window of the part it runs (R279). -/
def State.scrOk (s : State) (k a n : Nat) : Bool :=
  match s.partRun k with
  | none => true
  | some (sl, part) => (s.spanPart (k / 32 / 152) sl part).any fun x =>
      decide ((scratch x).1 ≤ a) && decide (a + n ≤ (scratch x).2)

/-- Whether an object is private to the span whose part a thread runs (R279). -/
def State.privOk (s : State) (k o : Nat) : Bool :=
  match s.partRun k with
  | none => true
  | some (sl, _) =>
    let f := k / 32 / 152
    ((s.spanDef f (s.slot f sl).sid).map (·.parts)).getD [] |>.any fun x =>
      (List.range 64).any fun n => bit x.priv n && decide (o = objKey f x.core n)

/-- An instruction that a span thread may not issue while it runs a part (R279 FORBIDDEN). -/
def State.forbidden (s : State) (k : Nat) (g : State → State) : State :=
  if (s.partRun k).isSome then s.spanFault k 7 else g s

end Sys2Proof.Machine
end

