-- ==== Sys2Proof/Machine/TjlOps.lean ====
section
/-! DEFINITION. What leaves over Thijolink (13_thijolink.md): frames and their order, tiles of remote ranges, signals to
export objects. -/

namespace Sys2Proof.Machine

/-! ### Ports (R324-R326) -/

/-- A port direction. -/
def State.lport (s : State) (n : Nat) : LPort := Store.get lport0 s.tjl.ports n
/-- A port direction changed. -/
def State.setLport (s : State) (n : Nat) (v : LPort) : State :=
  s.onTjl fun t => { t with ports := Store.set lport0 t.ports n v }
/-- A port's state (TJL_PORT.STATE): 2 UP, 3 RETRAIN. -/
def State.portSt (s : State) (n : Nat) : Nat := s.rd TJL_PORT.STATE n
/-- A tie at its source. -/
def State.tie (s : State) (t : Nat) : TieOut := Store.get tieOut0 s.tjl.ties t
/-- A tie at its source changed. -/
def State.setTie (s : State) (t : Nat) (v : TieOut) : State :=
  s.onTjl fun y => { y with ties := Store.set tieOut0 y.ties t v }
/-- This wafer's number. -/
def State.waferNo (s : State) : Nat := s.rd TJL_ID.WAFER 0

/-- The header of a frame (R324), less CRED, NAK and ACK, which change from sending to sending only in IDLE frames. -/
def frameHdr (s : State) (n : Nat) (x : LFrame) : Nat :=
  let p := s.lport n
  p.epoch % 256 * 2 ^ 240 + (p.expect + 65535) % 65536 * 2 ^ 160 + x.lseq * 2 ^ 144 + x.src % 32 * 2 ^ 123 + x.dst % 32 * 2 ^ 118 +
    x.spart % 4 * 2 ^ 116 + x.dpart % 4 * 2 ^ 114 + x.vc % 4 * 2 ^ 112 + x.npkt * 2 ^ 104 + x.kind

/-- The frame that a port sends next among those that wait (R325): URGENT first, else by weighted round robin, each against
a credit. -/
def pickFrame (p : LPort) : Option (LFrame × LPort) :=
  let has := fun v => decide (0 < p.cred.getD v 0) && p.wait.any fun x => decide (x.vc = v)
  let go := fun (v : Nat) (q : List Nat) => (p.wait.find? fun x => decide (x.vc = v)).map fun x =>
    (x, { p with wait := p.wait.erase x, cred := p.cred.set v (p.cred.getD v 0 - 1), quota := q.set v (q.getD v 0 - 1) })
  if has 0 then go 0 p.quota
  else match [1, 2, 3].find? fun v => has v && decide (0 < p.quota.getD v 0) with
    | some v => go v p.quota
    | none => match [1, 2, 3].find? has with
      | some v => go v [0, 4, 4, 8]
      | none => none

/-- Waiting frames numbered and sent while the replay buffer has room and the port carries traffic (R326). -/
def State.pumpPort (n : Nat) : Nat → State → State
  | 0, s => s
  | k + 1, s =>
    let p := s.lport n
    if s.portSt n ≠ 2 ∨ 1024 ≤ p.replay.length then s
    else match pickFrame p with
      | none => s
      | some (x, p') =>
        let x := { x with lseq := p.next }
        let p' := { p' with
          next := (p.next + 1) % 65536, replay := p.replay ++ [x], built := (p.built + 1) % 2 ^ 32
          epoch := if p.built + 1 = 2 ^ 32 then (p.epoch + 1) % 256 else p.epoch
          since := if p.replay.isEmpty then s.now else p.since }
        let s := (s.emit (.frame n x.kind (frameHdr s n x :: x.body))).setLport n p'
        pumpPort n k (s.tally 3 0 (0x100 + n * 0x10) 1)

/-- A frame given to a port, from a wafer and with a number of packets. -/
def State.putFrame (s : State) (n : Nat) (x : LFrame) : State :=
  let p := s.lport n
  State.pumpPort n (p.wait.length + 1) (s.setLport n { p with wait := p.wait ++ [x] })

/-- A frame of this wafer given to a port. -/
def State.sendFrame (s : State) (n kind vc dst spart dpart : Nat) (body : List Nat) : State :=
  s.putFrame n ⟨0, kind, vc, s.waferNo, if kind = 2 then body.length else 0, dst, spart, dpart, body⟩

/-! ### Routes (R315) -/

/-- The ports of the route to a wafer, in order. -/
def State.route (s : State) (w : Nat) : List Nat := ((s.parts.dev.map (·.routes)).getD [] |>.lookup w).getD []

/-- The first port of a route that is UP; a port that retrains still holds its traffic (R321). -/
def State.upRoute (s : State) (w : Nat) : Option Nat := (s.route w).find? fun n => decide (s.portSt n = 2) || decide (s.portSt n = 3)

/-- A control packet sent toward a wafer by its route. -/
def State.sendTo (s : State) (w vc spart dpart pkt : Nat) : State :=
  match s.upRoute w with
  | some n => s.sendFrame n 2 vc w spart dpart [pkt]
  | none => s

/-- The declaration of a tie. -/
def State.tieDecl (s : State) (t : Nat) : Option Tie :=
  (s.sect (s.tie t).part).bind fun c => c.links.ties.find? (·.num = t)

/-! ### Tiles (R330, R331) -/

/-- Bytes of a tile image. -/
def tileImage : Nat := 16448

/-- Bytes held in a link die's export buffer. -/
def State.exportHeld (s : State) (n : Nat) : Nat :=
  ((s.tjl.ties.filter fun e => decide (e.2.port = n + 1)).map fun e => e.2.tiles.length * tileImage).sum

/-- The DATA frames of a tile (R330) that hold bytes from a stream offset onward (R343). -/
def tileFrames (t : Nat) (x : XTile) (pos : Nat) : List (List Nat) :=
  ((List.range 29).filter fun i => decide (pos < x.off + min tileImage ((i + 1) * 576))).map fun i =>
    let b := (x.bytes.drop (i * 576)).take 576
    ((x.off + i * 576) * 2 ^ 64 + boolNat (x.toSeal && decide (i = 28)) * 2 ^ 63 + b.length * 2 ^ 53 + i * 576 * 2 ^ 38 +
      x.tix % 2 ^ 26 * 2 ^ 12 + t % 4096) :: b

/-- The packet of a signal (R329). -/
def sigPacket (s : State) (t : Nat) (d : Tie) (x : XSig) : Nat :=
  1 * 2 ^ 248 + s.waferNo * 2 ^ 243 + d.wafer % 32 * 2 ^ 238 + (s.tie t).part % 4 * 2 ^ 236 + d.part % 4 * 2 ^ 234 + t % 4096 * 2 ^ 222 +
    boolNat x.urgent * 2 ^ 221 + (if x.op = 2 then 1 else 0) * 2 ^ 220 + x.target % 2 ^ 24 * 2 ^ 192 + x.sseq * 2 ^ 160 +
    x.value % 2 ^ 32 * 2 ^ 128 + x.ac % 2 ^ 64 * 2 ^ 64 + x.field % 64 * 2 ^ 58 + x.core % 256 * 2 ^ 50 + x.unit % 64 * 2 ^ 44

/-- Held tiles that have not been sent, then held signals, sent in order while the tie has a port (R319, R335). -/
def State.pumpTie (s : State) (t : Nat) : State :=
  let x := s.tie t
  match s.tieDecl t with
  | none => s
  | some d =>
    if (x.st ≠ 1 ∧ x.st ≠ 2) ∨ x.port = 0 then s
    else
      let n := x.port - 1
      let s := s.each x.tiles fun s y =>
        s.each (tileFrames t y x.pos) fun s b => s.sendFrame n 1 3 d.wafer x.part d.part b
      let go := x.queue.take (64 - x.outst.length)
      let out := go.zipIdx.map fun y => { y.1 with sseq := (x.sent + 1 + y.2) % 2 ^ 32, port := n + 1 }
      let s := s.setTie t { x with
        pos := x.acc, sent := (x.sent + go.length) % 2 ^ 32, outst := x.outst ++ out, queue := x.queue.drop (64 - x.outst.length) }
      s.each out fun s y => s.sendFrame n 2 (if y.urgent then 0 else 1) d.wafer x.part d.part [sigPacket s t d y]

/-- A tile accepted by the link die of a tie: none where its export buffer is full (R331). -/
def State.exportTile (s : State) (t tix : Nat) (toSeal : Bool) (hdr : Nat) (data : Store Word) : Option State :=
  let x := s.tie t
  if x.port = 0 ∨ 33554432 < s.exportHeld (x.port - 1) + tileImage then none
  else
    let y : XTile := ⟨x.acc, tix, toSeal, payloadBytes data ++ bytesOf 64 hdr⟩
    some ((s.setTie t { x with acc := x.acc + tileImage, tiles := x.tiles ++ [y] }).pumpTie t)

/-- Whether a tie's export buffer takes another tile. -/
def State.exportRoom (s : State) (t : Nat) : Bool :=
  !((s.tie t).port = 0 || decide (33554432 < s.exportHeld ((s.tie t).port - 1) + tileImage))

/-! ### Signals (R317, R333-R336) -/

/-- The export object that a pool object is (R317). -/
def State.exportOf (s : State) (k : Nat) : Option Export :=
  (s.objPart k).bind fun p => if k < poolBase then none
    else (s.sect p).bind fun c => c.links.exports.find? fun e => decide (s.poolAbs p e.pool = some (k - poolBase))

/-- Whether a core is an urgent source (R217). -/
def State.urgentSrc (s : State) (p f m : Nat) : Bool := (s.sect p).any fun c => c.sync.urgent.contains (f, m)

/-- Whether an urgent signal of a core is in flight (R217). -/
def State.urgentBusy (s : State) (f m : Nat) : Bool :=
  s.tjl.ties.any fun e => (e.2.outst ++ e.2.queue).any fun x => x.urgent && decide (x.field = f) && decide (x.core = m)

/-- A signal forwarded over a tie (R333, R334): it announces the bytes accepted so far, and its status comes later. -/
def State.crossSignal (s : State) (e : Export) (src : Source) (op value owner : Nat) (bell : Option (Nat × Nat)) (u : Bool) : State :=
  let x := s.tie e.tie
  let y : XSig := ⟨0, owner, bell, e.ref, op, value, x.acc, src.field, src.core, src.unit, u && s.urgentSrc src.part src.field src.core, 0⟩
  (s.setTie e.tie { x with queue := x.queue ++ [y] }).pumpTie e.tie

/-- A signal from an engine or another requester that waits for no status, by reference: applied here or forwarded. -/
def State.signalAny (s : State) (src : Source) (ref n : Nat) : State :=
  match s.resolve src ref false with
  | .obj k => match s.exportOf k with
    | some e => s.crossSignal e src 0 n 0 none false
    | none => (s.sigObj k n 0 src).1
  | .foreign => s.blocked src ref
  | _ => s

end Sys2Proof.Machine
end

