-- ==== Sys2Proof/Machine/Sync.lean ====
section
/-! DEFINITION. The F/E and SYNC instructions and barriers (08_synchronisation.md). -/

namespace Sys2Proof.Machine

/-! ### Issue (R140, R146) -/

/-- Whether a thread belongs to a fence group that a halt has stopped (R479). -/
def State.groupStopped (s : State) (p k : Nat) : Bool :=
  (s.part p).stopped.any fun g => (s.group p g).any fun r => r.members.any fun m => decide (thrKey m.f m.m m.t = k)

/-- Whether a thread's instruction can issue: READY, in a RUNNING partition whose issue has not stopped (R479, R75). -/
def State.canIssue (s : State) (k : Nat) : Bool :=
  decide ((s.thread k).st = .ready) &&
  ((s.partOf (k / 32 / 152)).any fun p => s.running p && !(s.part p).frozen && !s.groupStopped p k)

/-- The issue recorded: least-recently-issued order (R141) and the counter of issues (R519). -/
def State.mark (s : State) (k : Nat) : State :=
  (s.setThread k { s.thread k with issued := s.now }).tally 0 (k / 32) 0x10 1

/-- An instruction that goes on to the next word issues: past word 8,191 it faults instead (R146). A thread that
cannot issue, or that reads s0 while a status is still owed (R197), leaves everything as it is. -/
def State.issue (s : State) (t : Thr) (reads0 : Bool) (g : Nat → State → State) : State :=
  let k := thrOf t
  if s.canIssue k && !(reads0 && !(s.owed k).isEmpty) then
    if (s.thread k).pc = 8191 then (s.mark k).threadFault k 1 0 else g k (s.mark k)
  else s

/-- An instruction that does not go on to the next word issues. -/
def State.issueJump (s : State) (t : Thr) (reads0 : Bool) (g : Nat → State → State) : State :=
  let k := thrOf t
  if s.canIssue k && !(reads0 && !(s.owed k).isEmpty) then g k (s.mark k) else s

/-- The source of a thread's request. -/
def State.thrSource (s : State) (k : Nat) : Source :=
  ⟨(s.partOf (k / 32 / 152)).getD 0, k / 32 / 152, k / 32 % 152, k % 32, true⟩

/-- An instruction ends with a status and goes on. -/
def State.done (s : State) (k v : Nat) : State := (s.status k v).nextPc k

/-! ### F/E instructions (R194-R196, R205) -/

/-- An F/E instruction's word, or its fault: reserved bits, then alignment and range (R205, R143). -/
def State.feWord (s : State) (t : Thr) (k : Nat) (i : SyncIns) (fOk : Bool) (g : Nat → State → State) : State :=
  if i.rsv ≠ 0 ∨ (i.f ∧ ¬fOk) then s.threadFault k 1 0
  else
    let a := (s.sreg k i.sa.val).toNat
    if a % 8 ≠ 0 ∨ 0x80000 ≤ a then s.threadFault k 2 0
    else if !s.scrOk k a 8 then s.spanFault k 3
    else g (localWord t.f.val t.m.val (a / 8)) s

/-- LD.FE (R194): parks until the word is full; consume mode empties it. A poisoned word faults. -/
def execLdFe (t : Thr) (i : SyncIns) (s : State) : Host.Outcome State Fault Refusal :=
  .next (s.issue t (i.sa = 0) fun k s => s.feWord t k i true fun w s =>
    if (s.word w).poison then s.threadFault k 3 0
    else
      let s := s.setThread k { s.thread k with st := .parked }
      let s := (s.parkAt ⟨.thread k, .word w, i.f, 0, i.tag.val, s.now, i.sd.val⟩).serveWord w
      if (s.thread k).st = .parked then s.tally 0 (k / 32) 0x17 1 else s)

/-- ST.FE (R195): writes the word and sets it full; without OVR a full word faults FE_FULL. -/
def execStFe (t : Thr) (i : SyncIns) (s : State) : Host.Outcome State Fault Refusal :=
  .next (s.issue t (i.sa = 0 ∨ i.sb = 0) fun k s => s.feWord t k i true fun w s =>
    let o := s.word w
    if o.full && !i.f && !o.poison then s.syncFault k 1 0
    else ((s.setWord w ⟨s.sreg k i.sb.val, true, false⟩).serveWord w).nextPc k)

/-- LD.PEEK (R196): the word, and its F/E bit in s0. -/
def execLdPeek (t : Thr) (i : SyncIns) (s : State) : Host.Outcome State Fault Refusal :=
  .next (s.issue t (i.sa = 0) fun k s => s.feWord t k i false fun w s =>
    let o := s.word w
    if o.poison then s.threadFault k 3 0
    else (((s.setSreg k i.sd.val o.data).status k (if o.full then 0 else 8)).nextPc k))

/-- FE.CLR (R196): the word becomes empty. -/
def execFeClr (t : Thr) (i : SyncIns) (s : State) : Host.Outcome State Fault Refusal :=
  .next (s.issue t (i.sa = 0) fun k s => s.feWord t k i false fun w s =>
    let o := s.word w
    if o.poison then s.threadFault k 3 0
    else (s.setWord w { o with full := false }).nextPc k)

/-! ### SYNC instructions (R198-R201, R205) -/

/-- The object a SYNC instruction names, or its fault (R166, R190, R200, R206): dead local objects and pool indices
outside the share fault; against another core's or a pool object DEAD is a status. -/
def State.syncObj (s : State) (k : Nat) (ref : Nat) (wait : Bool) (g : Nat → State → State) : State :=
  let src := s.thrSource k
  let other := bits ref 23 22 = 2 ∧ ¬(bits ref 21 16 = src.field ∧ bits ref 15 8 = src.core)
  match s.resolve src ref false with
  | .none => s.threadFault k 2 0
  | .range => if (s.partRun k).isSome then s.spanFault k 4 else s.syncFault k 5 ref
  | .foreign => if (s.partRun k).isSome then s.spanFault k 4 else if wait then s.syncFault k 7 ref else (s.blocked src ref).done k 3
  | .obj o =>
    if !s.privOk k o then s.spanFault k 4
    else if wait ∧ (other ∨ (s.exportOf o).isSome) then s.syncFault k 7 ref
    else if (s.obj o).live || (s.exportOf o).isSome then g o s
    else if o < poolBase ∧ ¬other then s.syncFault k 4 ref
    else s.done k 4

/-- Whether an object is a local object of a core that a test segment holds (R457). -/
def State.objHeld (s : State) (o : Nat) : Bool := decide (o < poolBase) && s.heldCore (o / 64)

/-- A request that arrives for a held core queued at its router (R457). -/
def State.queueHeld (s : State) (c : Nat) (x : HeldKind) : State :=
  s.onGuard fun g => { g with queue := g.queue ++ [⟨c, s.now, x⟩] }

/-- A signal or delta to an object from a requester: its result at once, or later from a held core. -/
def State.signalObj (s : State) (k o : Nat) (d : Int) (src : Source) : State :=
  if s.objHeld o then ((s.queueHeld (o / 64) (.signal (k + 1) none o d true src)).owe k).nextPc k
  else
    let r := s.addObj o d src
    r.1.done k r.2

/-- SIG (R198, R317): a signal to an export object is forwarded, its status owed; a second urgent signal of an urgent
source waits for the first (R217). -/
def execSig (t : Thr) (i : SyncIns) (s : State) : Host.Outcome State Fault Refusal :=
  .next (if i.f && s.urgentSrc (s.thrSource (thrOf t)).part t.f.val t.m.val && s.urgentBusy t.f.val t.m.val then s
    else s.issue t (i.sa = 0) fun k s =>
      if i.rsv ≠ 0 ∨ i.imm = 0 then s.threadFault k 1 0
      else s.syncObj k ((s.sreg k i.sa.val).toNat % 2 ^ 24) false fun o s =>
        match s.exportOf o with
        | some e => ((s.crossSignal e (s.thrSource k) 0 i.imm.toNat (k + 1) none i.f).owe k).nextPc k
        | none =>
          if s.objHeld o then ((s.queueHeld (o / 64) (.signal (k + 1) none o i.imm.toNat false (s.thrSource k))).owe k).nextPc k
          else
            let r := s.sigObj o i.imm.toNat 0 (s.thrSource k)
            r.1.done k r.2)

/-- SEM.ADD (R199, R317): to an export object a positive delta is forwarded, a negative one returns RANGE. -/
def execSemAdd (t : Thr) (i : SyncIns) (s : State) : Host.Outcome State Fault Refusal :=
  .next (s.issue t (i.sa = 0 ∨ i.sb = 0) fun k s =>
    if i.rsv ≠ 0 ∨ i.f then s.threadFault k 1 0
    else s.syncObj k ((s.sreg k i.sa.val).toNat % 2 ^ 24) false fun o s =>
      let d := BitVec.ofNat 32 (s.sreg k i.sb.val).toNat
      match s.exportOf o with
      | some e =>
        if d.toInt < 0 then s.done k 5
        else ((s.crossSignal e (s.thrSource k) 2 d.toNat (k + 1) none false).owe k).nextPc k
      | none => s.signalObj k o d.toInt (s.thrSource k))

/-- WAIT (R200): parks until COUNT is at least n; take mode subtracts n. -/
def execWait (t : Thr) (i : SyncIns) (s : State) : Host.Outcome State Fault Refusal :=
  .next (s.issue t (i.sa = 0) fun k s =>
    if i.rsv ≠ 0 ∨ i.imm = 0 then s.threadFault k 1 0
    else s.syncObj k ((s.sreg k i.sa.val).toNat % 2 ^ 24) true fun o s =>
      (s.pollObj (.thread k) o i.imm.toNat i.f i.tag.val 0).judge k)

/-! ### Barriers (R212-R215) -/

/-- A barrier's episode state. -/
def State.bar (s : State) (p b : Nat) : BarSt := Store.get bar0 s.sync.bars (barKey p b)
/-- A barrier's episode state changed. -/
def State.setBar (s : State) (p b : Nat) (v : BarSt) : State :=
  s.onSync fun y => { y with bars := Store.set bar0 y.bars (barKey p b) v }

/-- Whether a mapped core participates in a barrier. -/
def participates (d : BarDef) (f m : Nat) : Bool := bit d.fields f && bit d.cores m

/-- The participating cores of a barrier. -/
def barCores (d : BarDef) : List Nat :=
  ((List.range 64).filter (bit d.fields)).flatMap fun f => ((List.range 152).filter (bit d.cores)).map (coreKey f)

/-- Participating cores that have made all their arrivals for episode GEN + 1 (SYN_BAR.ARRIVED). -/
def State.barArrived (s : State) (p : Nat) (d : BarDef) : Nat :=
  ((barCores d).filter fun c => d.percore ≤ Store.get 0 (s.bar p d.num).arr c).length

/-- Every local condition of R214 for episode GEN + 1: all cores, and the host where HOST is set. -/
def State.barLocal (s : State) (p : Nat) (d : BarDef) : Bool :=
  (barCores d).all (fun c => d.percore ≤ Store.get 0 (s.bar p d.num).arr c) &&
  (!d.host || decide (1 ≤ (s.bar p d.num).host))

/-- Whether BAR.WAIT's condition holds for generation g (R215). -/
def genReached (gen g : Nat) : Bool := decide ((gen + 65536 - g % 65536) % 65536 < 32768)

/-- The status BAR.WAIT returns for generation g (R215). -/
def barStatus (b : BarSt) (g : Nat) : Nat := if b.gen = g ∧ b.status = 1 then 0xA else 0

/-- Waiters of a barrier served as observe-mode polls (R215). -/
def State.serveBar (s : State) (p b : Nat) : State :=
  s.sync.parks.foldl (fun s pk =>
    match pk.tgt with
    | .barrier p' b' g =>
      if p' = p ∧ b' = b ∧ genReached (s.bar p b).gen g then s.finish pk (barStatus (s.bar p b) g) else s
    | _ => s) s

/-- Episode GEN + 1 completes with a status (R214): 0 OK, 1 LINK_LOST. -/
def State.barEnd (s : State) (p : Nat) (d : BarDef) (st : Nat) : State :=
  let v := s.bar p d.num
  let arr := Store.mapAll 0 (fun _ n => n - d.percore) v.arr
  let s := s.setBar p d.num ⟨(v.gen + 1) % 65536, st, arr, v.host - 1, 0, false, false⟩
  let s := s.on (st = 1) fun s =>
    (s.log ⟨0x08, 0x84, 0xFF, 0xFF, 0, [p], 2, d.num⟩).event SYN_EVT.LINK_LOST p p
  s.serveBar p d.num

/-- BAR.ARRIVE (R213): one arrival toward GEN + 1 or GEN + 2, its generation in SD. -/
def execBarArrive (t : Thr) (i : SyncIns) (s : State) : Host.Outcome State Fault Refusal :=
  .next (s.issue t false fun k s =>
    if i.rsv ≠ 0 ∨ i.f ∨ 64 ≤ i.imm.toNat then s.threadFault k 1 0
    else s.forbidden k fun s =>
      let p := (s.thrSource k).part
      match s.barDef p i.imm.toNat with
      | none => s.syncFault k 0xA 0
      | some d =>
        let v := s.bar p d.num
        let n := Store.get 0 v.arr (k / 32)
        if !participates d t.f.val t.m.val then s.syncFault k 0xA 0
        else if 2 * d.percore ≤ n then s.syncFault k 9 0
        else
          let s := s.setBar p d.num { v with arr := Store.set 0 v.arr (k / 32) (n + 1) }
          let g := (v.gen + (if n < d.percore then 1 else 2)) % 65536
          (s.setSreg k i.sd.val (BitVec.ofNat 64 g)).done k 0)

/-- BAR.WAIT (R215). -/
def execBarWait (t : Thr) (i : SyncIns) (s : State) : Host.Outcome State Fault Refusal :=
  .next (s.issue t (i.sa = 0) fun k s =>
    if i.rsv ≠ 0 ∨ i.f ∨ 64 ≤ i.imm.toNat then s.threadFault k 1 0
    else s.forbidden k fun s =>
      let p := (s.thrSource k).part
      match s.barDef p i.imm.toNat with
      | none => s.syncFault k 0xA 0
      | some d =>
        let g := (s.sreg k i.sa.val).toNat % 65536
        if genReached (s.bar p d.num).gen g then s.done k (barStatus (s.bar p d.num) g)
        else s.parkThread k (.barrier p d.num g) false 0 i.tag.val 0)

end Sys2Proof.Machine
end

