-- ==== Sys2Proof/Machine/Ledger.lean ====
section
/-! DEFINITION. The LEDGER instructions, the policy unit, and the Ledger's moves (09_ledger.md, 10_policy_fetchback.md,
12_compression.md). -/

namespace Sys2Proof.Machine

/-! ### Accession (R233-R235) -/

/-- The operands of an LDG.ACC (R231). -/
structure Acc where
  tiles : Nat
  span : Nat
  uses : Nat
  lpage : Nat
  cls : Nat
  grp : Nat
  lane : Nat
  sd : Nat
deriving DecidableEq, Repr

/-- The operands of an LDG.ACC from its registers and immediate. -/
def State.accOps (s : State) (k sa sb imm sd : Nat) : Acc :=
  let a := (s.sreg k sa).toNat
  ⟨bits a 13 0, bits a 31 16, bits a 39 32, bits (s.sreg k sb).toNat 39 0, bits imm 5 0, bits imm 9 6, bits imm 11 10, sd⟩

/-- Whether the operands are valid (R234). -/
def State.accOk (s : State) (f : Nat) (a : Acc) : Bool :=
  let p := s.entPart f
  let r := s.fplan p f
  decide (1 ≤ a.tiles) && decide (a.tiles ≤ 6144) && decide (a.uses ≠ 0) && (decide (a.span = 0xFFFF) || decide (a.span < 4096)) &&
  ((s.plan p).any fun pl => decide (a.cls < pl.pclass.length)) && ((s.group p a.grp).any fun g => decide (a.lane < g.lanes)) &&
  decide (r.lbase ≤ a.lpage) && decide (a.lpage + pagesFor a.tiles ≤ r.lbase + r.lpages) &&
  s.ledger.entries.all fun e => !(decide (e.1 / 65536 = f) && decide (e.2.st ≠ 0) &&
    decide (a.lpage < e.2.lpage + pagesFor e.2.tiles) && decide (e.2.lpage < a.lpage + pagesFor a.tiles))

/-- Entries of a field that are not RETIRED (LDG_STAT.ENTRIES). -/
def State.entriesIn (s : State) (f : Nat) : Nat := Store.count (fun k e => decide (k / 65536 = f) && decide (e.st ≠ 0)) s.ledger.entries

/-- The lowest-numbered RETIRED entry of a field. -/
def State.lowEntry (s : State) (f : Nat) : Option Nat :=
  (List.range (min 65536 (s.entriesIn f + 1))).find? fun n => decide ((s.entry f n).st = 0)

/-- An accession where an entry and pages are there: the new state and the handle (R233). -/
def State.accTry (s : State) (f c : Nat) (a : Acc) : Option (State × Nat) :=
  let p := s.entPart f
  if (s.fplan p f).ledger ≤ s.entriesIn f then none
  else (s.lowEntry f).bind fun n => (s.allocRun p f a.lpage (pagesFor a.tiles)).map fun s =>
    let g := if (s.entry f n).gen = 255 then 1 else (s.entry f n).gen + 1
    let s := s.toSt f n 1 fun _ => { entry0 with
      gen := g, cls := a.cls, lane := a.lane, grp := a.grp, uses := a.uses, tiles := a.tiles, span := a.span,
      lpage := a.lpage, needF := 0xFFFF, step := Store.get 0 s.replay.steps c }
    (s, handleOf p f n g)

/-- An accession by a part of a recording enters the slot (R280). -/
def State.accSlot (s : State) (k h : Nat) : State :=
  match s.partRun k with
  | none => s
  | some (sl, _) =>
    let f := k / 32 / 152
    let t := s.slot f sl
    s.setSlot f sl { t with outs := t.outs ++ [h], digs := t.digs ++ [0], cur := t.cur ++ [0], live := t.live + 1, accs := t.accs + 1 }

/-- The oldest parked accession of a field served, and the next, while there is room (R235). -/
def State.serveAcc (f : Nat) : List Park → State → State
  | [], s => s
  | pk :: r, s =>
    match pk.who with
    | .thread k =>
      match s.accTry f (k / 32) (s.accOps k (pk.sd / 32 % 32) (pk.sd / 1024) pk.n (pk.sd % 32)) with
      | some a => serveAcc f r (((a.1.setSreg k (pk.sd % 32) (BitVec.ofNat 64 a.2)).accSlot k a.2).finish pk 0)
      | none => s
    | _ => serveAcc f r s

/-! ### Slots for recordings (R277) -/

/-- The part of a span whose core is a thread's. -/
def partFor (d : SpanDef) (m : Nat) : Option Nat := d.parts.findIdx? fun x => decide (x.core = m)

/-- A part begins: it joins the slot of its (SID, step), or takes the lowest-numbered FREE one; none where there is none. -/
def State.beginPart (s : State) (k sid step sd : Nat) : Option (State × Nat) :=
  let f := k / 32 / 152
  let c := k / 32
  let open_ := (s.replay.slots.find? fun e => decide (e.1 / 4096 = f) && decide (e.2.st = 1) && decide (e.2.sid = sid) &&
    decide (e.2.step = step) && !e.2.going).map (·.1 % 4096)
  let used := Store.count (fun n t => decide (n / 4096 = f) && decide (t.st ≠ 0)) s.replay.slots
  let n := match open_ with
    | some n => some n
    | none => if (s.fplan (s.entPart f) f).replay ≤ used then none
      else (List.range (min 4096 (used + 1))).find? fun n => decide ((s.slot f n).st = 0)
  (n.bind fun n => ((s.spanDef f sid).bind fun d => partFor d (c % 152)).map fun q => (n, q)).map fun x =>
    let t := s.slot f x.1
    let run : PartRun := ⟨x.2, k, (List.range 15).map fun i => s.sreg k (i + 1), sd, false⟩
    (s.setSlot f x.1 { t with st := 1, sid := sid, step := step, runs := t.runs ++ [run], since := s.now }, x.1)

/-- Parked SPAN.BEGINs that wait for a slot served, oldest first (R277). -/
def State.serveSlots (f : Nat) : List Park → State → State
  | [], s => s
  | pk :: r, s =>
    match pk.who with
    | .thread k =>
      match s.beginPart k pk.n ((s.sreg k (pk.sd / 32)).toNat % 2 ^ 32) (pk.sd % 32) with
      | some a => serveSlots f r ((a.1.unpark pk).parkAt { pk with tgt := .slot f a.2 })
      | none => s
    | _ => serveSlots f r s

/-! ### After a change (R235, R247, R248) -/

/-- What a change of a partition's Ledgers brings: parked accessions, slips and replays that wait for pages, SPAN.BEGINs
that wait for a slot, and emergency spill. -/
def State.settle (s : State) (p : Nat) : State :=
  let fs := s.fieldsOf p
  let s := s.each fs fun s f =>
    let s := s.serveAcc f (s.sync.parks.filter fun pk => decide (pk.tgt = .accession f))
    State.trySlips f (s.waitingMoves f) s
  let s := s.each fs fun s f => (s.tryReplays f).serveSlots f (s.sync.parks.filter fun pk => decide (pk.tgt = .slot f 0xFFFF))
  s.each fs fun s f => s.watchUse f

/-! ### Placement decisions (R237, R240, R241, R257) -/

/-- Whether every tile of an entry has landed (R236). -/
def entryDone (e : Entry) : Bool := (List.range e.tiles).all (bit e.landed)

/-- A placement decision requested (R257). -/
def State.ask (s : State) (f n reason : Nat) : State :=
  s.onLedger fun l =>
    if l.invoc.any fun i => decide (i.f = f) && decide (i.n = n) then
      { l with invoc := l.invoc.map fun i =>
          if i.f = f ∧ i.n = n ∧ ¬(3 ≤ reason ∧ i.reason ≤ 2) then { i with reason := reason } else i }
    else { l with invoc := l.invoc ++ [⟨f, n, reason⟩] }

/-- An entry whose last tile has landed (R236, R239). -/
def State.completed (s : State) (f n : Nat) : State :=
  if (s.entry f n).slip then s.ready f n
  else if s.rd LDG_CTL.EN f = 0 then s.resident f n
  else s.ask f n 0

/-- The entries of a lane put to a decision again (R237). -/
def State.redecide (s : State) (f g l reason : Nat) : State :=
  if s.rd LDG_CTL.EN f = 0 then s
  else s.each (s.ledger.entries.filter fun e => decide (e.1 / 65536 = f) && decide (e.2.grp = g) && decide (e.2.lane = l) &&
    (decide (e.2.st = 2) || decide (e.2.st = 3) || (decide (e.2.st = 1) && entryDone e.2))) fun s e => s.ask f (e.1 % 65536) reason

/-- Whether an entry's plain form lies in a sealed region (R378). -/
def State.sealedEntry (s : State) (f n : Nat) : Bool :=
  let e := s.entry f n
  (List.range (pagesFor e.tiles)).any fun i => s.inRegion (s.entPart f) (e.lpage + i)

/-- A press declined with a code (R240): the entry stays in or enters RESIDENT, and is asked about once more. -/
def State.decline (s : State) (f n code : Nat) : State :=
  let s := ((s.abortMove f n).tally 1 f 0x27 1).tally 1 f (0x57 + code) 1
  let s := s.wr CMP_FSTAT.LAST_DECL f code
  let s := if (s.entry f n).st = 1 then s.resident f n else s
  if s.rd LDG_CTL.EN f = 0 then s else s.ask f n 2

/-- KEEP (R239). -/
def State.keepEntry (s : State) (f n : Nat) : State :=
  let s := s.act f n 0
  if (s.entry f n).st = 1 then s.resident f n else s

/-- DROP (R239, R241): denied, it is carried out as SPILL. -/
def State.dropEntry (s : State) (f n : Nat) : State :=
  if s.rd LDG_CTL.DROP_EN f = 1 && s.replayable f n then
    let s := s.depInputs f n true
    let s := ((s.freeTable f n).freePlain f n).freeMoved f n
    (s.act f n 3).toSt f n 6 fun e => { e with spage := 0, spages := 0, stiles := 0 }
  else (s.tally 1 f 0x28 1).startSpill f n false

/-- A decision carried out (R239-R241). A press under way for the entry leaves it where it is. -/
def State.carry (s : State) (f n d reason : Nat) : State :=
  let e := s.entry f n
  if s.ledger.moves.any (moveOf f n) then s
  else if d = 1 ∧ e.st ≠ 3 ∧ reason ≠ 2 then
    (if s.rd LDG_CTL.PRESS_EN f = 0 then s.decline f n 8
    else if s.sealedEntry f n then s.decline f n 1
    else if (s.part (s.entPart f)).noPress.contains f then s.decline f n 7
    else s.queueMove f n .press true false e.tiles)
  else if d = 2 then s.startSpill f n false
  else if d = 3 then s.dropEntry f n
  else s.keepEntry f n

/-! ### Policy programs (R256-R261) -/

/-- A signed 32-bit number from its bits. -/
def s32 (x : Nat) : Int := (BitVec.ofNat 32 x).toInt

/-- The inputs of an invocation (R260). -/
def State.polInput (s : State) (f n reason i : Nat) : Int :=
  let e := s.entry f n
  let p := s.entPart f
  match i with
  | 0x00 => e.st
  | 0x01 => reason
  | 0x02 => e.tiles
  | 0x03 => e.tiles * 16384
  | 0x04 => e.spages * 65536
  | 0x05 => e.ratio
  | 0x06 => s32 (Store.get 0 s.ledger.fences (laneIdx f e))
  | 0x07 => s.rd LDG_PROG.MARK (laneIdx f e)
  | 0x08 => e.needF
  | 0x09 => e.needM
  | 0x0A => s.distF f n
  | 0x0B => s.ttn f n
  | 0x0C => s.ldgUsed f
  | 0x0D => s.ldgBudget f
  | 0x0E => s.highMark f
  | 0x0F => s.freeT2 p f
  | 0x10 => s.rd LDG_EST.T2R f
  | 0x11 => s.rd LDG_EST.T2W f
  | 0x12 => s.rd LDG_EST.PRESS f
  | 0x13 => s.rd LDG_EST.DEC f
  | 0x14 => s32 (s.rd LDG_EST_TF.TICKS (laneIdx f e))
  | 0x15 => if e.span = 0xFFFF then i32max else (s.slot f e.span).spanTk
  | 0x16 => boolNat (s.replayable f n)
  | 0x17 => boolNat (s.sealedEntry f n)
  | 0x18 => e.uses
  | 0x19 => e.deps
  | 0x1A => e.users
  | 0x1B => boolNat e.late
  | 0x1C => s32 (s.rd LDG_BOOST.TICKS (f * 64 + e.cls))
  | 0x1D => s32 e.step
  | _ => 0

/-- A policy program at work: program counter, registers, the need it has named, counters it has raised. -/
structure Pol where
  pc : Int
  regs : List Int
  need : Option (Nat × Nat)
  cnts : List Nat
deriving DecidableEq, Repr

/-- How an invocation ends: a decision, or a fault at an address (R261). -/
inductive PolEnd where
  | decided (act : Nat)
  | fault (pc code : Nat)
deriving DecidableEq, Repr

/-- A register of a policy program. -/
def Pol.reg (m : Pol) (i : Nat) : Int := m.regs.getD i 0
/-- A register written, saturated. -/
def Pol.put (m : Pol) (i : Nat) (v : Int) : Pol := { m with regs := m.regs.set i (sat32 v), pc := m.pc + 1 }
/-- The low 16 bits of a register. -/
def low16 (x : Int) : Nat := (x % 65536).toNat
/-- A signed field of `w` bits. -/
def sext (w v : Nat) : Int := if 2 ^ (w - 1) ≤ v then (v : Int) - 2 ^ w else v

/-- One instruction of a policy program (R259): its end, or the next state. -/
def polStep (inp : Nat → Int) (cls : Nat → Nat) (w : Nat) (m : Pol) : Sum PolEnd Pol :=
  let d := bits w 25 22
  let a := m.reg (bits w 21 18)
  let b := m.reg (bits w 17 14)
  let imm := bits w 13 0
  let br := fun (t : Bool) => Sum.inr { m with pc := if t then m.pc + 1 + sext 14 imm else m.pc + 1 }
  match bits w 31 26 with
  | 0x01 => .inr (m.put d (sext 22 (bits w 21 0)))
  | 0x02 => .inr (m.put d (s32 ((bits w 21 18 % 4 * 2 ^ 14 + imm) * 65536 + low16 (m.reg d))))
  | 0x03 => .inr (m.put d (inp imm))
  | 0x04 => .inr (m.put d (s32 (cls imm)))
  | 0x05 => .inr (m.put d a)
  | 0x08 => .inr (m.put d (a + b))
  | 0x09 => .inr (m.put d (a - b))
  | 0x0A => .inr (m.put d (a * b))
  | 0x0B => .inr (m.put d (if b = 0 then i32max else a.tdiv b))
  | 0x0C => .inr (m.put d (if b = 0 then 0 else a - b * a.tdiv b))
  | 0x0D => .inr (m.put d (min a b))
  | 0x0E => .inr (m.put d (max a b))
  | 0x0F => .inr (m.put d (a + sext 14 imm))
  | 0x10 => .inr (m.put d (a.fdiv (2 ^ (imm % 32))))
  | 0x11 => .inr (m.put d (a * 2 ^ (imm % 32)))
  | 0x12 => .inr (m.put d (if b ≤ 0 then i32max else -((-(a * 1000)).fdiv b)))
  | 0x18 => br (decide (a < b))
  | 0x19 => br (decide (b ≤ a))
  | 0x1A => br (decide (a = b))
  | 0x1B => br (decide (a ≠ b))
  | 0x1C => br true
  | 0x20 => .inr { m with need := some (low16 a, low16 b), pc := m.pc + 1 }
  | 0x21 => .inr { m with cnts := m.cnts ++ [imm % 8], pc := m.pc + 1 }
  | 0x30 => .inl (.decided (imm % 4))
  | _ => .inl (.fault (m.pc.toNat % 2048) 1)

/-- A policy program run for at most `k` instructions (R258, R261). -/
def polRun (prog : List Nat) (inp : Nat → Int) (cls : Nat → Nat) : Nat → Pol → PolEnd × Pol
  | 0, m => (.fault (m.pc.toNat % 2048) 2, m)
  | k + 1, m =>
    if m.pc < 0 then (.fault ((m.pc % 2048).toNat) 1, m)
    else match prog[m.pc.toNat]? with
      | none => (.fault (m.pc.toNat % 2048) 1, m)
      | some w => match polStep inp cls w m with
        | .inl e => (e, m)
        | .inr m' => polRun prog inp cls k m'

/-- NEED taken effect (R264). -/
def State.setNeed (s : State) (f n : Nat) (need : Option (Nat × Nat)) : State :=
  match need with
  | none => s
  | some (a, b) =>
    if (s.entry f n).needF ≠ 0xFFFF then s
    else s.setEntry f n { s.entry f n with needF := if a = 0xFFFF then 0xFFFE else a, needM := if a = 0xFFFF then 0xFFFF else b }

/-- A faulted invocation recorded (R261). -/
def State.polFlt (s : State) (f cls pc code : Nat) : State :=
  let s := s.log ⟨0x05, 0x80, f, 0xFF, 0, [s.entPart f], 3, cls⟩
  let s := if s.rd LDG_POL_FLT.VALID f = 1 then s.wr LDG_POL_FLT.OVER f 1 else s
  let s := (((s.wr LDG_POL_FLT.VALID f 1).wr LDG_POL_FLT.CLASS f cls).wr LDG_POL_FLT.PC f pc).wr LDG_POL_FLT.CODE f code
  (s.tally 1 f 0x31 1).ldgEvt LDG_POL_EVT.POL_FAULT f

/-- One invocation (R257, R258, R261, R271); a NEED goes with a decision that is discarded (R259). -/
def State.invoke (s : State) (f n reason : Nat) : State :=
  let e := s.entry f n
  let w0 := s.clsWord f e.cls 0
  if !bit w0 11 then s.carry f n (bits w0 13 12) reason
  else
    let s := s.tally 1 f 0x30 1
    let prog := ((s.plan (s.entPart f)).map (·.prog)).getD []
    let r := polRun prog (s.polInput f n reason) (s.clsWord f e.cls) (s.rd LDG_POL_CTL.STEPS f)
      ⟨bits w0 10 0, List.replicate 16 0, none, []⟩
    let s := s.each r.2.cnts fun s c => s.tally 1 f (0x38 + c) 1
    match r.1 with
    | .decided d => (if s.ledger.moves.any (moveOf f n) then s else s.setNeed f n r.2.need).carry f n d reason
    | .fault pc code => (s.polFlt f e.cls pc code).carry f n (bits w0 13 12) reason

/-- POLICY_INVOCATION (R257): the first pending invocation of a field runs; one for an entry in another state is not
run. -/
def execPolicyInvocation (f : FieldId) (s : State) : Host.Outcome State Fault Refusal :=
  .next (match s.ledger.invoc.find? fun i => decide (i.f = f.val) with
    | none => s
    | some i =>
      if !s.running (s.entPart f.val) then s
      else
        let s := s.onLedger fun l => { l with invoc := l.invoc.filter (· ≠ i) }
        let e := s.entry f.val i.n
        if (e.st = 1 ∧ entryDone e) ∨ e.st = 2 ∨ e.st = 3 then (s.invoke f.val i.n i.reason).settle (s.entPart f.val) else s)

/-! ### Scans (R267) -/

/-- The need list of a field, nearest first. -/
def State.needList (s : State) (f : Nat) : List Nat :=
  sortBy (fun a b => decide (s.ttn f a ≤ s.ttn f b))
    ((s.ledger.entries.filter fun e => decide (e.1 / 65536 = f) && decide (e.2.needF ≠ 0xFFFF) && !e.2.slip &&
      [2, 3, 4, 5, 6].contains e.2.st).map (·.1 % 65536))

/-- A scan of the need list (R267): each lead counts the slips that the walk has queued before it (R266). -/
def State.scan (s : State) (f : Nat) : State :=
  let lim : Int := s.rd LDG_POL_CTL.LEAD_MAX f * 1000000
  let l := (s.needList f).takeWhile fun n => decide (s.ttn f n ≤ lim)
  s.each l fun s n =>
    if !(s.entry f n).slip && (decide (s.ttn f n ≤ s.lead f n) || decide (s.ttn f n ≤ 0)) then (s.tally 1 f 0x32 1).slip f n false
    else s

/-- POLICY_SCAN (R267): every SCAN us while the partition runs. -/
def execPolicyScan (f : FieldId) (s : State) : Host.Outcome State Fault Refusal :=
  .next (let p := s.entPart f.val
    if !s.running p then s
    else
      let s := s.reach (Store.get 0 s.ledger.scanAt f.val)
      let s := (s.scan f.val).settle p
      s.onLedger fun l => { l with scanAt := Store.set 0 l.scanAt f.val (s.now + s.rd LDG_POL_CTL.SCAN f.val * 1000) })

/-! ### LEDGER instructions (R231, R232) -/

/-- A handle's entry for a thread's request, or its refusal (R226): BLOCKED, LOST or OLD_GEN. -/
def State.named_ (s : State) (k h : Nat) (g : Nat → Nat → State → State) : State :=
  let src := s.thrSource k
  if hndPart h ≠ src.part ∨ !s.owns src.part (hndField h) then (s.blocked src (h % 2 ^ 24)).done k 3
  else
    let e := s.entry (hndField h) (hndEntry h)
    if e.gen ≠ hndGen h ∨ hndGen h = 0 then s.done k 0xC
    else if e.st = 0 then s.done k (if e.lost then 0xF else 0xC)
    else g (hndField h) (hndEntry h) s

/-- Whether a thread runs a part in replay. -/
def State.inReplay (s : State) (k : Nat) : Bool := (s.partRun k).any fun x => decide ((s.slot (k / 32 / 152) x.1).st = 3)

/-- An accession served at once, refused with RANGE, or parked. -/
def State.accession (s : State) (f k : Nat) (a : Acc) (i : SyncIns) : State :=
  if !s.accOk f a then s.done k 5
  else
    let first := !(s.sync.parks.any fun pk => decide (pk.tgt = .accession f))
    match (if first then s.accTry f (k / 32) a else none) with
    | some r => (((r.1.setSreg k i.sd.val (BitVec.ofNat 64 r.2)).accSlot k r.2).done k 0).settle (s.entPart f)
    | none =>
      let full := decide ((s.fplan (s.entPart f) f).ledger ≤ s.entriesIn f)
      let key := f * 2 + boolNat full
      let s := if Store.get false s.ledger.told key then s else
        (s.onLedger fun l => { l with told := Store.set false l.told key true }).ldgEvt
          (if full then LDG_EVT.ENTRY_FULL else LDG_EVT.BUDGET_WAIT) f
      s.parkThread k (.accession f) false i.imm.toNat i.tag.val (i.sd.val + 32 * i.sa.val + 1024 * i.sb.val)

/-- LDG.ACC (R233-R235, R279, R288). -/
def execLdgAcc (t : Thr) (i : SyncIns) (s : State) : Host.Outcome State Fault Refusal :=
  .next (s.issue t (i.sa = 0 ∨ i.sb = 0) fun k s =>
    if i.rsv ≠ 0 ∨ i.f ∨ bits i.imm.toNat 15 12 ≠ 0 then s.threadFault k 1 0
    else
      let f := t.f.val
      let a := s.accOps k i.sa.val i.sb.val i.imm.toNat i.sd.val
      match s.partRun k with
      | some (sl, part) =>
        let sl' := s.slot f sl
        if part ≠ 0 ∨ 4 ≤ sl'.accs then s.spanFault k 8
        else if sl'.st = 3 then
          ((s.setSlot f sl { sl' with accs := sl'.accs + 1 }).setSreg k i.sd.val (BitVec.ofNat 64 (sl'.outs.getD sl'.accs 0))).done k 0
        else s.accession f k a i
      | none => s.accession f k a i)

/-- LDG.USE (R246, R280, R288). -/
def execLdgUse (t : Thr) (i : SyncIns) (s : State) : Host.Outcome State Fault Refusal :=
  .next (s.issue t (i.sa = 0) fun k s =>
    if i.rsv ≠ 0 then s.threadFault k 1 0
    else
      let h := (s.sreg k i.sa.val).toNat % 2 ^ 32
      if s.inReplay k then s.done k 0
      else
        let sl := (s.partRun k).map (·.1)
        let ins := (sl.map fun n => (s.slot t.f.val n).ins).getD []
        if sl.isSome && !ins.contains h && decide (8 ≤ ins.length) then s.spanFault k 9
        else s.named_ k h fun f n s =>
          let s : State := match sl with
            | some m => if ins.contains h then s else s.setSlot t.f.val m { s.slot t.f.val m with ins := ins ++ [h] }
            | none => s
          let e := s.entry f n
          if decide (e.users = 255) then s.done k 0xE
          else
            let s := s.setEntry f n { e with users := e.users + 1 }
            if !i.f || e.st = 9 || e.st = 2 then s.done k 0
            else
              let s := s.lateUse f n
              let st := (s.entry f n).st
              let s : State := if st = 9 || st = 2 then s.done k 0
                else s.parkThread k (.entry f n) false 0 i.tag.val 0
              s.settle (s.entPart f))

/-- LDG.REL (R244, R288). -/
def execLdgRel (t : Thr) (i : SyncIns) (s : State) : Host.Outcome State Fault Refusal :=
  .next (s.issue t (i.sa = 0) fun k s =>
    let c := i.imm.toNat
    if i.rsv ≠ 0 ∨ (¬i.f ∧ (c = 0 ∨ 255 < c)) then s.threadFault k 1 0
    else if s.inReplay k then s.done k 0
    else s.named_ k ((s.sreg k i.sa.val).toNat % 2 ^ 32) fun f n s =>
      let e := s.entry f n
      let c := if i.f then e.uses else c
      if e.uses < c then s.done k 0xD
      else
        let s := s.setEntry f n { e with uses := e.uses - c, users := e.users - 1 }
        ((s.deaccess f n).done k 0).settle (s.entPart f))

/-- LDG.PROG (R238): the mark of a lane of the issuing core's field, re-decisions and a scan. A lane that is not declared
returns RANGE. -/
def execLdgProg (t : Thr) (i : SyncIns) (s : State) : Host.Outcome State Fault Refusal :=
  .next (s.issue t (i.sa = 0) fun k s =>
    if i.rsv ≠ 0 ∨ i.f then s.threadFault k 1 0
    else s.forbidden k fun s =>
      let f := t.f.val
      let l := bits i.imm.toNat 1 0
      let g := bits i.imm.toNat 5 2
      if (s.group (s.entPart f) g).any fun r => decide (l < r.lanes) then
        let s := s.wr LDG_PROG.MARK (progKey f g l) ((s.sreg k i.sa.val).toNat % 65536)
        ((((s.redecide f g l 4).scan f).done k 0).settle (s.entPart f))
      else s.done k 5)

/-! ### Moves start (R243, R301-R303) -/

/-- The physical page behind a plain-form tile, and the tile's place. -/
def State.plainTile (s : State) (f n i : Nat) : Option Nat :=
  let e := s.entry f n
  (s.dir (s.entPart f) (e.lpage + i / 4)).cur.map fun k => tileKey k (i % 4)

/-- The physical page behind a tile of the moved form, and the tile's place. -/
def State.movedTile (s : State) (f n i : Nat) : Option Nat :=
  let e := s.entry f n
  (s.dir (s.entPart f) (e.spage + i / 4)).cur.map fun k => tileKey k (i % 4)

/-- A page address of the tile-th tile from a logical page (R167). -/
def pageAddr (l tile : Nat) : Nat := 2 ^ 62 + tile % 4 * 2 ^ 40 + (l + tile / 4)

/-- A shelf descriptor of the Residency Engine. -/
def shelfDesc (src dst tiles : Nat) (toSeal : Bool) : Desc :=
  ⟨1, true, toSeal, false, true, false, 0, tiles, 0, 0, src, dst, 0, 0, 0, 0⟩

/-- The pieces of a move: whole pages, at most 252 tiles each, so that no page has two writers. -/
def pieces : Nat → Nat → Nat → List (Nat × Nat)
  | 0, _, _ => []
  | k + 1, at_, left => if left = 0 then [] else (at_, min 252 left) :: pieces k (at_ + 252) (left - 252)

/-- Queued tiles of an engine. -/
def queuedTiles (e : Engine) : Nat := (e.work.map fun w => w.d.tiles - w.retired).sum

/-- The shelf engine with the fewest queued tiles, ties to the lower number. -/
def State.leastShelf (s : State) (f : Nat) : Nat :=
  (List.range 16).foldl (fun b i => if queuedTiles (s.engine (shelfKey f i)) < queuedTiles (s.engine (shelfKey f b)) then i else b) 0

/-- A move's descriptors placed on the shelf engines (R243). -/
def State.placeMove (s : State) (f n src dst tiles : Nat) (toSeal : Bool) : State :=
  s.each (pieces 32 0 tiles).zipIdx fun s x =>
    let k := shelfKey f (s.leastShelf f)
    let e := s.engine k
    s.setEngine k { e with work := e.work ++ [⟨n, x.2, shelfDesc (pageAddr src x.1.1) (pageAddr dst x.1.1) x.1.2 toSeal,
      0, 0, true, true, true, 0⟩] }

/-- The sample of a cupping pass: DTYPE and bytes of the first tiles. -/
def State.sampleOf (s : State) (f n k : Nat) : List (Nat × List Nat) :=
  (List.range k).filterMap fun i => (s.plainTile f n i).map fun t => (hDtype (s.hdr t), payloadBytes (s.payload t))

/-- A move changed. -/
def State.setMove (s : State) (f n : Nat) (g : Move → Move) : State :=
  s.onLedger fun l => { l with moves := l.moves.map fun m => if moveOf f n m then g m else m }

/-- The cupping pass and the start of a press (R300-R303). A spill range without a free run for the pressed form
declines it with BUDGET. -/
def State.startPress (s : State) (f n : Nat) : State :=
  let p := s.entPart f
  let e := s.entry f n
  let sm := min e.tiles (s.rd CMP_CUP.SAMPLE p)
  if ((List.range sm).filterMap (s.plainTile f n)).any s.poisoned then
    (s.tierFlt p f 0x300 8 e.lpage).abortMove f n |> fun s => if (s.entry f n).st = 1 then s.resident f n else s
  else match (List.range 256).find? fun i => decide (Store.get 0 s.ledger.tables (f * 256 + i) = 0), s.spillRun f (pagesFor e.tiles) with
    | none, _ => s.decline f n 5
    | _, none => s.decline f n 6
    | some sl, some l =>
      let s := s.tally 1 f 0x50 1
      match cup (s.rd CMP_CTL.ZRUN_EN p = 1) (s.rd CMP_CUP.ZTHR p) (s.rd CMP_CTL.DECLINE p) (s.sampleOf f n sm) with
      | .declined c => s.decline f n c
      | .table t =>
        let ser := max 1 (Store.get 0 s.ledger.serials f)
        let s := s.onLedger fun y => { y with
          tables := Store.set 0 y.tables (f * 256 + sl) (tableWord { t with tser := ser, entry := n, gen := e.gen })
          serials := Store.set 0 y.serials f (if ser = 0xFFFF then 1 else ser + 1) }
        let s := s.setMove f n fun m => { m with started := true, page := l, table := sl }
        s.placeMove f n e.lpage 0 e.tiles false

/-- A move started. -/
def State.startMove (s : State) (m : Move) : State :=
  let e := s.entry m.f m.n
  match m.kind with
  | .press => s.startPress m.f m.n
  | .spill | .emerg =>
    (s.setMove m.f m.n fun m => { m with started := true }).placeMove m.f m.n (if e.from_ = 3 then e.spage else e.lpage) e.spage m.total true
  | _ => (s.setMove m.f m.n fun m => { m with started := true }).placeMove m.f m.n e.spage e.lpage m.total false

/-- LEDGER_MOVE_START (R243): the first move of the field's queue that may start. A call slip that waits for budget pages
keeps its place and does not start. -/
def execLedgerMoveStart (f : FieldId) (s : State) : Host.Outcome State Fault Refusal :=
  .next (if !s.running (s.entPart f.val) then s
    else match (s.waitingMoves f.val).find? fun m => !(decide (m.kind = .slip) || decide (m.kind = .input)) ||
        decide ((s.entry f.val m.n).st = 7) with
      | none => s
      | some m => (s.startMove m).settle (s.entPart f.val))

/-! ### Presses (R304-R306) -/

/-- The table of a record. -/
def tableOf (r : Nat) : Table := ⟨bits r 95 80, bits r 79 64, bits r 63 48, bits r 47 40, bits r 39 36, bits r 35 32, tableLens r⟩

/-- A plain tile as its press stores it. -/
def State.codedTile (s : State) (f n tab i : Nat) : Option Coded :=
  let t := tableOf (Store.get 0 s.ledger.tables (f * 256 + tab))
  (s.plainTile f n i).map fun k =>
    let b := payloadBytes (s.payload k)
    let r := storeTile t.cfmt t.dtype (hDtype (s.hdr k)) (canonCodes t.lens) b
    ⟨s.hdr k, b, r.1, r.2⟩

/-- A plain tile coded by a press (R304, R305): the stream grows, and its pages with it; BUDGET and RESULT decline. -/
def State.growPress (s : State) (f n i : Nat) : State :=
  match s.ledger.moves.find? fun m => moveOf f n m && decide (m.kind = .press) with
  | none => s
  | some m =>
    let p := s.entPart f
    let e := s.entry f n
    let len := m.len + ((s.codedTile f n m.table i).map fun c => (pad8 c.kept).length).getD 0
    let s := s.setMove f n fun m => { m with len := len, left := m.left - 1 }
    let tiles := cdiv (64 + 32 * e.tiles + len) 16384
    if e.tiles * s.rd CMP_CTL.DECLINE p < tiles * 256 then s.decline f n 4
    else
      let need := (List.range (pagesFor tiles)).filter fun j => (s.dir p (m.page + j)).cur.isNone
      match need.foldl (fun o j => o.bind fun s => s.allocLdg p f (m.page + j)) (some s) with
      | some s' => s'.watchUse f
      | none => s.decline f n 6

/-- CMP_FLT and the fault log. -/
def State.cmpFlt (s : State) (f n code tile : Nat) : State :=
  let p := s.entPart f
  let s := s.log ⟨0x06, code, f, 0xFF, 0, [p], if code = 7 then 5 else 2, n⟩
  let s := if s.rd CMP_FLT.VALID p = 1 then s.wr CMP_FLT.OVER p 1 else s
  (((((s.wr CMP_FLT.VALID p 1).wr CMP_FLT.FIELD p f).wr CMP_FLT.CODE p code).wr CMP_FLT.ENTRY p n).wr CMP_FLT.GEN p
    (s.entry f n).gen).wr CMP_FLT.TILE p tile

/-- A VERIFY mismatch (R306, R478): a second one in the field within an hour declines every later press there. -/
def State.verifyFail (s : State) (f n : Nat) : State :=
  let p := s.entPart f
  let v := (s.part p).verify
  let again := v.any fun x => decide (x.1 = f) && decide (s.now ≤ x.2 + 3600000000000)
  let s := s.setPart p { s.part p with
    verify := (f, s.now) :: v
    noPress := if again then f :: (s.part p).noPress else (s.part p).noPress }
  ((s.cmpFlt f n 7 0).event CMP_EVT.VERIFY_FAIL p p).event PAR_RECOV_EVT.HW_ERROR p p

/-- The header of a pressed tile (R298). -/
def State.pressedHdr (s : State) (f n tab cfmt tag i clen : Nat) : Nat :=
  let e := s.entry f n
  hdrWord { tag := tag, stamp := s.now, clen := clen, ctab := tab, cfmt := cfmt, ppart := s.entPart f, pcore := 0xFF, pfield := f, span := e.span, step := e.step, tile := i, handle := s.handle f n, cols := clen, rows := 1, layout := 2, dtype := 7 } 0

/-- The 2,048 words of up to 16,384 bytes. -/
def wordsOf (b : List Nat) : Store Word :=
  ((groupBytes 8 2048 b).zipIdx.filter fun x => x.1 ≠ 0).map fun x => (x.2, BitVec.ofNat 64 x.1)

/-- A press commits (R305): pressed tiles and headers written, the plain form freed, the entry PRESSED. -/
def State.commitPress (s : State) (f n : Nat) (m : Move) : State :=
  let p := s.entPart f
  let e := s.entry f n
  let t := tableOf (Store.get 0 s.ledger.tables (f * 256 + m.table))
  let l := (List.range e.tiles).filterMap (s.codedTile f n m.table)
  let st := pressedStream (s.handle f n) e.step m.table t l
  let tiles := cdiv st.length 16384
  let tag := ((l.head?).map fun c => hTag c.hdr).getD 0
  let s := s.each (List.range tiles) fun s i =>
    match (s.dir p (m.page + i / 4)).cur with
    | none => s
    | some k =>
      let b := (st.drop (i * 16384)).take 16384
      (s.setPayload (tileKey k (i % 4)) (wordsOf b) true).setHdr (tileKey k (i % 4)) (s.pressedHdr f n m.table t.cfmt tag i b.length)
  let s := s.onLedger fun y => { y with moves := y.moves.filter fun x => !moveOf f n x }
  let s := (((s.freePlain f n).act f n 1).tally 1 f 0x51 1).tally 1 f 0x53 (e.tiles * 16384) |>.tally 1 f 0x54 st.length
  let s := s.toSt f n 3 fun e => { e with spage := m.page, spages := pagesFor tiles, stiles := tiles, ctab := m.table, ratio := cdiv (256 * tiles) e.tiles }
  if s.rd LDG_CTL.EN f = 0 then s else s.ask f n 1

/-- PRESS_COMMIT (R305, R306): once every tile has been coded. `mismatch` is the codecs' finding with VERIFY set. -/
def execPressCommit (f : FieldId) (n : BitVec 16) (mismatch : Bool) (s : State) : Host.Outcome State Fault Refusal :=
  .next (match s.ledger.moves.find? fun m => moveOf f.val n.toNat m && decide (m.kind = .press) with
    | none => s
    | some m =>
      let p := s.entPart f.val
      if !m.started || m.left ≠ 0 || !s.running p then s
      else if mismatch && s.rd CMP_CTL.VERIFY p = 1 then ((s.verifyFail f.val n.toNat).decline f.val n.toNat 7).settle p
      else (s.commitPress f.val n.toNat m).settle p)

/-! ### Spills and fetches commit (R239, R308) -/

/-- SPILL_COMMIT (R239): the last spilled page is sealed; the T1 pages of the spilled form are freed. -/
def execSpillCommit (f : FieldId) (n : BitVec 16) (s : State) : Host.Outcome State Fault Refusal :=
  let f := f.val
  let n := n.toNat
  .next (match s.ledger.moves.find? fun m => moveOf f n m && (decide (m.kind = .spill) || decide (m.kind = .emerg)) with
    | none => s
    | some m =>
      let p := s.entPart f
      let e := s.entry f n
      let sealed_ := (List.range e.spages).all fun i => (s.spillPg p (e.spage + i)).any fun k => decide ((s.page k).st = .sealed)
      if !m.started || m.left ≠ 0 || e.st ≠ 4 || !sealed_ || !s.running p then s
      else
        let s := s.onLedger fun y => { y with moves := y.moves.filter fun x => !moveOf f n x }
        let s := if e.from_ = 3 then
            s.each (List.range e.spages) fun s i =>
              let d := s.dir p (e.spage + i)
              let s := s.setDir p (e.spage + i) { d with cur := d.pend, pend := none }
              match d.cur with | some k => s.freePg k | none => s
          else s.freePlain f n
        (s.toSt f n 5 id).settle p)

/-- The header of a plain tile restored from a directory entry and the entry (R297). -/
def State.restoredHdr (s : State) (f n i d : Nat) : Nat :=
  let e := s.entry f n
  hdrWord { tag := bits d 191 160, stamp := bits d 255 192, ppart := s.entPart f, pcore := bits d 9 2, pfield := bits d 15 10, span := e.span, step := e.step, tile := i, handle := s.handle f n, cols := bits d 55 40, rows := bits d 39 24, layout := bits d 23 20, dtype := bits d 19 16 } 0

/-- The pressed form of an entry decoded into its plain form, or the check it failed (R308). -/
def State.decodeForm (s : State) (f n : Nat) : Except PressFail State :=
  let e := s.entry f n
  let stream := (List.range e.stiles).flatMap fun i => ((s.movedTile f n i).map fun k => payloadBytes (s.payload k)).getD []
  match readStream e.ctab e.tiles n e.gen (Store.get 0 s.ledger.tables (f * 256 + e.ctab)) stream with
  | .error x => .error x
  | .ok l => .ok (s.each l.zipIdx fun s x =>
      match s.plainTile f n x.2 with
      | none => s
      | some k => (s.setPayload k (wordsOf x.1.2) true).setHdr k (s.restoredHdr f n x.2 x.1.1))

/-- A fetch commits: READY, its moved-form pages and table freed (R239, R300). -/
def State.commitFetch (s : State) (f n : Nat) : State :=
  let s := s.onLedger fun y => { y with moves := y.moves.filter fun x => !moveOf f n x }
  let s := (s.freeTable f n).freeMoved f n
  let s := s.setEntry f n { s.entry f n with spage := 0, spages := 0, stiles := 0 }
  s.ready f n

/-- FETCH_COMMIT (R239, R308, R309): every tile has landed; a pressed form is checked and decoded. -/
def execFetchCommit (f : FieldId) (n : BitVec 16) (s : State) : Host.Outcome State Fault Refusal :=
  let f := f.val
  let n := n.toNat
  .next (match s.ledger.moves.find? fun m => moveOf f n m && (decide (m.kind = .slip) || decide (m.kind = .input)) with
    | none => s
    | some m =>
      let p := s.entPart f
      if !m.started || m.left ≠ 0 || (s.entry f n).st ≠ 7 || !s.running p then s
      else if !m.codec then (s.commitFetch f n).settle p
      else match s.decodeForm f n with
        | .ok s' => ((s'.tally 1 f 0x52 1).commitFetch f n).settle p
        | .error x =>
          let s := (s.cmpFlt f n x.code x.tile).event (if x.code = 3 then CMP_EVT.TABLE_UE else CMP_EVT.CHECK_FAIL) p p
          (s.fetchFail f n (pressTier x.code)).settle p)

/-! ### Estimates (R262) -/

/-- An estimate moved toward a sample: bytes over ticks in MB/s. -/
def State.sample (s : State) (est : Field) (f bytes ticks : Nat) : State :=
  let x : Int := (bytes * 1000 / max 1 ticks : Nat)
  let e : Int := s.rd est f
  let v := e + (x - e).tdiv (2 ^ s.rd LDG_POL_CTL.WIN f)
  s.wr est f (min 16777215 (max 1 v.toNat))

end Sys2Proof.Machine
end

