-- ==== Sys2Proof/Machine/Operands.lean ====
section
/-! DEFINITION. The operand forms of streams (07_streams_fences.md R164-R168): descriptors, addresses, the places of a
tile, and the checks at SQ.PUSH. -/

namespace Sys2Proof.Machine

/-- A descriptor from its 256 bits (R165). -/
def descOfBits (n : Nat) : Desc :=
  { op := bits n 3 0, fin := bit n 8, seals := bit n 9, wgt := bit n 10, xf := bit n 11, gate := bit n 12, lane := bits n 14 13, tiles := bits n 23 16, sbufs := bits n 27 24, dbufs := bits n 31 28, src := bits n 95 32, dst := bits n 159 96, takeSrc := bits n 183 160, takeDst := bits n 207 184, sigDst := bits n 231 208, sigSrc := bits n 255 232 }

/-- The reserved bits of a descriptor's first word (R165). -/
def descRsv (n : Nat) : Bool := bit n 15 || decide (bits n 7 4 ≠ 0)

/-- SPACE of an address (R167). -/
def aSpace (a : Nat) : Nat := bits a 63 62
/-- Byte address of a local address. -/
def aByte (a : Nat) : Nat := bits a 18 0
/-- Logical page of a page address. -/
def aPage (a : Nat) : Nat := bits a 39 0
/-- First tile of a page address. -/
def aTile (a : Nat) : Nat := bits a 41 40
/-- Field of another core's address. -/
def aField (a : Nat) : Nat := bits a 61 56
/-- Mapped core of another core's address. -/
def aCore (a : Nat) : Nat := bits a 55 48

/-- Whether the reserved bits of an address are 0, and its SPACE is one of the three (R167). -/
def addrOk (a : Nat) : Bool :=
  match aSpace a with
  | 0 => decide (bits a 61 19 = 0)
  | 1 => decide (bits a 61 42 = 0)
  | 2 => decide (bits a 47 19 = 0)
  | _ => false

/-- Whether the reserved bits of a sync reference are 0 (R166). -/
def refOk (r : Nat) : Bool :=
  match bits r 23 22 with
  | 0 => decide (r = 0)
  | 1 => decide (bits r 21 6 = 0)
  | 2 => decide (bits r 7 6 = 0)
  | _ => decide (bits r 21 14 = 0)

/-- The check of one side of a core engine's descriptor (R164). -/
def State.sideOk (s : State) (p a bufs : Nat) (isSrc : Bool) : Bool :=
  addrOk a &&
  match aSpace a with
  | 1 => decide (bufs = 0)
  | sp => !(isSrc && sp == 2) && decide (aByte a % 16384 = 0) && decide (aByte a + (bufs + 1) * 16384 ≤ 524288) &&
    (sp == 0 || (s.owns p (aField a) && decide (aCore a ≤ 151)))

/-- The check of a sync reference of a descriptor (R164). -/
def State.descRefOk (s : State) (p r : Nat) (take : Bool) : Bool :=
  refOk r && (!take || decide (bits r 23 22 ≤ 1)) &&
  (bits r 23 22 != 2 || (s.owns p (bits r 21 16) && decide (bits r 15 8 ≤ 151)))

/-- Lanes of a core's fence group: one where it has none (R164). -/
def State.lanesAt (s : State) (p f m : Nat) : Nat :=
  match (((s.sect p).map (·.fence)).getD []).find? fun g => g.members.any fun x => decide (x.f = f) && decide (x.m = m) with
  | some g => g.lanes
  | none => 1

/-- Whether a descriptor of a core engine passes every check of R164. -/
def State.descOk (s : State) (p f m n : Nat) : Bool :=
  let d := descOfBits n
  decide (d.op = 1) && decide (d.tiles ≠ 0) && !descRsv n && s.sideOk p d.src d.sbufs true && s.sideOk p d.dst d.dbufs false &&
  s.descRefOk p d.takeSrc true && s.descRefOk p d.takeDst true && s.descRefOk p d.sigSrc false && s.descRefOk p d.sigDst false &&
  decide (d.lane < s.lanesAt p f m)

/-! ### The place of a tile (R168) -/

/-- Where a tile of one side lies: a tile position of a core's local memory, or a tile of a logical page. -/
inductive Place where
  | local (f m n : Nat)
  | page (l t : Nat)
deriving DecidableEq, Repr

/-- Tile `i` of one side of a descriptor of a core. -/
def placeOf (a bufs f m i : Nat) : Place :=
  match aSpace a with
  | 1 => .page (aPage a + (aTile a + i) / 4) ((aTile a + i) % 4)
  | 2 => .local (aField a) (aCore a) (aByte a / 16384 + i % (bufs + 1))
  | _ => .local f m (aByte a / 16384 + i % (bufs + 1))

/-- The source of tile `i` of an engine's descriptor. -/
def srcPlace (k : Nat) (d : Desc) (i : Nat) : Place := placeOf d.src d.sbufs (engField k) (engCore k) i
/-- The destination of tile `i` of an engine's descriptor. -/
def dstPlace (k : Nat) (d : Desc) (i : Nat) : Place := placeOf d.dst d.dbufs (engField k) (engCore k) i

/-- An engine as the source of its requests (R162, SYN_FLT.SUNIT). -/
def State.engSource (s : State) (k : Nat) : Source :=
  ⟨(s.partOf (engField k)).getD 0, engField k, if isShelf k then 0 else engCore k, (if isShelf k then 36 else 32) + engUnit k, !isShelf k⟩

/-! ### Confinement of a span's streams (R279) -/

/-- Whether a ring of a core lies in the scratch window of the part that runs there. -/
def inScratch (l : List SpanPart) (m a bytes : Nat) : Bool :=
  l.any fun x => decide (x.core = m) && decide ((scratch x).1 ≤ a) && decide (a + bytes ≤ (scratch x).2)

/-- Whether logical pages belong to the plain form of an entry that a handle names. -/
def State.inForms (s : State) (hs : List Nat) (l n : Nat) : Bool :=
  hs.any fun h =>
    let e := s.entry (hndField h) (hndEntry h)
    decide (e.gen = hndGen h) && decide (e.lpage ≤ l) && decide (l + n ≤ e.lpage + pagesFor e.tiles)

/-- The confinement sub-code that a descriptor of a span thread breaks: 0 none (R279). -/
def State.confined (s : State) (k : Nat) (d : Desc) : Nat :=
  match s.partRun k with
  | none => 0
  | some (sl, part) =>
    let f := k / 32 / 152
    let m := k / 32 % 152
    let t := s.slot f sl
    let l := ((s.spanDef f t.sid).map (·.parts)).getD []
    let own := (l[part]?).toList
    let ring := fun (a bufs : Nat) => inScratch own m (aByte a) ((bufs + 1) * 16384)
    let np := fun (a : Nat) => (aTile a + d.tiles + 3) / 4
    let ref := fun (r : Nat) => bits r 23 22 = 0 || match s.resolve (s.thrSource k) r false with
      | .obj o => s.privOk k o
      | _ => false
    if (aSpace d.src = 0 && !ring d.src d.sbufs) || (aSpace d.dst = 0 && !ring d.dst d.dbufs) then 3
    else if !([d.sigSrc, d.sigDst, d.takeSrc, d.takeDst].all ref) then 4
    else if aSpace d.src = 1 && !(s.inForms t.ins (aPage d.src) (np d.src) ||
        (List.range (np d.src)).all fun i => (s.rangeOf (s.entPart f) (aPage d.src + i)).any fun r => decide (r.cls = 0)) then 5
    else if aSpace d.dst = 1 && !s.inForms t.outs (aPage d.dst) (np d.dst) then 6
    else if aSpace d.dst = 2 && !(decide (aField d.dst = f) && inScratch l (aCore d.dst) (aByte d.dst) ((d.dbufs + 1) * 16384)) then 6
    else 0

end Sys2Proof.Machine
end

