-- ==== Sys2Proof/Machine/Flags.lean ====
section
/-! DEFINITION. Status words that the device computes as they are read: the engine words of 07_streams_fences.md R188. -/

namespace Sys2Proof.Machine

/-- Tiles of an engine that are in flight (R170). -/
def inFlight (e : Engine) : Nat := (e.flight.filter fun x => decide (x.st = .issued) || decide (x.st = .out)).length

/-- The descriptor whose tile an engine issues next (R170). -/
def nextWork (e : Engine) : Option Work := e.work.find? fun w => decide (w.issued < w.d.tiles)

/-- The take an engine is parked on: 0 TAKE_SRC, 1 TAKE_DST. -/
def State.engPark (s : State) (k : Nat) : Option Park := s.sync.parks.find? fun pk => decide (pk.who = .engine k)

/-- STATE of CORE_SQ_STAT. A wait for a flip or for a Ledger entry is a wait for the source. -/
def State.sqState (s : State) (k : Nat) : Nat :=
  let e := s.engine k
  if e.halt.isSome then 6
  else match nextWork e with
    | none => if inFlight e = 0 then 0 else 1
    | some w =>
      if w.d.gate ∧ w.issued = 0 ∧ ¬w.gated ∧ e.kicks = 0 then 4
      else match s.engPark k with
        | some pk => if pk.sd = 0 then 3 else 2
        | none => match e.wait with
          | .flip _ => 3
          | .entry _ _ => 3
          | .back => 5
          | .none => 1

/-- Batch slots of an engine that are occupied. -/
def slotsUsed (e : Engine) : List Nat := (e.work.map (·.slot)).eraseDups

/-- The CORE_SQ_STAT word of an engine. -/
def State.sqStat (s : State) (k : Nat) : Nat :=
  let e := s.engine k
  s.sqState k * 2 ^ 29 + ((e.halt.map (·.cause)).getD 0) % 256 * 2 ^ 16 + e.kicks % 256 * 2 ^ 8 + inFlight e % 8 * 2 ^ 5 +
    (slotsUsed e).length % 8 * 2 ^ 2

/-- The CORE_SQ_CUR word of an engine: while it is HALTED the cursor saved, else the last one. -/
def State.sqCur (s : State) (k : Nat) : Nat := (s.engine k).cursor

end Sys2Proof.Machine
end

