-- ==== Sys2Proof/Machine/Flash.lean ====
section
/-! DEFINITION. Owners of edge dies (03_partitions_admission.md R61), and where the repository keeps a tile
(05_repository.md R118, R119, R133). -/

namespace Sys2Proof.Machine

/-! ### Owners of edge dies (R61) -/

/-- The fields of PAR_LD_OWN by link die. -/
def ldOwn : List (Field × Field) :=
  [(PAR_LD_OWN.VALID0, PAR_LD_OWN.OWNER0), (PAR_LD_OWN.VALID1, PAR_LD_OWN.OWNER1), (PAR_LD_OWN.VALID2, PAR_LD_OWN.OWNER2), (PAR_LD_OWN.VALID3, PAR_LD_OWN.OWNER3),
   (PAR_LD_OWN.VALID4, PAR_LD_OWN.OWNER4), (PAR_LD_OWN.VALID5, PAR_LD_OWN.OWNER5), (PAR_LD_OWN.VALID6, PAR_LD_OWN.OWNER6), (PAR_LD_OWN.VALID7, PAR_LD_OWN.OWNER7)]

/-- The fields of PAR_FD_OWN by flash die. -/
def fdOwn : List (Field × Field) :=
  [(PAR_FD_OWN.VALID0, PAR_FD_OWN.OWNER0), (PAR_FD_OWN.VALID1, PAR_FD_OWN.OWNER1), (PAR_FD_OWN.VALID2, PAR_FD_OWN.OWNER2), (PAR_FD_OWN.VALID3, PAR_FD_OWN.OWNER3),
   (PAR_FD_OWN.VALID4, PAR_FD_OWN.OWNER4), (PAR_FD_OWN.VALID5, PAR_FD_OWN.OWNER5), (PAR_FD_OWN.VALID6, PAR_FD_OWN.OWNER6), (PAR_FD_OWN.VALID7, PAR_FD_OWN.OWNER7),
   (PAR_FD_OWN.VALID8, PAR_FD_OWN.OWNER8), (PAR_FD_OWN.VALID9, PAR_FD_OWN.OWNER9), (PAR_FD_OWN.VALID10, PAR_FD_OWN.OWNER10), (PAR_FD_OWN.VALID11, PAR_FD_OWN.OWNER11),
   (PAR_FD_OWN.VALID12, PAR_FD_OWN.OWNER12), (PAR_FD_OWN.VALID13, PAR_FD_OWN.OWNER13), (PAR_FD_OWN.VALID14, PAR_FD_OWN.OWNER14), (PAR_FD_OWN.VALID15, PAR_FD_OWN.OWNER15)]

/-- The owner that a pair of ownership fields names. -/
def State.ownerIn (s : State) (l : List (Field × Field)) (n : Nat) : Option Nat :=
  (l[n]?).bind fun x => if s.rd x.1 0 = 1 then some (s.rd x.2 0) else none

/-- The partition that owns a link die. -/
def State.linkOwner (s : State) (n : Nat) : Option Nat := s.ownerIn ldOwn n

/-- The partition that owns a flash die. -/
def State.flashOwner (s : State) (d : Nat) : Option Nat := s.ownerIn fdOwn d

/-! ### Shares and striping (R118) -/

/-- The dies of a partition's share: those it owns that are not ABSENT, ascending. -/
def State.shareDies (s : State) (p : Nat) : List Nat :=
  (List.range 16).filter fun d => decide (s.flashOwner d = some p) && decide (s.rd REPO_DIE.STATE d ≠ 3)

/-- Where a tile of a share is kept: channel of the device, slot. -/
def State.flashPlace (s : State) (p i t : Nat) : Nat × Nat :=
  let dies := s.shareDies p
  let u := 4 * i + t
  let k := u / max 1 dies.length
  let st := k / 15
  ((dies.getD (u % max 1 dies.length) 0) * 16 + (st % 16 + 1 + k % 15) % 16, st)

/-- Whether a channel does not serve its chunks itself: not OK (R132-R134). -/
def State.chanBad (s : State) (c : Nat) : Bool := decide (s.rd REPO_CH.STATE c ≠ 0)

/-- Whether some other channel of a channel's die is not OK: its chunks cannot be reconstructed (R119, R133). -/
def State.noRebuild (s : State) (c : Nat) : Bool :=
  ((List.range 16).map (c / 16 * 16 + ·)).any fun x => decide (x ≠ c) && s.chanBad x

/-- Whether a T3 tile can be read neither from its chunk nor by reconstruction (R133). -/
def State.flashLost (s : State) (key : Nat) : Bool :=
  let k := key / 4
  let c := (s.flashPlace (k / 2 ^ 40 % 64) (k % 2 ^ 40) (key % 4)).1
  decide (k / 2 ^ 40 / 64 = 3) && (Store.get false s.repo.lost key || (s.chanBad c && s.noRebuild c))

end Sys2Proof.Machine
end

