-- ==== Sys2Proof/Machine/Threads.lean ====
section
/-! DEFINITION. The scalar, vector, matrix, control, memory and thread instructions (06_cores_threads.md). The manual
leaves the encodings and results of the compute classes to Yalust output (00_scope.md "What this manual leaves out"):
a result is a free value of the instruction's bits and its operands (R142). -/

namespace Sys2Proof.Machine

/-! ### Compute classes (R142) -/

/-- A thread's scalar registers. -/
def State.sregs (s : State) (k : Nat) : List Word := (List.range 32).map (s.sreg k)
/-- A thread's vector registers. -/
def State.vregs (s : State) (k : Nat) : List Vec := (List.range 8).map (s.vreg k)
/-- A word of an accumulator bank: 128 words of two FP32 elements each. -/
def State.acc (s : State) (c b i : Nat) : Word := Store.get 0 s.cores.accs ((c * 4 + b) * 128 + i)
/-- A bank's words. -/
def State.bank (s : State) (c b : Nat) : List Word := (List.range 128).map (s.acc c b)
/-- A bank written whole. -/
def State.setBank (s : State) (c b : Nat) (g : Nat → Word) : State :=
  s.onCores fun u => { u with accs := (List.range 128).foldl (fun m i => Store.set 0 m ((c * 4 + b) * 128 + i) (g i)) u.accs }

/-- A scalar instruction: its destination register takes its result (R142). -/
def execScalarOp (t : Thr) (w : BitVec 59) (s : State) : Host.Outcome State Fault Refusal :=
  .next (s.issue t (Config.readsS0 w.toNat) fun k s =>
    (s.setSreg k (Config.scalarDest w.toNat % 32) (Config.scalarValue w.toNat (s.sregs k))).nextPc k)

/-- A vector instruction: its destination, a vector register or (a reduction) a scalar register, takes its result. -/
def execVectorOp (t : Thr) (w : BitVec 59) (s : State) : Host.Outcome State Fault Refusal :=
  .next (s.issue t (Config.readsS0 w.toNat) fun k s =>
    let v := Config.vectorValue w.toNat (s.vregs k) (s.sregs k)
    let d := Config.vectorDest w.toNat % 40
    (if d < 8 then s.setVreg k d v else s.setSreg k (d - 8) (BitVec.ofNat 64 v.toNat)).nextPc k)

/-! ### Control (R152) -/

/-- A thread goes on at a word. -/
def State.jump (s : State) (k pc : Nat) : State := s.setThread k { s.thread k with pc := pc }

/-- BR. -/
def execBr (t : Thr) (dest : BitVec 13) (s : State) : Host.Outcome State Fault Refusal :=
  .next (s.issueJump t false fun k s => s.jump k dest.toNat)

/-- BRC: taken, or on to the next word, where there is one (R146). -/
def execBrc (t : Thr) (w : BitVec 59) (dest : BitVec 13) (s : State) : Host.Outcome State Fault Refusal :=
  .next (s.issueJump t (Config.readsS0 w.toNat) fun k s =>
    if Config.branchTaken w.toNat (s.sregs k) then s.jump k dest.toNat
    else if (s.thread k).pc = 8191 then s.threadFault k 1 0 else s.nextPc k)

/-- CALL: the return address goes to a scalar register, since a thread's context holds nothing else for it. -/
def execCall (t : Thr) (sd : SReg) (dest : BitVec 13) (s : State) : Host.Outcome State Fault Refusal :=
  .next (s.issueJump t false fun k s =>
    (s.setSreg k sd.val (BitVec.ofNat 64 ((s.thread k).pc + 1))).jump k dest.toNat)

/-- RET: on at the return address; past word 8,191 it faults (R146). -/
def execRet (t : Thr) (sa : SReg) (s : State) : Host.Outcome State Fault Refusal :=
  .next (s.issueJump t (sa = 0) fun k s =>
    if 8191 < (s.sreg k sa.val).toNat then s.threadFault k 1 0 else s.jump k (s.sreg k sa.val).toNat)

/-! ### Local memory (R143, R144, R147) -/

/-- A local word of a core. -/
def State.lword (s : State) (t : Thr) (w : Nat) : MWord := s.word (localWord t.f.val t.m.val w)

/-- Whether an access of `n` bytes at an address, aligned to `al`, lies in local memory (R143). -/
def localOk (a n al : Nat) : Bool := decide (a % al = 0) && decide (a + n ≤ 0x80000)

/-- Bytes `lg` of a word at a byte offset, zero- or sign-extended. -/
def loadPart (w : Word) (off n : Nat) (sext : Bool) : Word :=
  let v := w.toNat / 2 ^ (8 * off) % 2 ^ (8 * n)
  if sext && 2 ^ (8 * n - 1) ≤ v then BitVec.ofInt 64 (Int.ofNat v - Int.ofNat (2 ^ (8 * n))) else BitVec.ofNat 64 v

/-- A word with `n` bytes at an offset replaced. -/
def mergePart (w v : Word) (off n : Nat) : Word :=
  let lo := 2 ^ (8 * off)
  let m := 2 ^ (8 * n)
  BitVec.ofNat 64 (w.toNat - w.toNat / lo % m * lo + v.toNat % m * lo)

/-- LD of 1, 2, 4 or 8 bytes: the F/E bit is ignored (R144). -/
def execLd (t : Thr) (lg : Fin 4) (sext : Bool) (sd : SReg) (addr : BitVec 64) (s : State) :
    Host.Outcome State Fault Refusal :=
  .next (s.issue t false fun k s =>
    let n := 2 ^ lg.val
    let a := addr.toNat
    if !localOk a n n then s.threadFault k 2 0
    else if !s.scrOk k a n then s.spanFault k 3
    else
      let w := s.lword t (a / 8)
      if w.poison then s.threadFault k 3 0
      else (s.setSreg k sd.val (loadPart w.data (a % 8) n sext)).nextPc k)

/-- ST of 1, 2, 4 or 8 bytes: the F/E bit stays; a full word clears poison, a part of a poisoned word faults (R147). -/
def execSt (t : Thr) (lg : Fin 4) (sb : SReg) (addr : BitVec 64) (s : State) : Host.Outcome State Fault Refusal :=
  .next (s.issue t (sb = 0) fun k s =>
    let n := 2 ^ lg.val
    let a := addr.toNat
    if !localOk a n n then s.threadFault k 2 0
    else if !s.scrOk k a n then s.spanFault k 3
    else
      let w := s.lword t (a / 8)
      if w.poison ∧ n < 8 then s.threadFault k 3 0
      else (s.setWord (localWord t.f.val t.m.val (a / 8))
        ⟨mergePart w.data (s.sreg k sb.val) (a % 8) n, w.full, false⟩).nextPc k)

/-- The words of a vector access. -/
def State.lwords (s : State) (t : Thr) (a n : Nat) : List MWord := (List.range n).map fun i => s.lword t (a / 8 + i)

/-- Words stored one after the other, whole, their F/E bits unchanged. -/
def State.putWords (s : State) (t : Thr) (a : Nat) (l : List Word) : State :=
  s.each l.zipIdx fun s v => s.setWord (localWord t.f.val t.m.val (a / 8 + v.2)) ⟨v.1, (s.lword t (a / 8 + v.2)).full, false⟩

/-- LD.V: 64 bytes into a vector register. -/
def execLdV (t : Thr) (vd : VReg) (addr : BitVec 64) (s : State) : Host.Outcome State Fault Refusal :=
  .next (s.issue t false fun k s =>
    if !localOk addr.toNat 64 8 then s.threadFault k 2 0
    else if !s.scrOk k addr.toNat 64 then s.spanFault k 3
    else
      let l := s.lwords t addr.toNat 8
      if l.any (·.poison) then s.threadFault k 3 0
      else (s.setVreg k vd.val (BitVec.ofNat 512 (ofBytes (l.flatMap fun w => bytesOf 8 w.data.toNat)))).nextPc k)

/-- The eight words of a vector register, lowest first. -/
def vecWords (v : Vec) : List Word := (List.range 8).map fun i => BitVec.ofNat 64 (v.toNat / 2 ^ (64 * i))

/-- ST.V: a vector register into 64 bytes. -/
def execStV (t : Thr) (vb : VReg) (addr : BitVec 64) (s : State) : Host.Outcome State Fault Refusal :=
  .next (s.issue t false fun k s =>
    if !localOk addr.toNat 64 8 then s.threadFault k 2 0
    else if !s.scrOk k addr.toNat 64 then s.spanFault k 3
    else (s.putWords t addr.toNat (vecWords (s.vreg k vb.val))).nextPc k)

/-- LD.HDR: a header-store slot into a vector register (R147). -/
def execLdHdr (t : Thr) (vd : VReg) (slot : Fin 32) (s : State) : Host.Outcome State Fault Refusal :=
  .next (s.issue t false fun k s =>
    (s.setVreg k vd.val (BitVec.ofNat 512 (s.hdr (localTile t.f.val t.m.val slot.val)))).nextPc k)

/-- ST.HDR (R585): TAG, TILE, ROWS, COLS, LAYOUT and DTYPE from the register, the rest as the device writes it. -/
def execStHdr (t : Thr) (vb : VReg) (slot : Fin 32) (s : State) : Host.Outcome State Fault Refusal :=
  .next (s.issue t false fun k s =>
    let h := (s.vreg k vb.val).toNat
    let p := (s.thrSource k).part
    let x : Hdr := { tag := hTag h, tile := hTile h, rows := hRows h, cols := hCols h, layout := hLayout h, dtype := hDtype h, ppart := p, pfield := t.f.val, pcore := t.m.val }
    (s.setHdr (localTile t.f.val t.m.val slot.val) (hdrWord x 0)).nextPc k)

/-! ### Matrix (R138, R142, R152) -/

/-- The banks a thread may use (R138). -/
def State.banksOf (s : State) (t : Thr) : Nat :=
  (((s.program t.f.val t.m.val).bind fun p => p.threads.find? (·.t = t.t.val)).map (·.banks)).getD 0

/-- A matrix instruction on a claimed bank; else the thread faults with BANK (R155). -/
def State.onBank (s : State) (t : Thr) (bank : Fin 4) (g : Nat → State → State) : State :=
  s.issue t false fun k s =>
    if bit (s.banksOf t) bank.val then g k (s.tally 0 (k / 32) 0x11 1) else s.threadFault k 4 0

/-- MMA into a claimed bank. -/
def execMma (t : Thr) (bank : Fin 4) (w : BitVec 59) (s : State) : Host.Outcome State Fault Refusal :=
  .next (s.onBank t bank fun k s =>
    (s.setBank (k / 32) bank.val fun i => Config.mmaWord w.toNat i (s.bank (k / 32) bank.val) (s.vregs k)).nextPc k)

/-- ACC.LD: a bank from 1 KiB of local memory. -/
def execAccLd (t : Thr) (bank : Fin 4) (addr : BitVec 64) (s : State) : Host.Outcome State Fault Refusal :=
  .next (s.onBank t bank fun k s =>
    if !localOk addr.toNat 1024 8 then s.threadFault k 2 0
    else if !s.scrOk k addr.toNat 1024 then s.spanFault k 3
    else if (s.lwords t addr.toNat 128).any (·.poison) then s.threadFault k 3 0
    else (s.setBank (k / 32) bank.val fun i => (s.lword t (addr.toNat / 8 + i)).data).nextPc k)

/-- ACC.ST: a bank into 1 KiB of local memory. -/
def execAccSt (t : Thr) (bank : Fin 4) (addr : BitVec 64) (s : State) : Host.Outcome State Fault Refusal :=
  .next (s.onBank t bank fun k s =>
    if !localOk addr.toNat 1024 8 then s.threadFault k 2 0
    else if !s.scrOk k addr.toNat 1024 then s.spanFault k 3
    else (s.putWords t addr.toNat (s.bank (k / 32) bank.val)).nextPc k)

/-- ACC.ZERO. -/
def execAccZero (t : Thr) (bank : Fin 4) (s : State) : Host.Outcome State Fault Refusal :=
  .next (s.onBank t bank fun k s => (s.setBank (k / 32) bank.val fun _ => 0).nextPc k)

/-! ### Threads (R139, R154) -/

/-- An instruction of an unlisted class, or a reserved encoding (R152). -/
def execIllegalOp (t : Thr) (s : State) : Host.Outcome State Fault Refusal :=
  .next (s.issueJump t false fun k s => s.threadFault k 1 0)

/-- THR.START (R154): an IDLE or DONE thread that the program declares starts at its entry point; a span
thread is never started so (R274). -/
def execThrStart (t : Thr) (target : ThreadId) (s : State) : Host.Outcome State Fault Refusal :=
  .next (s.issue t false fun k s => s.forbidden k fun s =>
    match (s.program t.f.val t.m.val).bind fun p => p.threads.find? (·.t = target.val) with
    | none => s.done k 5
    | some d =>
      let j := thrKey t.f.val t.m.val target.val
      let th := s.thread j
      if ((s.program t.f.val t.m.val).any fun p => p.spans.contains target.val) then s.done k 0x11
      else if th.st = .idle ∨ th.st = .done then
        (s.setThread j { th with st := .ready, pc := d.entry % 8192 }).done k 0
      else s.done k 0x11)

/-- THR.EXIT (R154). -/
def execThrExit (t : Thr) (s : State) : Host.Outcome State Fault Refusal :=
  .next (s.issueJump t false fun k s => s.setThread k { s.thread k with st := .done })

/-- THR.ID: the thread identity, whose form the manual does not give. -/
def execThrId (t : Thr) (sd : SReg) (s : State) : Host.Outcome State Fault Refusal :=
  .next (s.issue t false fun k s =>
    (s.setSreg k sd.val (Config.threadIdent t.f.val t.m.val t.t.val)).nextPc k)

end Sys2Proof.Machine
end

