-- ==== Sys2Proof/Machine/Streams.lean ====
section
/-! DEFINITION. Stream engines: the STREAM instructions and the steps of a tile (07_streams_fences.md, 04_memory_tiers.md
R93-R109, 08_synchronisation.md R207, 09_ledger.md R230). -/

namespace Sys2Proof.Machine

/-! ### Instructions (R163, R174, R185) -/

/-- The engine of a thread's core. -/
def ownEng (k e : Nat) : Nat := k / 32 * 4 + e

/-- The lowest free batch slot of an engine. -/
def freeBatch (e : Engine) : Option Nat := (List.range 4).find? fun i => !(slotsUsed e).contains i

/-- The eight descriptors of a batch in local memory. -/
def State.batch (s : State) (t : Thr) (a : Nat) : List Nat :=
  (List.range 8).map fun i => ofBytes ((s.lwords t (a + 32 * i) 4).flatMap fun w => bytesOf 8 w.data.toNat)

/-- SQ.PUSH (R163, R164, R279): the batch is refused whole, or takes a slot; one of NOPs alone takes none. -/
def execSqPush (t : Thr) (e : Fin 4) (addr : BitVec 64) (s : State) : Host.Outcome State Fault Refusal :=
  .next (s.issue t false fun k s =>
    let a := addr.toNat
    let q := ownEng k e.val
    let p := (s.thrSource k).part
    if a % 256 ≠ 0 ∨ 524288 < a + 256 then s.threadFault k 2 0
    else match freeBatch (s.engine q) with
      | none => s.done k 0x12
      | some sl =>
        if (s.lwords t a 32).any (·.poison) then s.threadFault k 3 0
        else
          let l := (s.batch t a).zipIdx.filter fun x => decide (bits x.1 3 0 ≠ 0)
          if !(l.all fun x => s.descOk p t.f.val t.m.val x.1) then (s.setSreg k 0 0x13).threadFault k 6 0
          else match (l.map fun x => s.confined k (descOfBits x.1)).find? (· ≠ 0) with
            | some sub => (s.setSreg k 0 0x15).spanFault k sub
            | none =>
              let w : List Work := l.map fun x => ⟨sl, x.2, descOfBits x.1, 0, 0, false, false, false, 0⟩
              ((s.setEngine q { s.engine q with work := (s.engine q).work ++ w }).done k 0).judgeAll p)

/-- SQ.KICK (R174). -/
def execSqKick (t : Thr) (e : Fin 4) (s : State) : Host.Outcome State Fault Refusal :=
  .next (s.issue t false fun k s =>
    let q := ownEng k e.val
    let g := s.engine q
    if 255 ≤ g.kicks then s.done k 1 else (s.setEngine q { g with kicks := g.kicks + 1 }).done k 0)

/-- SQ.STAT (R174): the engine's status word. -/
def execSqStat (t : Thr) (e : Fin 4) (sd : SReg) (s : State) : Host.Outcome State Fault Refusal :=
  .next (s.issue t false fun k s =>
    (s.done k 0).setSreg k sd.val (BitVec.ofNat 64 (s.sqStat (ownEng k e.val))))

/-- An engine goes on from its cursor (R185 mode 0): a tile that failed is issued again. -/
def State.resumeEngine (s : State) (q : Nat) : State := s.setEngine q { s.engine q with halt := none, wait := .none }

/-- SQ.RESUME mode 0 (R185, R502). -/
def execSqResumeReissue (t : Thr) (e : Fin 4) (s : State) : Host.Outcome State Fault Refusal :=
  .next (s.issue t false fun k s =>
    let q := ownEng k e.val
    if (s.engine q).halt.isNone then s.done k 0x14 else ((s.resumeEngine q).done k 0).judgeAll (s.thrSource k).part)

/-- The descriptors of a stream from its head through its END. -/
def toEnd : List Work → List Work × List Work
  | [] => ([], [])
  | w :: r => if w.d.fin then ([w], r) else ((toEnd r).map (w :: ·) id)

/-- The flip groups whose pages the tiles issued of some descriptors read. -/
def State.groupsRead (s : State) (p : Nat) (l : List Work) : List Nat :=
  (l.flatMap fun w => (List.range w.issued).filterMap fun i => (srcPage w.d i).bind (s.groupOf p)).eraseDups

/-- The rest of a halted stream abandoned (R185 mode 1, R498, R499). -/
def State.abandon (s : State) (q : Nat) : State :=
  let e := s.engine q
  let p := (s.partOf (engField q)).getD 0
  let skip := e.work.takeWhile fun w => decide (w.retired = w.d.tiles)
  let cut := toEnd (e.work.drop skip.length)
  let gone := fun (x : Flight) => cut.1.any fun w => decide (w.slot = x.slot) && decide (w.idx = x.idx)
  let s := s.each (e.flight.filter gone) fun s x =>
    if x.st = .landed then s else match x.rpage with | some r => s.readEnd r | none => s
  let pages := cut.1.flatMap fun w => (List.range w.d.tiles).filterMap fun i => match dstPlace q w.d i with
    | .page l _ => s.target p l
    | _ => none
  let s := s.each pages.eraseDups fun s c => if pageTier c = 2 && decide ((s.page c).writer = .engine q) then s.invalidate c else s
  let s := s.onSync fun y => { y with parks := y.parks.filter fun pk => decide (pk.who ≠ .engine q) }
  let rest := skip ++ cut.2
  s.setEngine q { e with work := rest, flight := e.flight.filter (!gone ·), halt := none, wait := .none, groups := s.groupsRead p cut.2 }

/-- SQ.RESUME mode 1 (R185, R500, R502). -/
def execSqResumeAbandon (t : Thr) (e : Fin 4) (s : State) : Host.Outcome State Fault Refusal :=
  .next (s.issue t false fun k s =>
    let q := ownEng k e.val
    if (s.engine q).halt.isNone then s.done k 0x14
    else
      let late := (s.engine q).work.all fun w => decide (w.retired = w.d.tiles)
      (s.abandon q).done k (if late then 8 else 0))

/-! ### What a tile reads and writes (R100, R107, R173, R230) -/

/-- What a read of a page finds: a physical page, a fault, or something to wait for. -/
inductive Rd where
  | page (k : Nat)
  | fault (c : Nat)
  | entry (f n : Nat)
  | flip (g : Nat)
  | back
deriving DecidableEq, Repr

/-- Whether an entry's plain form is backed by pages that programs read (R229). -/
def backed (e : Entry) : Bool := [1, 2, 9].contains e.st || (decide (e.st = 4) && decide (e.from_ ≠ 3))

/-- A read of a physical page judged (R94, R95, R107). -/
def State.readPhys (s : State) (c : Nat) : Rd :=
  if pageTier c = 0 then .page c
  else if pageTier c = 3 ∧ (s.volOf (pageField c) (pageIdx c)).any (fun v => decide (v.2.st = 4)) then .fault 7
  else match s.pgSt c with
    | .sealed => if 65535 ≤ (s.page c).readers then .back else .page c
    | .opened => .fault 3
    | .invalid => .fault 5
    | _ => .fault 4

/-- A read of a logical page by a core engine (R230, R98, R105, R107). -/
def State.readLog (s : State) (p k l : Nat) : Rd :=
  match s.lpage p l with
  | .undeclared => .fault 0xB
  | .spill _ => .fault 0xB
  | .remote _ => .fault 7
  | .ledger f => match s.entryAt f l with
    | none => .fault 4
    | some n =>
      if backed (s.entry f n) then match (s.dir p l).cur with
        | some c => s.readPhys c
        | none => .fault 4
      else .entry f n
  | .range r _ =>
    let wait := match r.group with
      | some g => if (s.mem.flips.any fun x => decide (x.part = p) && decide (x.group = g)) && !(s.engine k).groups.contains g then some g else none
      | none => none
    match wait with
    | some g => .flip g
    | none => match s.current p l with
      | none => .fault 4
      | some c => match s.readPhys c, (s.dir p l).mirror with
        | .page _, some m => s.readPhys m
        | r, _ => r

/-- What a write of a page finds: the page, nothing to write (a remote range, a discarded write), a fault, no free page, or
a refusal at injection. -/
inductive Wr where
  | page (s : State) (k : Nat)
  | none
  | fault (c : Nat)
  | short (c : Nat)
  | back

/-- A handle that a replay on a core is producing, of those that an entry is named by (R288). -/
def State.replayOut (s : State) (c f n : Nat) : Option Bool :=
  let h := s.handle f n
  ((List.range 32).findSome? fun t => (s.partRun (c * 32 + t)).bind fun x =>
    let sl := s.slot f x.1
    if sl.st = 3 ∧ sl.outs.contains h then some (sl.redo.contains h) else Option.none)

/-- A write of a logical page by a core engine (R92, R107, R173, R230, R236, R288). -/
def State.writeLog (s : State) (p k l : Nat) : Wr :=
  match s.lpage p l with
  | .undeclared => .fault 0xB
  | .spill _ => .fault 0xB
  | .remote t => if s.exportRoom t then .none else .back
  | .ledger f => match s.entryAt f l with
    | Option.none => .fault 4
    | some n =>
      let e := s.entry f n
      let go := match (s.dir p l).cur with | some c => Wr.page s c | Option.none => .fault 4
      if engField k = f then match s.replayOut (k / 4) f n with
        | some true => if e.st = 8 then go else .none
        | some false => .none
        | Option.none => if e.st = 1 ∧ ¬entryDone e then go else .fault 1
      else if e.st = 1 ∧ ¬entryDone e then go else .fault 1
  | .range r f =>
    if r.tier = 0 then (match s.current p l with | some c => .page s c | Option.none => .fault 4)
    else if r.tier = 3 then .fault 6
    else match (s.target p l).filter fun c => (s.page c).st ≠ .free with
      | some c =>
        let g := s.page c
        if r.tier = 1 then (if g.st = .freeing then .fault 1 else .page s c)
        else match g.st with
          | .opened => if g.writer = .engine k then .page s c else .fault 2
          | .invalid => .fault 5
          | _ => .fault 1
      | Option.none =>
        let put := fun (a : State × Nat) =>
          let d := a.1.dir p l
          Wr.page (a.1.setDir p l (if r.group.isSome then { d with pend := some a.2 } else { d with cur := some a.2 })) a.2
        if r.tier = 1 then (match s.allocT1 p f l r.cls r.t1class (.engine k) with | some a => put a | Option.none => .short 0x23)
        else match s.allocT2 p f l r.cls (.engine k) with | some a => put a | Option.none => .short 0x20

/-- The move that a shelf engine's descriptor belongs to. -/
def State.shelfMove (s : State) (k : Nat) (w : Work) : Option Move := s.ledger.moves.find? fun m => moveOf (engField k) w.slot m && m.started

/-- A write of a logical page by a shelf engine (R239, R243): the spill's T2 page, or the plain form's T1 page; a press and
a coded fetch write nothing until they commit. -/
def State.writeShelf (s : State) (p k : Nat) (w : Work) (l : Nat) : Wr :=
  match s.shelfMove k w with
  | none => .none
  | some m =>
    if m.kind = .press ∨ ((m.kind = .slip ∨ m.kind = .input) ∧ m.codec) then .none
    else if m.kind = .slip ∨ m.kind = .input then (match (s.dir p l).cur with | some c => .page s c | none => .fault 4)
    else match s.spillPg p l with
      | some c =>
        if (s.page c).writer = .none then .page (s.setPage c { s.page c with writer := .engine k }) c
        else if (s.page c).writer = .engine k then .page s c else .fault 2
      | none =>
        let s' := s.spillPages p (engField k) l 1 (m.kind = .emerg) (decide ((s.entry (engField k) w.slot).from_ = 3))
        match s'.spillPg p l with
        | some c => .page (s'.setPage c { s'.page c with writer := .engine k }) c
        | none => .short 0x20

/-! ### Signals (R171, R207) -/

/-- Whether SIG_DST is posted: an object of the other core that the tile goes to (R207). -/
def posted (d : Desc) : Bool :=
  decide (aSpace d.dst = 2) && decide (bits d.sigDst 23 22 = 2) && decide (bits d.sigDst 21 16 = aField d.dst) &&
  decide (bits d.sigDst 15 8 = aCore d.dst)

/-- A signal of an engine: nothing where the reference is 0; queued at a held core (R457). -/
def State.engSignal (s : State) (k ref : Nat) : State :=
  if ref = 0 then s
  else match s.resolve (s.engSource k) ref false with
    | .obj o => if s.objHeld o then s.queueHeld (o / 64) (.signal 0 none o 1 false (s.engSource k)) else s.signalAny (s.engSource k) ref 1
    | _ => s.signalAny (s.engSource k) ref 1

/-- The posted signal of a tile (R207). -/
def State.engPosted (s : State) (k ref : Nat) : State :=
  match s.resolve (s.engSource k) ref false with
  | .obj o => if s.objHeld o then s.queueHeld (o / 64) (.posted o k (s.engSource k)) else s.postSignal o k 1 tileImage (s.engSource k)
  | _ => s

/-- The descriptor a flight belongs to. -/
def workOf (e : Engine) (x : Flight) : Option Work := e.work.find? fun w => decide (w.slot = x.slot) && decide (w.idx = x.idx)

/-- Signals of tiles read out, in issue order, up to the first that has not been (R171). -/
def State.pumpOut (s : State) (k : Nat) : List Flight → List Flight → State
  | done, [] => s.setEngine k { s.engine k with flight := done }
  | done, x :: r =>
    if x.st = .issued ∨ x.st = .failed then s.setEngine k { s.engine k with flight := done ++ x :: r }
    else
      let s := if x.sig then s else match workOf (s.engine k) x with
        | none => s
        | some w =>
          let s := s.engSignal k w.d.sigSrc
          if posted w.d then s.engPosted k w.d.sigDst else s
      State.pumpOut s k (done ++ [{ x with sig := true }]) r

/-- Tiles that have landed retired in issue order, their acknowledged signals delivered (R171, R207). -/
def State.retire (k : Nat) : List Flight → State → State
  | [], s => s.setEngine k { s.engine k with flight := [] }
  | x :: r, s =>
    if x.st = .landed ∧ x.sig then
      let s := s.setEngine k { s.engine k with
        flight := r
        work := (s.engine k).work.map fun w => if w.slot = x.slot ∧ w.idx = x.idx then { w with retired := w.retired + 1 } else w }
      let s := match workOf (s.engine k) x with
        | some w => if posted w.d then s else s.engSignal k w.d.sigDst
        | none => s
      State.retire k r s
    else s.setEngine k { s.engine k with flight := x :: r }

/-! ### Descriptors finish (R177) -/

/-- Whether a page that a descriptor writes has still to seal. -/
def State.sealing (s : State) (k : Nat) (w : Work) : Bool :=
  let p := (s.partOf (engField k)).getD 0
  w.d.seals && (List.range w.d.tiles).any fun i => match dstPlace k w.d i with
    | .page l _ => (s.target p l).any fun c => (s.page c).sealReq
    | _ => false

/-- Whether a descriptor has finished (R177). -/
def State.finished (s : State) (k : Nat) (w : Work) : Bool := decide (w.retired = w.d.tiles) && !s.sealing k w

/-- The sample that a finished shelf descriptor gives (R262). -/
def State.shelfSample (s : State) (k : Nat) (w : Work) : State :=
  let f := engField k
  if w.d.tiles < 16 then s
  else match s.shelfMove k w with
    | none => s
    | some m =>
      let e := s.entry f m.n
      let tk := s.now - w.first
      let b := w.d.tiles * 16384
      match m.kind with
      | .press => s.sample LDG_EST.PRESS f b tk
      | .spill => s.sample LDG_EST.T2W f b tk
      | .emerg => s.sample LDG_EST.T2W f b tk
      | _ =>
        let t2 := (s.dir (s.entPart f) (e.spage + w.idx * 63)).cur.any fun c => decide (pageTier c = 2)
        let s := if t2 then s.sample LDG_EST.T2R f b tk else s
        if m.codec then s.sample LDG_EST.DEC f (e.tiles * b / max 1 e.stiles) tk else s

/-- Finished descriptors leave an engine, in order; an END lets go of the versions its stream held (R98). -/
def State.tidy (k : Nat) : List Work → State → State
  | [], s => s
  | w :: r, s =>
    if s.finished k w then
      let s := if isShelf k then s.shelfSample k w else s
      let s := s.setEngine k { s.engine k with
        work := r
        groups := if w.d.fin then s.groupsRead ((s.partOf (engField k)).getD 0) r else (s.engine k).groups }
      State.tidy k r s
    else s

/-! ### Halts of a tile -/

/-- A move of the Residency Engine whose tile has failed (R251, R252, R302). -/
def State.shelfFail (s : State) (k : Nat) (w : Work) (c l : Nat) : State :=
  let f := engField k
  let p := (s.partOf f).getD 0
  let s := s.tierFlt p f (streamNo k) c l
  match s.shelfMove k w with
  | none => s
  | some m => (match m.kind with
    | .press =>
      let s := s.abortMove f m.n
      if (s.entry f m.n).st = 1 then s.resident f m.n else s
    | .spill => s.spillFail f m.n c
    | .emerg => s.spillFail f m.n c
    | _ => s.fetchFail f m.n c).settle p

/-- A tile that may not be read or written (R107). -/
def State.tileFault (s : State) (k : Nat) (w : Work) (c l : Nat) : State :=
  if isShelf k then s.shelfFail k w c l
  else (s.haltEngine k c l).tierFlt ((s.partOf (engField k)).getD 0) (engField k) (streamNo k) c l

/-- A halt for want of a page (R71): its event, and the halt. -/
def State.tileShort (s : State) (k c l : Nat) : State :=
  let p := (s.partOf (engField k)).getD 0
  (s.haltEngine k c l).event (if c = 0x20 then PAR_EVT.T2_SHORT else PAR_EVT.T1_SHORT) p p

/-! ### TILE_ISSUE (R170) -/

/-- The logical page and physical page that tile `i` of a descriptor reads: none for a local side. -/
def State.readSide (s : State) (p k : Nat) (w : Work) (i : Nat) : Nat × Option Rd :=
  match srcPlace k w.d i with
  | .page l _ => (l, some (if isShelf k then (match (s.dir p l).cur with | some c => s.readPhys c | none => .fault 4) else s.readLog p k l))
  | .local _ _ _ => (0, none)

/-- The same for a write. -/
def State.writeSide (s : State) (p k : Nat) (w : Work) (i : Nat) : Nat × Wr :=
  match dstPlace k w.d i with
  | .page l _ => (l, if isShelf k then s.writeShelf p k w l else s.writeLog p k l)
  | .local _ _ _ => (0, .none)

/-- An engine that waits on something (R230, R98, R183). -/
def State.engWait (s : State) (k : Nat) (v : EngWait) : State := s.setEngine k { s.engine k with wait := v }

/-- A span part's first stream read of a WEIGHT page (R280). -/
def State.markWgt (s : State) (p k l : Nat) : State :=
  if (s.rangeOf p l).any fun r => decide (r.cls = 0) then
    s.each (List.range 32) fun s t => match s.partRun (k / 4 * 32 + t) with
      | some (sl, _) => if (s.slot (engField k) sl).st = 1 then s.setSlot (engField k) sl { s.slot (engField k) sl with wgt := true } else s
      | none => s
  else s

/-- A tile whose takes are done issues (R170, R95, R101, R107, R173): or waits, faults or halts. `g` puts the flight. -/
def State.launch (s : State) (k : Nat) (w : Work) (i : Nat) (g : Option Nat → Option Nat → State → State) : State :=
  let p := (s.partOf (engField k)).getD 0
  let r := s.readSide p k w i
  let go := fun (rp : Option Nat) =>
    let x := s.writeSide p k w i
    match x.2 with
    | .fault c => s.tileFault k w c x.1
    | .short c => s.tileShort k c x.1
    | .back => s.engWait k .back
    | .none => g rp none s
    | .page s' c => g rp (some c) s'
  match r.2 with
  | none => go none
  | some (.page c) => go (some c)
  | some (.fault c) => s.tileFault k w c r.1
  | some (.flip v) => s.engWait k (.flip v)
  | some .back => s.engWait k .back
  | some (.entry f n) =>
    let first := decide ((s.engine k).wait ≠ .entry f n)
    let s := s.engWait k (.entry f n)
    if first then (s.lateUse f n).settle p else s

/-- What a tile's issue counts: a reader of its page, its heat, its group, a span's WGT. -/
def State.counted (s : State) (k : Nat) (w : Work) (i : Nat) (rp : Option Nat) : State :=
  let p := (s.partOf (engField k)).getD 0
  match rp, srcPage w.d i with
  | some c, some l =>
    let s := ((s.readStart c).addHeat p l 1).markWgt p k l
    match s.groupOf p l with
    | some g => if (s.engine k).groups.contains g || isShelf k then s else s.setEngine k { s.engine k with groups := g :: (s.engine k).groups }
    | none => s
  | _, _ => s

/-- A take of a tile (R170): at once, or parked; a reference that names no live object is never satisfied. -/
def State.engTake (s : State) (k ref which : Nat) : State :=
  match s.resolve (s.engSource k) ref false with
  | .obj o => if (s.obj o).live then s.pollObj (.engine k) o 1 true 1 which else s
  | _ => s

/-- Whether an engine may issue tiles: in a RUNNING partition whose issue has not stopped, not HALTED, its field and core
working, its core not held (R187, R457, R477, R479). -/
def State.engReady (s : State) (k : Nat) : Bool :=
  (s.engine k).halt.isNone && !s.fieldFailed (engField k) &&
  (isShelf k || (!s.heldCore (k / 4) && (s.phys (k / 4)).any fun y => !Store.get false s.wafer.bad (engField k * 160 + y))) &&
  (s.partOf (engField k)).any fun p => s.running p && !(s.part p).frozen

/-- An accepted descriptor of an engine changed. -/
def State.updWork (s : State) (k : Nat) (w : Work) (g : Work → Work) : State :=
  s.setEngine k { s.engine k with work := (s.engine k).work.map fun v => if v.slot = w.slot ∧ v.idx = w.idx then g v else v }

/-- TILE_ISSUE (R170, R174): the next tile of an engine takes its kick and its units, and issues; a tile that failed issues
again after a resume, without a second take (R185). -/
def execTileIssue (e : Eng) (s : State) : Host.Outcome State Fault Refusal :=
  let k := engOf e
  let q := s.engine k
  let p := (s.partOf (engField k)).getD 0
  .next (if !s.engReady k || decide (4 ≤ inFlight q) then s
    else match q.flight.findIdx? fun x => decide (x.st = .failed) with
      | some j => match ((q.flight[j]?).bind fun x => (workOf q x).map fun w => (x, w)) with
        | none => s
        | some (x, w) => (s.launch k w x.tile fun rp wp s =>
            let s := s.counted k w x.tile rp
            let s := s.setEngine k { s.engine k with flight := (s.engine k).flight.set j { x with st := .issued, rpage := rp, wpage := wp, since := s.now } }
            s.engWait k .none).judgeAll p
      | none => match nextWork q with
        | none => s
        | some w =>
          if w.d.gate ∧ w.issued = 0 ∧ ¬w.gated ∧ q.kicks = 0 then s
          else if (s.engPark k).isSome then s
          else
            let upd : State → (Work → Work) → State := fun s g => s.updWork k w g
            let s := if w.d.gate ∧ w.issued = 0 ∧ ¬w.gated then
                upd (s.setEngine k { q with kicks := q.kicks - 1 }) (fun v => { v with gated := true })
              else s
            let s := if w.d.takeSrc ≠ 0 ∧ ¬w.gotSrc then s.engTake k w.d.takeSrc 0 else s
            let w1 := (nextWork (s.engine k)).getD w
            if w.d.takeSrc ≠ 0 ∧ ¬w1.gotSrc then s
            else
              let s := if w.d.takeDst ≠ 0 ∧ ¬w1.gotDst then s.engTake k w.d.takeDst 1 else s
              let w2 := (nextWork (s.engine k)).getD w
              if w.d.takeDst ≠ 0 ∧ ¬w2.gotDst then s
              else
                (s.launch k w w.issued fun rp wp s =>
                  let s := s.counted k w w.issued rp
                  let s := upd s (fun v => { v with issued := v.issued + 1, gotSrc := false, gotDst := false, first := if v.issued = 0 then s.now else v.first })
                  let s := s.setEngine k { s.engine k with flight := (s.engine k).flight ++ [⟨w.slot, w.idx, w.issued, .issued, false, rp, wp, s.now, 0, []⟩] }
                  s.engWait k .none).judgeAll p)

/-! ### TILE_READ_OUT (R171, R585, R100, R109) -/

/-- The header of a tile read from a local side (R585). -/
def State.localHdr (s : State) (k key i : Nat) : Nat :=
  let h := s.hdr key
  let x : Hdr := if hMagic h = hdrMagic then hdrOf h else { tile := i, layout := 2, dtype := 7, rows := 1, cols := 16384 }
  hdrWord { x with ppart := (s.partOf (engField k)).getD 0, pfield := engField k, pcore := engCore k, stamp := s.now, step := Store.get 0 s.replay.steps (k / 4), cfmt := 0, clen := 0, ctab := 0, flags := 0 } 0

/-- The tile that a flight reads: its physical place, and whether the header is a local side's. -/
def srcTile (k : Nat) (w : Work) (x : Flight) : Nat × Bool :=
  match srcPlace k w.d x.tile, x.rpage with
  | .local f m n, _ => (localTile f m n, true)
  | .page _ t, some c => (tileKey c t, false)
  | .page _ _, none => (0, false)

/-- The check a tile read fails: 0 none (R84, R100); a T3 tile that cannot be reconstructed faults PAYLOAD_CRC (R133). -/
def State.readCheck (s : State) (key : Nat) (codec : Bool) : Nat :=
  if s.poisoned key then 8
  else if s.flashLost key then 10
  else if pageTier (key / 4) = 2 ∨ pageTier (key / 4) = 3 ∨ (s.page (key / 4)).cls = 8 then tileCheck (s.hdr key) (s.payload key) codec
  else 0

/-- A flight of an engine changed. -/
def State.setFlight (s : State) (k j : Nat) (x : Flight) : State := s.setEngine k { s.engine k with flight := (s.engine k).flight.set j x }

/-- A read that fails: a failed mirror is dropped and the read goes to the source once (R109); else the tile fails. -/
def State.readFail (s : State) (k j c : Nat) (w : Work) (x : Flight) : State :=
  let p := (s.partOf (engField k)).getD 0
  let l := (srcPage w.d x.tile).getD 0
  let s := match x.rpage with | some r => s.readEnd r | none => s
  let again : Option Nat := match x.rpage with
    | some r => if (s.page r).cls = 8 ∨ (s.dir p l).mirror = some r then
        (s.current p l).filter fun c => decide (s.readPhys c = .page c) && decide (some c ≠ x.rpage)
      else none
    | none => none
  match again with
  | some src =>
    let s := if (s.dir p l).mirror = x.rpage then s.dropMirror p l else s
    (s.setFlight k j { x with rpage := some src }).readStart src
  | none => (s.setFlight k j { x with st := .failed, rpage := none }).tileFault k w c l

/-- A tile's bytes leave their source. -/
def State.readOut (s : State) (k j : Nat) : State :=
  match (s.engine k).flight[j]? with
  | none => s
  | some x => match workOf (s.engine k) x with
    | none => s
    | some w =>
      if x.st ≠ .issued then s
      else
        let t := srcTile k w x
        let codec := isShelf k && (s.shelfMove k w).any (·.codec)
        let c := s.readCheck t.1 codec
        if c ≠ 0 then s.readFail k j c w x
        else
          let h := if t.2 then s.localHdr k t.1 x.tile else s.hdr t.1
          let s := s.setFlight k j { x with st := .out, hdr := h, data := s.payload t.1 }
          s.pumpOut k [] (s.engine k).flight

/-- TILE_READ_OUT (R171): flight `n` of an engine; queued while a segment holds the core that is read (R457). -/
def execTileReadOut (e : Eng) (n : Fin 4) (s : State) : Host.Outcome State Fault Refusal :=
  let k := engOf e
  let at_ : Option Place := ((s.engine k).flight[n.val]?).bind fun x => (workOf (s.engine k) x).map fun w => srcPlace k w.d x.tile
  let held : Bool := match at_ with
    | some (.local f m _) => s.heldCore (coreKey f m)
    | _ => false
  .next (if held = true then s.queueHeld (k / 4) (.readOut e n)
    else (s.readOut k n.val).judgeAll ((s.partOf (engField k)).getD 0))

/-! ### TILE_LANDING (R171, R236, R281, R144) -/

/-- Parked LD.FEs of a tile's words served. -/
def State.serveTile (s : State) (key : Nat) : State :=
  let l := (s.sync.parks.filterMap fun pk => match pk.tgt with
    | .word w => if w / 2048 = key then some w else none
    | _ => none).eraseDups
  s.each l fun s w => s.serveWord w

/-- A tile written where it lands: every word full (R171). -/
def State.putTile (s : State) (key hdr : Nat) (data : Store Word) : State :=
  ((s.setPayload key data true).setHdr key hdr).serveTile key

/-- The digest of one output raised by a landed tile (R281). -/
def State.digest (s : State) (f n i : Nat) (data : Store Word) : State :=
  let e := s.entry f n
  let h := s.handle f n
  if e.span = 0xFFFF then s
  else
    let t := s.slot f e.span
    match t.outs.findIdx? (· = h) with
    | none => s
    | some j =>
      let v := crc32c (bytesOf 4 i ++ payloadBytes data)
      if t.st = 3 then s.setSlot f e.span { t with cur := t.cur.set j (t.cur.getD j 0 ^^^ v) }
      else s.setSlot f e.span { t with digs := t.digs.set j (t.digs.getD j 0 ^^^ v) }

/-- A tile landed in an entry's plain form: its header names the entry, and the entry may be complete (R236). -/
def State.landEntry (s : State) (f n key l t hdr : Nat) (data : Store Word) : State :=
  let e := s.entry f n
  let i := (l - e.lpage) * 4 + t
  let x := hdrOf hdr
  let s := s.putTile key (hdrWord { x with handle := s.handle f n, span := e.span, step := e.step } (hPcrc hdr)) data
  let s := (s.setEntry f n { e with landed := e.landed ||| 2 ^ i }).digest f n i data
  if e.st = 1 ∧ ¬entryDone e ∧ entryDone (s.entry f n) then (s.completed f n).settle (s.entPart f) else s

/-- Whether the last tile that a descriptor writes to a page has landed, with flight `j` landing now. -/
def lastInto (k : Nat) (q : Engine) (w : Work) (l : Nat) : Bool :=
  (List.range w.d.tiles).all fun i => match dstPlace k w.d i with
    | .page l' _ => decide (l' ≠ l) || decide (i < w.retired) ||
        (q.flight.any fun x => decide (x.slot = w.slot) && decide (x.idx = w.idx) && decide (x.tile = i) && decide (x.st = .landed))
    | _ => true

/-- A tile landed on a page of a directory range (R93, R173): SEAL asks for the seal once the last tile has. -/
def State.landPage (s : State) (c t hdr : Nat) (data : Store Word) : State :=
  if pageTier c = 2 ∧ (s.page c).st ≠ .opened then s
  else
    let s := s.putTile (tileKey c t) hdr data
    if pageTier c = 0 then s else s.setPage c { s.page c with written := (s.page c).written ||| 2 ^ t }

/-- A shelf engine's tile landed: its move is a tile nearer its end (R239, R243, R304). -/
def State.landShelf (s : State) (k : Nat) (w : Work) (x : Flight) (l t : Nat) : State :=
  let f := engField k
  match s.shelfMove k w with
  | none => s
  | some m =>
    let s := match x.wpage with
      | some c => s.landPage c t x.hdr x.data
      | none => s
    if m.kind = .press then (s.growPress f m.n (w.idx * 252 + x.tile)).settle (s.entPart f)
    else
      let s := s.setMove f m.n fun m => { m with left := m.left - 1 }
      match x.wpage with
      | some c => if w.d.seals && pageTier c = 2 && lastInto k (s.engine k) w l then s.sealPage c none else s
      | none => s

/-- Where a flight lands: the core whose memory takes it. -/
def landCore (k : Nat) (w : Work) (x : Flight) : Option Nat :=
  match dstPlace k w.d x.tile with
  | .local f m _ => some (coreKey f m)
  | .page _ _ => x.wpage.bind fun c => if pageTier c = 0 then some (coreKey (pageField c) (pageIdx c / 8)) else none

/-- A tap port copies a tile that has landed in a watched buffer (R424-R426). -/
def State.tap (s : State) (c n hdr : Nat) (data : Store Word) : State :=
  match s.partOf (c / 152) with
  | none => s
  | some p => match (if s.running p && s.guarded p then s.checker p else none) with
    | none => s
    | some k =>
      let hit := fun (w : WatchPt) => decide (w.field = c / 152) && decide (w.core = c % 152) && decide (w.base / 16384 ≤ n) &&
        decide (n < w.base / 16384 + w.bufs) && (decide (w.kind = 1) || decide (w.kind = 3) || decide ((hTile hdr + hTag hdr) % max 1 w.rate = 0))
      s.onGuard fun g => { g with taps := g.taps ++ (k.points.zipIdx.filter fun x => hit x.1).map fun x => ⟨p, x.2, hdr, data⟩ }

/-- A tile lands. -/
def State.land (s : State) (k j : Nat) : State :=
  match (s.engine k).flight[j]? with
  | none => s
  | some x => match workOf (s.engine k) x with
    | none => s
    | some w =>
      if x.st ≠ .out then s
      else
        let p := (s.partOf (engField k)).getD 0
        let s := match x.rpage with | some r => s.readEnd r | none => s
        let s := s.setFlight k j { x with st := .landed, rpage := none, data := [] }
        let s := match dstPlace k w.d x.tile with
          | .local f m n =>
            let s := s.putTile (localTile f m n) x.hdr x.data
            if posted w.d then match s.resolve (s.engSource k) w.d.sigDst false with
              | .obj o => s.landBytes o k tileImage (s.engSource k)
              | _ => s
            else s
          | .page l t =>
            if isShelf k then s.landShelf k w x l t
            else match s.lpage p l, x.wpage with
              | .remote tie, _ =>
                let d : Option Tie := s.tieDecl tie
                let tix := (l - ((d.map fun (x : Tie) => x.lbase).getD 0)) * 4 + t
                ((s.exportTile tie tix (w.d.seals && lastInto k (s.engine k) w l) x.hdr x.data)).getD s
              | .ledger f, some c => match s.entryAt f l with
                | some n => s.landEntry f n (tileKey c t) l t x.hdr x.data
                | none => s
              | _, some c =>
                let s := s.landPage c t x.hdr x.data
                if w.d.seals && pageTier c = 2 && decide ((s.page c).st = PgSt.opened) && lastInto k (s.engine k) w l then
                  s.setPage c { s.page c with sealReq := true }
                else s
              | _, none => s
        let s := if isShelf k then s else s.tally 0 (k / 4) 0x13 1
        let n := match dstPlace k w.d x.tile with
          | .local _ _ n => n
          | .page _ t => (x.wpage.getD 0) % 8 * 4 + t
        let s := match landCore k w x with | some c => (s.tally 0 c 0x12 1).tap c n x.hdr x.data | none => s
        let s := { s with dbg := { s.dbg with act := Store.set 0 s.dbg.act p (s.now + 1) } }
        let s := s.pumpOut k [] (s.engine k).flight
        let s := State.retire k (s.engine k).flight s
        State.tidy k (s.engine k).work s

/-- TILE_LANDING (R171): flight `n` of an engine; queued while a segment holds the core it lands at (R457). -/
def execTileLanding (e : Eng) (n : Fin 4) (s : State) : Host.Outcome State Fault Refusal :=
  let k := engOf e
  .next (match ((s.engine k).flight[n.val]?).bind fun x => (workOf (s.engine k) x).bind fun w => landCore k w x with
    | some c => if s.heldCore c then s.queueHeld c (.landing e n) else (s.land k n.val).judgeAll ((s.partOf (engField k)).getD 0)
    | none => (s.land k n.val).judgeAll ((s.partOf (engField k)).getD 0))

end Sys2Proof.Machine
end

