-- ==== Sys2Proof/Machine/Tiers.lean ====
section
/-! DEFINITION. SEAL, FREE and FLIP and the tier events (04_memory_tiers.md). -/

namespace Sys2Proof.Machine

/-! ### SEAL and FREE (R584) -/

/-- A status that names a tier fault: entered in the fault log as CONTAINED, no TIER_FLT (R584). -/
def State.tierStatus (s : State) (k p l code : Nat) : State :=
  (s.log ⟨0x03, code, k / 32 / 152, k / 32 % 152, k % 32, [p], 2, s.faultDesc p l code % 2 ^ 64⟩).done k (0x20 + code)

/-- Whether an engine of the core that issues is the recorded writer of a page. -/
def ownEngine (g : Page) (k : Nat) : Bool :=
  match g.writer with
  | .engine e => !isShelf e && decide (e / 4 = k / 32)
  | _ => false

/-- SEAL and FREE up to the page they act on (R584): undeclared, spill-range and Ledger pages RANGE, remote pages
FOREIGN, T3 pages T3_WRITE, a flip group's page by its pending page. -/
def State.named (s : State) (k : Nat) (l : Nat) (t0 : State → State) (g : Nat → State → State) : State :=
  let p := (s.thrSource k).part
  match s.lpage p l with
  | .undeclared => s.done k 5
  | .ledger _ => s.done k 5
  | .spill _ => s.done k 5
  | .remote _ => s.tierStatus k p l 7
  | .range r _ =>
    if r.tier = 0 then t0 s
    else if r.tier = 3 then s.tierStatus k p l 6
    else match s.target p l with
      | none => if r.group.isSome then s.done k 5 else s.tierStatus k p l 4
      | some c =>
        if (s.page c).st = .free ∨ (s.page c).st = .freeing then s.tierStatus k p l 4 else g c s

/-- SEAL (R93, R584): an OPEN page of an engine of the issuing core is to seal once that engine's writes have landed;
the status comes at that commit. -/
def execSealPage (t : Thr) (lpage : BitVec 40) (s : State) : Host.Outcome State Fault Refusal :=
  .next (s.issue t false fun k s =>
    s.named k lpage.toNat (fun s => s.done k 0) fun c s =>
      let g := s.page c
      let p := (s.thrSource k).part
      if pageTier c = 1 ∨ g.st = .sealed then s.done k 0
      else if g.st = .invalid then s.tierStatus k p lpage.toNat 5
      else if ownEngine g k then ((s.setPage c { g with sealReq := true, sealer := k + 1 }).owe k).nextPc k
      else s.tierStatus k p lpage.toNat 2)

/-- FREE (R95, R584): an allocated page enters FREEING and its mirror is dropped; a flip group's mirror is of its current page,
which FREE does not touch. -/
def execFreePage (t : Thr) (lpage : BitVec 40) (s : State) : Host.Outcome State Fault Refusal :=
  .next (s.issue t false fun k s => s.forbidden k fun s =>
    s.named k lpage.toNat (fun s => s.done k 5) fun c s =>
      let g := s.page c
      let p := (s.thrSource k).part
      if g.st = .opened then s.done k 0x11
      else
        let s := if (s.groupOf p lpage.toNat).isSome then s else (s.dropCopy p lpage.toNat).dropMirror p lpage.toNat
        (s.setPage c { s.page c with st := .freeing }).done k 0)

/-- PAGE_SEAL_COMMIT (R93): a page whose seal is requested, and whose writer has no write in flight to it, seals; descriptors
that waited for it finish (R177). -/
def execPageSealCommit (p : Part) (lpage : BitVec 40) (s : State) : Host.Outcome State Fault Refusal :=
  .next (match s.target p.val lpage.toNat with
    | none => s
    | some c =>
      let g := s.page c
      let busy := s.cores.engines.any fun e => e.2.flight.any fun x => decide (x.wpage = some c) && decide (x.st ≠ .landed)
      if g.st = .opened ∧ g.sealReq ∧ ¬busy then
        let s := s.sealPage c none
        let s := if g.sealer = 0 then s else s.pay (g.sealer - 1) 0
        match g.writer with
        | .engine e => State.tidy e (s.engine e).work s
        | _ => s
      else s)

/-- PAGE_FREE_COMPLETE (R92): a FREEING page that nothing reads returns to FREE; its logical page has no page. -/
def execPageFreeComplete (p : Part) (tier : Fin 4) (f : FieldId) (idx : BitVec 40) (s : State) :
    Host.Outcome State Fault Refusal :=
  let k := pageKey tier.val (if tier.val = 3 then p.val else f.val) idx.toNat
  let g := s.page k
  .next (if g.st = .freeing ∧ g.readers = 0 ∧ g.part = p.val then
      let d := s.dir p.val g.lpage
      let s := if d.cur = some k then s.setDir p.val g.lpage { d with cur := none }
        else if d.pend = some k then s.setDir p.val g.lpage { d with pend := none } else s
      s.freeNow k
    else s)

/-! ### Flip groups (R97, R98, R583) -/

/-- The logical pages of a flip group. -/
def State.groupPages (s : State) (p g : Nat) : List Nat :=
  ((s.pagedir p).ranges.filter fun r => decide (r.group = some g)).flatMap fun r =>
    (List.range r.pages).map (r.lbase + ·)

/-- Whether some stream of the partition holds a version of a flip group (R98). -/
def State.groupHeld (s : State) (p g : Nat) : Bool :=
  s.cores.engines.any fun e => decide (s.partOf (engField e.1) = some p) && e.2.groups.contains g

/-- The state of a group's pending page, if it has one. -/
def State.pendSt (s : State) (p l : Nat) : Option PgSt := (s.dir p l).pend.map fun k => (s.page k).st

/-- FLIP's refusal (R583): 0x05 RANGE, 0x11 BUSY, 0x25 PAGE_INVALID, 0x16 NO_VERSION; 0 none. -/
def State.flipRefusal (s : State) (p g : Nat) : Nat :=
  let l := s.groupPages p g
  if (s.pagedir p).groups ≤ g then 5
  else if l.any fun x => decide (s.pendSt p x = some .opened) then 0x11
  else if l.any fun x => decide (s.pendSt p x = some .invalid) then 0x25
  else if l.all fun x => decide (s.pendSt p x = some .sealed) then 0
  else 0x16

/-- FLIP (R583): refused with a status, or its status comes at the commit. -/
def execFlip (t : Thr) (g : BitVec 16) (s : State) : Host.Outcome State Fault Refusal :=
  .next (s.issue t false fun k s => s.forbidden k fun s =>
    let p := (s.thrSource k).part
    let r := s.flipRefusal p g.toNat
    if r = 0x25 then s.tierStatus k p (((s.groupPages p g.toNat).find? fun x => decide (s.pendSt p x = some .invalid)).getD 0) 5
    else if r ≠ 0 then s.done k r
    else ((s.onMem fun m => { m with flips := m.flips ++ [⟨p, g.toNat, k⟩] }).owe k).nextPc k)

/-- The oldest checkpoint versions of a group beyond DEPTH are freed (R97). -/
def State.trimCkpts (s : State) (p g : Nat) : State :=
  let mine := s.mem.ckpts.filter fun c => decide (c.part = p) && decide (c.group = g)
  let drop := mine.drop (s.rd TIER_CKPT.DEPTH p)
  let s := s.each (drop.flatMap (·.pages)) fun s x =>
    if (s.page x.2).readers = 0 then s.freeNow x.2 else s.setPage x.2 { s.page x.2 with st := .freeing }
  s.onMem fun m => { m with ckpts := m.ckpts.filter fun c => !drop.contains c }

/-- The commit of a flip (R97): pending pages become current and inherit HEAT, the former ones become CHECKPOINT and
lose their mirrors, newest version first. -/
def State.flipGroup (s : State) (p g : Nat) : State :=
  let l := s.groupPages p g
  let old := l.filterMap fun x => (s.dir p x).cur.map fun k => (x, k)
  let s := s.each l fun s x => (s.dropCopy p x).dropMirror p x
  let s := s.each old fun s x => s.setPage x.2 { s.page x.2 with cls := 6 }
  let s := s.each l fun s x => s.setDir p x { s.dir p x with cur := (s.dir p x).pend, pend := none }
  let s := if old.isEmpty then s else s.onMem fun m => { m with ckpts := ⟨p, g, old⟩ :: m.ckpts }
  s.trimCkpts p g

/-- A flip's effect on spans (R280, R290): slots with WGT become STALE, and a replay that runs is lost. -/
def State.staleSlots (s : State) (p : Nat) : State :=
  s.each (s.replay.slots.filter fun e => decide (s.partOf (e.1 / 4096) = some p) && e.2.wgt) fun s e =>
    let f := e.1 / 4096
    let n := e.1 % 4096
    let s := s.setSlot f n { s.slot f n with stale := true }
    if (s.slot f n).st = 3 then (s.loseReplay f n 0x12 0 0).settle p else s

/-- Streams that waited for a flip go on (R98). -/
def State.unwaitFlip (s : State) (p g : Nat) : State :=
  s.each (s.cores.engines.filter fun e => decide (e.2.wait = .flip g) && decide (s.partOf (engField e.1) = some p)) fun s e =>
    s.setEngine e.1 { s.engine e.1 with wait := .none }

/-- FLIP_COMMIT (R97, R98): once every pending page is SEALED and no stream holds the old version. -/
def execFlipCommit (p : Part) (g : BitVec 16) (s : State) : Host.Outcome State Fault Refusal :=
  .next (match s.mem.flips.find? fun r => decide (r.part = p.val) && decide (r.group = g.toNat) with
    | none => s
    | some r =>
      if s.flipRefusal p.val g.toNat = 0 ∧ ¬s.groupHeld p.val g.toNat then
        ((((s.onMem fun m => { m with flips := m.flips.filter (· ≠ r) }).flipGroup p.val g.toNat).staleSlots p.val).unwaitFlip
          p.val g.toNat).pay r.thr 0
      else s)

/-! ### Scrub (R85, R109) -/

/-- SCRUB_PASS: the scrubber reads an allocated T2 page and writes its content back unchanged; tiles with an
uncorrectable error (`ue`) are recorded, and their next read faults. -/
def execScrubPass (f : FieldId) (idx : BitVec 40) (ue : Fin 16) (s : State) : Host.Outcome State Fault Refusal :=
  let k := pageKey 2 f.val idx.toNat
  let g := s.page k
  .next (if s.rd TIER_CTL.SCRUB_EN 0 = 1 ∧ g.st ≠ .free then
      s.each ((List.range 4).filter (bit ue.val)) fun s t =>
        let w := tileWord (tileKey k t) 0
        ((s.setWord w { s.word w with poison := true }).tally 1 f.val 0x13 1).tierFlt g.part f.val 0x3FF 8 g.lpage
    else s)

/-! ### Aging boundaries and mirrors (R101-R104, R110) -/

/-- The T1 class of a field's heat pool in the plan in force (R587 KIND 0x3). -/
def State.heatClass (s : State) (p : Nat) : Option Nat := (s.plan p).bind fun pl => pl.t1kinds.findIdx? (· = 3)

/-- A candidate for promotion: logical page, heat, target tier. -/
structure Candidate where
  l : Nat
  heat : Nat
  tier : Nat
deriving DecidableEq, Repr

/-- The field of a logical page for its heat engine: its page's field, or a T3 page's home field. -/
def State.homeOf (s : State) (p l : Nat) : Option Nat :=
  match s.lpage p l with
  | .range _ f => some f
  | _ => none

/-- Where the next step up of a logical page leads (R103): 0 nowhere. -/
def State.stepUp (s : State) (p l : Nat) : Nat :=
  let d := s.dir p l
  if d.copy.isSome then 0
  else match s.current p l with
    | none => 0
    | some k =>
      if s.pgSt k ≠ .sealed then 0
      else if pageTier k = 2 then (if d.mirror.isNone then 1 else 0)
      else if pageTier k = 3 then
        match d.mirror with
        | none => 2
        | some m => if pageTier m = 2 then 1 else 0
      else 0

/-- The candidates of a field's heat engine, hottest first, ties by lower logical page, at most BATCH (R103). -/
def State.candidates (s : State) (p f : Nat) : List Candidate :=
  let all := (s.dirPages p).filterMap fun l =>
    if !s.exempt p l && decide (s.homeOf p l = some f) && decide (s.rd TIER_HEAT_THR.PROMOTE p ≤ (s.dir p l).heat) &&
        decide (s.stepUp p l ≠ 0)
    then some ⟨l, (s.dir p l).heat, s.stepUp p l⟩ else none
  (sortBy (fun a b : Candidate => decide (b.heat < a.heat) || (decide (a.heat = b.heat) && decide (a.l ≤ b.l))) all).take
    (s.rd TIER_HEAT_BATCH.PAGES p)

/-- The logical pages with a mirror in a field's pool of a tier, coldest first, ties by higher logical page. -/
def State.mirrorsIn (s : State) (p f tier : Nat) : List Nat :=
  let l := (s.dirPages p).filter fun l => match (s.dir p l).mirror with
    | some m => decide (pageTier m = tier) && decide (pageField m = f)
    | none => false
  sortBy (fun a b => decide ((s.dir p a).heat < (s.dir p b).heat) ||
    (decide ((s.dir p a).heat = (s.dir p b).heat) && decide (b ≤ a))) l

/-- Pages of a field's heat pool in a tier: declared, and holding mirrors or copies. -/
def State.heatPool (s : State) (p f tier : Nat) : Nat × Nat :=
  if tier = 1 then
    (((s.heatClass p).bind ((s.fplan p f).t1cls[·]?)).getD 0,
      s.countPages 1 f fun g => decide (g.cls = 8) && decide (g.st ≠ .freeing))
  else ((s.fplan p f).t2heat, s.countPages 2 f fun g => decide (g.pool = poolHeat) && decide (g.st ≠ .freeing))

/-- Pages of a field's heat pool in a tier that hold mirrors: a copy under way is none yet (R104). -/
def State.mirrorsHeld (s : State) (f tier : Nat) : Nat :=
  s.countPages tier f fun g => decide (g.cls = 8) && decide (g.st = .sealed)

/-- The copy of a candidate into a page of its pool starts: it reads the source, or the T2 mirror of a T3 page (R104). -/
def State.startCopy (s : State) (p f : Nat) (c : Candidate) : State :=
  match s.freePhys c.tier f with
  | none => s
  | some k =>
    let s := s.take k p c.l 8 (if c.tier = 1 then (s.heatClass p).getD 0 else poolHeat) .heat
    let d := s.dir p c.l
    match (if d.mirror.isSome then d.mirror else s.current p c.l) with
    | some src => (s.setDir p c.l { d with copy := some (k, src) }).readStart src
    | none => s

/-- One candidate judged (R103): a free page, or a mirror displaced, or skipped. -/
def State.promote (s : State) (p f : Nat) (c : Candidate) : State :=
  let pool := s.heatPool p f c.tier
  if pool.2 < pool.1 then s.startCopy p f c
  else match s.mirrorsIn p f c.tier with
    | [] => s
    | v :: _ =>
      let hv := (s.dir p v).heat
      if hv < s.rd TIER_HEAT_THR.DEMOTE p ∨ hv + s.rd TIER_HEAT_THR.HYST p ≤ c.heat then
        (s.dropMirror p v).startCopy p f c
      else s

/-- Every heat counter of a partition halved, rounding down (R101). -/
def State.halve (s : State) (p : Nat) : State :=
  s.onMem fun m => { m with
    dir := Store.mapAll dir0 (fun k d => if k / 2 ^ 40 = p then { d with heat := d.heat / 2 } else d) m.dir }

/-- AGING_BOUNDARY (R101, R103): promotions in every field of the partition, then halving; the next boundary falls one
AGE later. Nothing with HEAT_EN 0, or while the partition is not RUNNING (R110). -/
def execAgingBoundary (p : Part) (s : State) : Host.Outcome State Fault Refusal :=
  .next (if s.running p.val ∧ s.rd TIER_CTL.HEAT_EN 0 = 1 then
      let due := Store.get 0 s.mem.ages p.val
      let s := s.reach due
      let s := s.each (s.fieldsOf p.val) fun s f => s.each (s.candidates p.val f) fun s c => s.promote p.val f c
      (s.halve p.val).onMem fun m => { m with
        ages := Store.set 0 m.ages p.val (max s.now due + s.rd TIER_HEAT_CTL.AGE p.val * 10000) }
    else s)

/-- A page's tiles copied to another page, with FLAGS changed (R104). -/
def State.copyPage (s : State) (src dst : Nat) (mirror : Bool) : State :=
  s.each [0, 1, 2, 3] fun s t =>
    let h := s.hdr (tileKey src t)
    let x := hdrOf h
    (s.setPayload (tileKey dst t) (s.payload (tileKey src t)) true).setHdr (tileKey dst t)
      (hdrWord { x with flags := x.flags % 4 + (if mirror then 4 else 0) } (hPcrc h))

/-- The first failing check of a page's tiles (R100): 8 ECC_UE, 9 HDR_CRC, 10 PAYLOAD_CRC, 0 none. -/
def State.pageCheck (s : State) (k : Nat) : Nat :=
  ([0, 1, 2, 3].map fun t =>
    if s.poisoned (tileKey k t) then 8 else tileCheck (s.hdr (tileKey k t)) (s.payload (tileKey k t)) false).foldl
      (fun a b => if a = 0 then b else a) 0

/-- MIRROR_COMMIT (R104): the copy becomes the page's mirror, and a T2 mirror it was read from is dropped. A source
that fails its check abandons the copy; a failed mirror is dropped, a failed source is a tier fault (R109). -/
def execMirrorCommit (p : Part) (lpage : BitVec 40) (s : State) : Host.Outcome State Fault Refusal :=
  let l := lpage.toNat
  let d := s.dir p.val l
  .next (match d.copy with
    | some (k, src) =>
      let bad := s.pageCheck src
      if bad ≠ 0 then
        let s := s.dropCopy p.val l
        if d.mirror.isSome then s.dropMirror p.val l
        else if s.current p.val l = some src then s.tierFlt p.val (pageField k) 0x3FF bad l
        else s
      else
        let s := (s.copyPage src k true).readEnd src
        let s := if d.mirror.isSome then s.dropMirror p.val l else s
        let s := s.setPage k { s.page k with st := .sealed, written := 15 }
        (s.setDir p.val l { s.dir p.val l with copy := none, mirror := some k }).tally 1 (pageField k) 0x14 1
    | none => s)

end Sys2Proof.Machine
end

