-- ==== Sys2Proof/Machine/Fences.lean ====
section
/-! DEFINITION. Layer fences (07_streams_fences.md R176-R181) and what their completion reports to the Residency Engines
(09_ledger.md R237, R238, 10_policy_fetchback.md R263, R267, R269). -/

namespace Sys2Proof.Machine

/-- FENCE (R176): a participant arrives and parks; any other thread faults with STREAM. -/
def execFence (t : Thr) (s : State) : Host.Outcome State Fault Refusal :=
  .next (s.issue t false fun k s => s.forbidden k fun s =>
    let p := (s.thrSource k).part
    match s.lanesOf k with
    | [] => s.threadFault k 6 0
    | (g, l) :: _ =>
      let v := s.lane p g l
      (s.setLane p g l { v with arrived := v.arrived ++ [k] }).parkThread k (.fence p g l) false 0 0 0)

/-- The threads of a lane. -/
def laneThreads (g : Group) (l : Nat) : List Nat := (g.members.filter fun m => decide (m.lane = l)).map fun m => thrKey m.f m.m m.t

/-- Whether a fence of a lane may complete (R177): some thread has arrived, every other one has or is DONE, and no descriptor
of the lane is unfinished on the group's cores. -/
def State.fenceDone (s : State) (p : Nat) (g : Group) (l : Nat) : Bool :=
  let v := s.lane p g.g l
  let cores := (g.members.map fun m => coreKey m.f m.m).eraseDups
  !v.arrived.isEmpty &&
  ((laneThreads g l).all fun k => v.arrived.contains k || decide ((s.thread k).st = .done)) &&
  cores.all fun c => (List.range 4).all fun e => (s.engine (c * 4 + e)).work.all fun w =>
    decide (w.d.lane ≠ l) || w.d.xf || s.finished (c * 4 + e) w

/-- Whether a SUSPEND waits for fences (R75). -/
def State.suspending (s : State) (p : Nat) : Bool :=
  s.running p && decide (s.rd PAR_STATE.BUSY p = 1) && !(s.part p).halting && decide ((s.part p).next = 0)

/-- The estimate of a lane's fence interval moved toward a sample (R263). -/
def State.sampleTf (s : State) (f i : Nat) : State :=
  if Store.get 0 s.ledger.fences i = 0 || Store.get false s.ledger.skip i then s
  else
    let x : Int := (s.now - Store.get 0 s.ledger.fenceAt i : Nat)
    let e : Int := s.rd LDG_EST_TF.TICKS i
    s.wr LDG_EST_TF.TICKS i (min 4294967295 (max 1 (e + (x - e).tdiv (2 ^ s.rd LDG_POL_CTL.WIN f)).toNat))

/-- The boosts of a field's classes at a fence report (R269). -/
def State.decayBoosts (s : State) (f : Nat) : State :=
  let s := s.each (List.range 64) fun s c =>
    let b := s.rd LDG_BOOST.TICKS (f * 64 + c)
    if Store.get false s.ledger.lateCls (f * 64 + c) || b = 0 then s else s.wr LDG_BOOST.TICKS (f * 64 + c) (b - b / 8)
  s.onLedger fun l => { l with lateCls := Store.keep (fun k => k / 64 ≠ f) l.lateCls }

/-- A progress report to one Residency Engine (R178, R238, R263, R267, R269). -/
def State.report (s : State) (f g l cnt : Nat) : State :=
  let i := progKey f g l
  let s := (((s.sampleTf f i).wr LDG_PROG.FENCE i cnt).wr LDG_PROG.MARK i 0).decayBoosts f
  let s := s.onLedger fun y => { y with
    fenceAt := Store.set 0 y.fenceAt i s.now
    fences := Store.set 0 y.fences i ((Store.get 0 y.fences i + 1) % 2 ^ 32)
    skip := Store.set false y.skip i false
    entries := Store.mapAll entry0 (fun k e => if k / 65536 = f ∧ e.grp = g ∧ e.lane = l then { e with spared := false } else e) y.entries }
  (s.redecide f g l 3).scan f

/-- Lateness of the fence before, closed (R180). -/
def State.closeLate (s : State) (p g l : Nat) : State :=
  let i := grpKey p g * 4 + l
  let v := s.lane p g l
  let run := if v.late then s.rd STR_FG_LANE.LATE_RUN i + 1 else 0
  let s := s.setLane p g l { v with late := false, hinted := [] }
  if s.rd STR_FG_CFG.LATE_LIMIT (grpKey p g) ≤ run ∧ run ≠ 0 then
    ((s.wr STR_FG_EVT.LATE_RUN (grpKey p g) (s.rd STR_FG_EVT.LATE_RUN (grpKey p g) ||| 2 ^ l)).wr STR_FG_LANE.LATE_RUN i 0).tellSteward p
  else s.wr STR_FG_LANE.LATE_RUN i run

/-- A fence completes (R178, R180); while the partition halts or suspends its threads stay parked (R479, R75). -/
def State.fenceEnd (s : State) (p : Nat) (g : Group) (l : Nat) : State :=
  let i := grpKey p g.g * 4 + l
  let v := s.lane p g.g l
  let cnt := (s.rd STR_FG_LANE.FENCE i + 1) % 65536
  let stay := (s.part p).halting || s.suspending p
  let first := decide (Store.get 0 s.ledger.fences (progKey ((s.fieldsOf p).headD 0) g.g l) = 0)
  let s := if first then s.setLane p g.g l { v with late := false, hinted := [] } else s.closeLate p g.g l
  let s := (((s.setLane p g.g l { s.lane p g.g l with arrived := [] }).wr STR_FG_LANE.FENCE i cnt).tally 2 p 0x10 1).trace 1 p
    0 0xFF 0 [g.g, l, cnt]
  let s := if stay then s else
    s.each (s.sync.parks.filter fun pk => decide (pk.tgt = .fence p g.g l)) fun s pk => s.finish pk 0
  let s := s.each (s.fieldsOf p) fun s f => s.report f g.g l cnt
  let s := if (s.part p).halting then (s.stopGroup p g.g).checkHalt p else s.settle p
  s.each (laneThreads g l) fun s k => s.judge k

/-- FENCE_COMPLETE (R177, R178): held while TJL_PSTAT.HALT is set (R343), or once the group has stopped (R479). -/
def execFenceComplete (p : Part) (g : Fin 16) (l : Fin 4) (s : State) : Host.Outcome State Fault Refusal :=
  .next (match s.group p.val g.val with
    | none => s
    | some r =>
      if s.running p.val && !(s.part p.val).frozen && decide (l.val < r.lanes) && decide (s.rd TJL_PSTAT.HALT p.val = 0) &&
          !(s.part p.val).stopped.contains g.val && s.fenceDone p.val r l.val
      then s.fenceEnd p.val r l.val
      else s)

end Sys2Proof.Machine
end

