-- ==== Sys2Proof/Machine/Ties.lean ====
section
/-! DEFINITION. Ties at the events of their partitions and links (13_thijolink.md R316-R319, R343-R345): start, restart, loss
and return of a port; and how a request from a host or over a tie ends. -/

namespace Sys2Proof.Machine

/-! ### Events of ports -/

/-- An event of a port, to the steward of the partition that owns its link die, or to the device's. -/
def State.portEvent (s : State) (f : Field) (n : Nat) : State :=
  match s.linkOwner n with
  | some p => s.event f n p
  | none => (s.wr f n 1).tellDevice

/-- What a guarded partition sees of a narrowing, retrain or loss of a port it owns (18_guard_timing.md R468). -/
def State.boundEvent (s : State) (n : Nat) : State :=
  match s.linkOwner n with
  | some p => if s.guarded p then s.event GRD_TEVT.BOUND p p else s
  | none => s

/-! ### Ends of requests -/

/-- A cross-wafer signal ends at its sender with a status (R334, R343, R345). -/
def State.sigDone (s : State) (x : XSig) (status : Nat) : State :=
  match x.bell with
  | some (pf, slot) => s.bellDone pf slot status
  | none => if x.owner = 0 then s else s.pay (x.owner - 1) status

/-! ### Control packets (R328) -/

/-- A control packet other than SIGNAL: PTYPE, and its addressing and content, whose places are not given. -/
def ctrlPacket (ptype : Nat) (content : List Nat) : Nat := ptype * 2 ^ 248 + Config.packet ptype content % 2 ^ 248

/-- A packet about a tie sent toward a wafer, on RESPONSE. -/
def State.sendTiePkt (s : State) (w spart dpart ptype : Nat) (content : List Nat) : State :=
  s.sendTo w 2 spart dpart (ctrlPacket ptype (s.waferNo :: w :: spart :: dpart :: content))

/-! ### Imports (R316, R318) -/

/-- The import declared for a source wafer and tie number, with its partition. -/
def State.importOf (s : State) (w t : Nat) : Option (Nat × Import) :=
  (List.range 4).findSome? fun p => ((s.sect p).bind fun c =>
    c.links.imports.find? fun i => decide (i.srcw = w) && decide (i.tie = t)).map fun i => (p, i)

/-- The key of an import. -/
def impKey (w t : Nat) : Nat := w * 4096 + t
/-- A tie at its target. -/
def State.imp (s : State) (k : Nat) : TieIn := Store.get tieIn0 s.tjl.imps k
/-- A tie at its target changed. -/
def State.setImp (s : State) (k : Nat) (v : TieIn) : State :=
  s.onTjl fun y => { y with imps := Store.set tieIn0 y.imps k v }

/-- The imports of a partition, as declared. -/
def State.importsOf (s : State) (p : Nat) : List Import := ((s.sect p).map (·.links.imports)).getD []
/-- The ties of a partition, as declared. -/
def State.tiesOf (s : State) (p : Nat) : List Tie := ((s.sect p).map (·.links.ties)).getD []
/-- The barrier trees of a partition, as declared (R337). -/
def State.treesOf (s : State) (p : Nat) : List BarTree := ((s.sect p).map (·.links.trees)).getD []

/-- Whether an import has lost every port toward its source (R343). -/
def State.impStalled (s : State) (i : Import) : Bool :=
  let x := s.imp (impKey i.srcw i.tie)
  decide (x.port ≠ 0) && decide (s.portSt (x.port - 1) ≠ 2) && decide (s.portSt (x.port - 1) ≠ 3) && (s.upRoute i.srcw).isNone

/-- Ties of a partition that are STALLED, as source or as target. -/
def State.stalledTies (s : State) (p : Nat) : Nat :=
  (s.tjl.ties.filter fun e => decide (e.2.part = p) && decide (e.2.st = 3)).length + ((s.importsOf p).filter s.impStalled).length

/-- The counts of TJL_PSTAT brought in line with the ties of a partition. -/
def State.countTies (s : State) (p : Nat) : State :=
  (s.wr TJL_PSTAT.STALLED p (s.stalledTies p)).wr TJL_PSTAT.REROUTED p
    (s.tjl.ties.filter fun e => decide (e.2.part = p) && decide (e.2.st = 2)).length

/-- The counts, and HALT where a tie is STALLED (R343). -/
def State.checkTies (s : State) (p : Nat) : State :=
  let s := s.countTies p
  if s.rd TJL_PSTAT.STALLED p = 0 then s else s.wr TJL_PSTAT.HALT p 1

/-! ### Start and restart (R319, R345) -/

/-- The state a tie takes on a port of its route: UP on the primary, REROUTED on another (R319). -/
def tieOn (route : List Nat) (n : Nat) : Nat := if route.head? = some n then 1 else 2

/-- A partition's ties at its entry into RUNNING: on the first port that is UP; WAITING where none has been, STALLED where
every port that was is lost. -/
def State.startTies (s : State) (p : Nat) : State :=
  (s.each (s.tiesOf p) fun s d =>
    let r := s.route d.wafer
    match s.upRoute d.wafer with
    | some n => s.setTie d.num { tieOut0 with part := p, st := tieOn r n, port := n + 1, up := true }
    | none =>
      let was := r.any fun n => (s.lport n).lost
      s.setTie d.num { tieOut0 with part := p, st := if was then 3 else 5, port := (r.headD 0) + 1, up := was }).checkTies p

/-- Tiles of an import that have not sealed are lost: its OPEN pages become INVALID (R345, R92). -/
def State.dropImportPages (s : State) (k : Nat) : State :=
  s.each (s.mem.pages.filter fun e => decide (e.2.writer = .link k) && decide (e.2.st = .opened)) fun s e =>
    s.setPage e.1 { e.2 with st := .invalid, sealReq := false }

/-- A partition's ties at its restart: the other wafers receive TIE_RESET, and the imports and ties start again (R345). -/
def State.resetTies (s : State) (p : Nat) : State :=
  let s := s.each (s.importsOf p) fun s i =>
    (s.setImp (impKey i.srcw i.tie) tieIn0).sendTiePkt i.srcw p i.srcp 4 [i.tie, 2]
  let s := s.each (s.tiesOf p) fun s d =>
    let x := s.tie d.num
    let s := s.each (x.outst ++ x.queue) fun s y => if y.bell.isSome then s.sigDone y 9 else s
    (s.setTie d.num tieOut0).sendTiePkt d.wafer p d.part 4 [d.num, 3]
  s.onTjl fun y => { y with ties := Store.sel (fun _ x => decide (x.part ≠ p)) y.ties }

/-! ### A port reaches UP, or is lost (R319, R343, R344) -/

/-- A tie carried by a port from its last acknowledged prefix (R343, R344). -/
def State.carryTie (s : State) (t n : Nat) (route : List Nat) : State :=
  let x := s.tie t
  (s.setTie t { x with st := tieOn route n, port := n + 1, pos := x.landed, up := true, home := false }).pumpTie t

/-- A port reaches UP: the ties that wait for it, and those STALLED without it, leave by it (R319, R344). -/
def State.portIsUp (s : State) (n : Nat) : State :=
  let p := s.lport n
  let s := (s.wr TJL_PORT.STATE n 2).setLport n { p with lost := false, tries := 0, since := s.now }
  let s := s.each s.tjl.ties fun s e =>
    match s.tieDecl e.1 with
    | none => s
    | some d =>
      let r := s.route d.wafer
      if (e.2.st = 5 ∨ e.2.st = 3) ∧ r.contains n then s.carryTie e.1 n r else s
  let s := s.each [0, 1, 2, 3] fun s p => s.countTies p
  State.pumpPort n ((s.lport n).wait.length + 1) s

/-- The ports of a barrier's tree on this wafer. -/
def BarTree.edges (t : BarTree) : List Nat := t.parent.toList ++ t.children

/-- A barrier packet on an edge of its tree (R337), on SYNC. -/
def State.sendBar (s : State) (n ptype p b gen status : Nat) : State :=
  s.sendFrame n 2 1 (s.rd TJL_PORT.PEER_WAFER n) p p [ctrlPacket ptype [p, b, gen, status]]

/-- An episode in progress completes with LINK_LOST, told over the edges other than `but` (R343). -/
def State.barLost (s : State) (p : Nat) (t : BarTree) (d : BarDef) (but : Nat) : State :=
  let g := ((s.bar p t.bar).gen + 1) % 65536
  let s := s.each (t.edges.filter fun m => decide (m ≠ but) && !(s.lport m).lost) fun s m => s.sendBar m 6 p t.bar g 1
  s.barEnd p d 1

/-- Whether an episode has begun: an arrival or a report is in. -/
def BarSt.begun (b : BarSt) : Bool := !b.arr.isEmpty || decide (b.host ≠ 0) || decide (b.wafers ≠ 0)

/-- Whether a partition is affected by the loss of a port (R343): it owns the link die, or a tie, an import or a barrier tree
of its used the port. -/
def State.usesPort (s : State) (p n : Nat) : Bool :=
  decide (s.linkOwner n = some p) || (s.tjl.ties.any fun e => decide (e.2.part = p) && decide (e.2.port = n + 1)) ||
  ((s.importsOf p).any fun i => decide ((s.imp (impKey i.srcw i.tie)).port = n + 1)) || ((s.treesOf p).any fun t => t.edges.contains n)

/-- Signals sent over a lost port without SIG_ACK complete with UNDELIVERED (R343). -/
def State.undelivered (s : State) (n : Nat) : State :=
  s.each s.tjl.ties fun s e =>
    let gone := e.2.outst.filter fun y => decide (y.port = n + 1)
    if gone.isEmpty then s
    else
      let s := s.setTie e.1 { s.tie e.1 with outst := (s.tie e.1).outst.filter fun y => decide (y.port ≠ n + 1) }
      let s := (s.each gone fun s y => s.sigDone y 0xB).tally 3 0 (0x100 + n * 0x10 + 6) gone.length
      s.event TJL_PEVT.UNDELIVERED e.2.part e.2.part

/-- LINK_LOST on a port (R343). -/
def State.loseLink (s : State) (n : Nat) : State :=
  let hit := [0, 1, 2, 3].filter fun p => s.usesPort p n
  let x := s.lport n
  let s := (s.wr TJL_PORT.STATE n 4).setLport n { x with replay := [], wait := [], lost := true, began := s.now, tries := 0 }
  let s := s.undelivered n
  let s := s.each [0, 1, 2, 3] fun s p => s.each (s.treesOf p) fun s t =>
    match s.barDef p t.bar with
    | some d => if t.edges.contains n && (s.bar p t.bar).begun then s.barLost p t d n else s
    | none => s
  let s := s.each s.tjl.ties fun s e =>
    if e.2.port = n + 1 ∧ (e.2.st = 1 ∨ e.2.st = 2) then
      match s.tieDecl e.1 with
      | none => s
      | some d =>
        let r := s.route d.wafer
        match (r.drop 1).find? fun m => decide (s.portSt m = 2) with
        | some m => s.carryTie e.1 m r
        | none => s.setTie e.1 { s.tie e.1 with st := 3, home := false }
    else s
  let s := s.each [0, 1, 2, 3] fun s p => s.checkTies p
  let s := (s.portEvent TJL_PORT_EVT.LOST n).boundEvent n
  s.each hit fun s p =>
    (s.log ⟨0x09, 0x80, 0x60 + n, 0xC0 + n, 0, [p], 5, n⟩).event TJL_PEVT.LINK_LOST p p

end Sys2Proof.Machine
end

