-- ==== Sys2Proof/Machine/Restart.lean ====
section
/-! DEFINITION. What a restart discards and keeps (03_partitions_admission.md R80, R81, 00_scope.md R21): a partition enters
LOADING. -/

namespace Sys2Proof.Machine

/-! ### Registers that return to reset (R21) -/

/-- Copies of a register below each value of its first index. -/
def Reg.inner (g : Reg) : Nat := (g.dims.tail.map (·.1)).foldl (· * ·) 1

/-- Registers of a partition's window that a restart leaves (R82, R492, R504, R368, REPO_OPEN while a volume loads), and
PAR_STATE, which enters LOADING by itself. -/
def keptRegs : List String :=
  ["PAR_STATE", "PAR_CMD_STAT", "PAR_RECOV_STAT", "PAR_RECOV_EVT", "PAR_FLOG_HEAD", "REPO_CMD_STAT", "REPO_LOAD_STAT", "REPO_OPEN",
   "TJL_PCMD_STAT", "HPT_LEASE", "HPT_STG_STAT"]

/-- Whether a register has one copy per partition. -/
def Reg.perPart (g : Reg) : Bool :=
  match g.dims with
  | (4, _) :: _ => !g.perReq && !keptRegs.contains g.name
  | _ => false

/-- Whether a register belongs to the fields of a partition: the Ledgers, codecs and cores, and the pace target. -/
def Reg.ofFields (g : Reg) : Bool :=
  match g.dims with
  | (64, _) :: _ => !g.perReq && (decide (g.block = .ldg) || decide (g.block = .cmp) || decide (g.block = .core) || g.name == "SYS_FTGT")
  | _ => false

/-- The copies of a register for one value of its first index back at reset. -/
def State.resetReg (s : State) (g : Reg) (i : Nat) : State :=
  s.each g.fields fun s f => s.clr f (i * g.inner) ((i + 1) * g.inner)

/-- The partition-scoped registers back at reset. -/
def State.resetRegs (s : State) (p : Nat) : State :=
  let s := s.each (allRegs.filter (·.perPart)) fun s g => s.resetReg g p
  let s := s.each (allRegs.filter (·.ofFields)) fun s g => s.each (s.fieldsOf p) fun s f => s.resetReg g f
  ((s.wr PAR_STATE.MODE p 0).wr PAR_STATE.VARIANT p 0).wr PAR_STATE.PLAN p 0

/-! ### State that is discarded (R80 steps 3-5) -/

/-- T0 and T1 of a partition's fields, its page directory, flips and versions. -/
def State.wipeMem (s : State) (p : Nat) : State :=
  let gone := fun (page : Nat) => decide (pageTier page ≤ 1) && s.owns p (pageField page)
  s.onMem fun m => { m with
    words := m.words.filter fun e => !gone (e.1 / 8192)
    hdrs := m.hdrs.filter fun e => !gone (e.1 / 4)
    pages := m.pages.filter fun e => !gone e.1
    dir := m.dir.filter fun e => e.1 / 2 ^ 40 ≠ p
    flips := m.flips.filter fun r => r.part ≠ p
    ages := Store.set 0 m.ages p 0 }

/-- Threads, registers, accumulators and engines of a partition's cores. -/
def State.wipeCores (s : State) (p : Nat) : State :=
  let mine := fun (c : Nat) => s.owns p (c / 152)
  s.onCores fun c => { c with
    threads := Store.keep (fun k => !mine (k / 32)) c.threads
    owed := Store.keep (fun k => !mine (k / 32)) c.owed
    sregs := Store.keep (fun k => !mine (k / 1024)) c.sregs
    vregs := Store.keep (fun k => !mine (k / 256)) c.vregs
    accs := Store.keep (fun k => !mine (k / 512)) c.accs
    engines := Store.keep (fun k => !s.owns p (engField k)) c.engines }

/-- Local objects, polls, barriers and fence lanes of a partition. -/
def State.wipeSync (s : State) (p : Nat) : State :=
  s.onSync fun y => { y with
    objs := Store.keep (fun k => !(decide (k < poolBase) && s.owns p (k / 64 / 152))) y.objs
    parks := y.parks.filter fun pk => match pk.who with
      | .thread k => !s.owns p (k / 32 / 152)
      | .engine k => !s.owns p (engField k)
      | .host _ _ => true
    bars := Store.keep (fun k => decide (k / 64 ≠ p)) y.bars
    lanes := Store.keep (fun k => decide (k / 64 ≠ p)) y.lanes }

/-- The Ledgers, coding tables and replay units of a partition's fields. -/
def State.wipeLedger (s : State) (p : Nat) : State :=
  let mine := s.owns p
  let s := s.onLedger fun l => { l with
    entries := Store.keep (fun k => !mine (k / 65536)) l.entries
    moves := l.moves.filter fun m => !mine m.f
    invoc := l.invoc.filter fun i => !mine i.f
    lateCls := Store.keep (fun k => !mine (k / 64)) l.lateCls
    fenceAt := Store.keep (fun k => !mine (k / 64)) l.fenceAt
    fences := Store.keep (fun k => !mine (k / 64)) l.fences
    skip := Store.keep (fun k => !mine (k / 64)) l.skip
    scanAt := Store.keep (fun k => !mine k) l.scanAt
    tables := Store.keep (fun k => !mine (k / 256)) l.tables
    serials := Store.keep (fun k => !mine k) l.serials
    told := Store.keep (fun k => !mine (k / 2)) l.told }
  s.onReplay fun r => { r with
    slots := Store.keep (fun k => !mine (k / 4096)) r.slots
    queue := r.queue.filter fun q => !mine q.1
    parts := Store.keep (fun k => !mine (k / 32 / 152)) r.parts
    steps := Store.keep (fun k => !mine (k / 152)) r.steps }

/-- Frames, window, verdict ring, tests and queued requests of a partition. -/
def State.wipeGuard (s : State) (p : Nat) : State :=
  s.onGuard fun g => { g with
    frames := Store.set [] g.frames p []
    marks := Store.set 0 g.marks p 0
    win := Store.set [] g.win p []
    windows := g.windows.filter fun w => w.part ≠ p
    tests := Store.keep (fun k => !s.owns p (k / 152)) g.tests
    queue := g.queue.filter fun q => !s.owns p (q.core / 152)
    ingress := g.ingress.filter fun i => i.part ≠ p
    reports := g.reports.filter fun r => r.part ≠ p
    taps := g.taps.filter fun t => t.part ≠ p
    records := Store.keep (fun k => decide (k / 256 ≠ p)) g.records
    busy := Store.keep (fun k => decide (k / 64 ≠ p)) g.busy }

/-- The waiter graph of a partition (21_counters_debug.md): a capture in progress is abandoned and its area cleared. -/
def State.wipeGraph (s : State) (p : Nat) : State :=
  { s with dbg := { s.dbg with graph := Store.set [] s.dbg.graph p [], graphAt := Store.set 0 s.dbg.graphAt p 0 } }

/-! ### LOADING (R80, R81) -/

/-- The T2 pages of a partition that a KEEP carries. -/
def State.carriables (s : State) (p : Nat) : List Nat :=
  (s.mem.pages.filter fun e => decide (pageTier e.1 = 2) && decide (e.2.part = p) && carriable e.2).map (·.1)

/-- Whether a page has lost a tile (R81, R477). -/
def State.lostTile (s : State) (k : Nat) : Bool := [0, 1, 2, 3].any fun t => s.poisoned (tileKey k t)

/-- The carried pages given up: freed and zero-filled (R81). -/
def State.dropCarried (s : State) (p : Nat) : State :=
  (s.freeT2Pages p fun _ => false).onMem fun m => { m with ckpts := m.ckpts.filter fun c => c.part ≠ p }

/-- A partition enters LOADING (R80 steps 3-6), once its abort is complete; with `keep` its CHECKPOINT pages are carried, unless
one has lost a tile (R81). -/
def State.enterLoading (s : State) (p : Nat) (keep recover : Bool) : State :=
  let lost := (s.carriables p).any s.lostTile
  let carry := keep && !lost
  let s := (s.leaseResume p).dropKey p
  let s := if carry then (s.freeT2Pages p carriable).keepCkpts p else s.dropCarried p
  let s := (((((((s.wipeMem p).wipeCores p).wipeSync p).wipeLedger p).wipeGuard p).wipeGraph p).releaseBlocks p).resetTies p
  let s := (s.resetRegs p).endLoads p
  let s := if s.rd (ckField p) 0 = 3 then s.wr (ckField p) 0 1 else s
  let t := s.part p
  let s := s.setPart p { t with
    epoch := (t.epoch + 1) % 256, keep := carry, held := carry, recover := false, halting := false, low := [], stopped := [], frozen := true
    next := 0, verify := [], noPress := [], isSealed := false, save := 0, loaded := false, recovering := recover
    denied := keep && lost && !recover }
  let s := (((s.wr PAR_STATE.STATE p stLoading).wr PAR_STATE.BUSY p 1).wr PAR_RECOV_STAT.PHASE p (if recover then 3 else 0)).toFloor p
  (if keep && lost && recover then s.event PAR_RECOV_EVT.CKPT_LOST p p else s).remapLost p t.lost |>.pins

end Sys2Proof.Machine
end

