-- ==== Sys2Proof/Machine/Running.lean ====
section
/-! DEFINITION. Entry into RUNNING (03_partitions_admission.md R63 and the rules that name it: 06_cores_threads.md R146,
08_synchronisation.md R190, 10_policy_fetchback.md R262, 03 R81). -/

namespace Sys2Proof.Machine

/-- The cores of a partition to which the placement gives a program (R401). -/
def State.programsOf (s : State) (p : Nat) : List (Nat × Program) :=
  match s.sect p, s.placement p with
  | some c, some pl => ((c.coremaps.lookup pl.coremap).getD []).filterMap fun e =>
      if s.owns p e.f then (c.programs.lookup e.prog).map fun g => (coreKey e.f e.m, g) else none
  | _, _ => []

/-- A core at its program's start: local words, headers, objects and AUTO threads (R139, R146, R190). -/
def State.loadCore (s : State) (c : Nat) (g : Program) : State :=
  let f := c / 152
  let m := c % 152
  let s := s.each g.mem fun s x => s.setWord (localWord f m x.1) ⟨x.2, true, false⟩
  let s := s.each g.hdrs fun s x => s.setHdr (localTile f m x.1) x.2
  let s := s.each g.objs fun s x => s.setObj (objKey f m x.1) { obj0 with live := true, count := x.2 }
  s.each (g.threads.filter (·.auto)) fun s t => s.setThread (c * 32 + t.t) { thread0 with st := .ready, pc := t.entry }

/-- The pool objects of a partition's share, live with the section's counts (R190). -/
def State.loadPool (s : State) (p : Nat) : State :=
  let cnt := ((s.sect p).map (·.sync.pool)).getD []
  s.each (s.blocksOf p).zipIdx fun s b => s.each (List.range 64) fun s j =>
    s.setObj (poolKey (b.1 * 64 + j)) { obj0 with live := true, count := (cnt.lookup (b.2 * 64 + j)).getD 0 }

/-- The class a page takes as a flip group's current page: its range's (R97). -/
def State.rangeCls (s : State) (p l : Nat) : Nat := ((s.rangeOf p l).map (·.cls)).getD 3

/-- The newest carried version of a flip group becomes its current version, and its image version frees (R81). -/
def State.takeCarried (s : State) (p g : Nat) : State :=
  match s.mem.ckpts.find? fun c => decide (c.part = p) && decide (c.group = g) with
  | none => s
  | some c =>
    let s := s.each (s.groupPages p g) fun s l => match (s.dir p l).cur with
      | some k => (s.freeNow k).setDir p l { s.dir p l with cur := none }
      | none => s
    let s := s.each c.pages fun s x =>
      (s.setPage x.2 { s.page x.2 with cls := s.rangeCls p x.1 }).setDir p x.1 { s.dir p x.1 with cur := some x.2 }
    (s.onMem fun m => { m with ckpts := m.ckpts.filter (· ≠ c) }).trimCkpts p g

/-- The seeds of the live estimates (R262, R263). -/
def State.seedEst (s : State) (p : Nat) : State :=
  match s.plan p with
  | none => s
  | some pl => s.each (s.fieldsOf p) fun s f =>
      let s := (((s.wr LDG_EST.T2R f pl.seedT2r).wr LDG_EST.T2W f pl.seedT2w).wr LDG_EST.PRESS f pl.seedPress).wr LDG_EST.DEC f pl.seedDec
      s.each (List.range 64) fun s i => s.wr LDG_EST_TF.TICKS (f * 64 + i) pl.seedTf

/-- The clocks that count from the entry into RUNNING: fences, scans, heat boundary, test deadlines. -/
def State.startClocks (s : State) (p : Nat) : State :=
  let s := s.onLedger fun l => { l with
    fenceAt := (s.fieldsOf p).foldl (fun m f => (List.range 64).foldl (fun m i => Store.set 0 m (f * 64 + i) s.now) m) l.fenceAt
    scanAt := (s.fieldsOf p).foldl (fun m f => Store.set 0 m f (s.now + s.rd LDG_POL_CTL.SCAN f * 1000)) l.scanAt }
  let s := s.onMem fun m => { m with ages := Store.set 0 m.ages p (s.now + s.rd TIER_HEAT_CTL.AGE p * 10000) }
  if s.guarded p then
    s.each ((s.fieldsOf p).filter fun f => !s.fieldFailed f) fun s f => s.each (List.range 152) fun s m =>
      s.setTest (coreKey f m) { test0 with deadline := s.now + s.rd GRD_TCFG.TEST_MS p * 1000000 }
  else s

/-- Entry into RUNNING: registers sealed (R17), programs and objects in place, carried versions current. -/
def State.start (s : State) (p : Nat) : State :=
  let s := s.wr PAR_STATE.STATE p stRunning
  let s := s.setPart p { s.part p with isSealed := true, since := s.now, frozen := false, held := false, recovering := false }
  let s := s.each (s.programsOf p) fun s x => s.loadCore x.1 x.2
  let s := s.loadPool p
  let s := s.each (List.range (s.pagedir p).groups) fun s g => s.takeCarried p g
  let s := ((s.seedEst p).startClocks p).startTies p
  let s := if s.guarded p then s.wr (ckField p) 0 3 else s
  (s.wr PAR_RECOV_STAT.PHASE p 0).pins

end Sys2Proof.Machine
end

