-- ==== Sys2Proof/Machine/Admission.lean ====
section
/-! DEFINITION. Admission of a partition (03_partitions_admission.md R64-R70): layout, edges, checker, placement and plan,
injection, and what ADMITTED loads. -/

namespace Sys2Proof.Machine

/-! ### Steps 1 to 3 -/

/-- The columns that a section reserves anything in. -/
def Section.columns (c : Section) : List Nat :=
  (List.range 8).filter fun x => c.plans.any fun pl => pl.2.fields.any fun e => decide (e.1 % 8 = x) && decide (e.2 ≠ fieldPlan0)

/-- The columns of the layout. -/
def State.columnsOf (s : State) (p : Nat) : List Nat := (List.range 8).filter (bit (s.cols p))

/-- Whether every owned edge die works and is reachable from every working field of the partition (R66 step 2). -/
def State.edgesOk (s : State) (p : Nat) : Bool :=
  ((List.range 16).all fun d => decide (s.flashOwner d ≠ some p) || (decide (s.rd REPO_DIE.STATE d ≠ 2) && decide (s.rd REPO_DIE.STATE d ≠ 3))) &&
  (edgesOf s.flashOwner s.linkOwner p).all fun k => !s.edgeDead k && ((s.fieldsOf p).filter fun f => !s.fieldFailed f).all fun f => s.reachesEdge f k

/-! ### Step 4: the placement (R401) -/

/-- Failed fields of a partition. -/
def State.failedFields (s : State) (p : Nat) : List Nat := (s.fieldsOf p).filter s.fieldFailed
/-- Failed towers of the partition's fields, by their numbers in PAR_TFAIL; `all` counts those of failed fields too. -/
def State.failedTowers (s : State) (p : Nat) (all : Bool) : List Nat :=
  ((s.fieldsOf p).filter fun f => all || !s.fieldFailed f).flatMap fun f =>
    ((List.range 4).filter (s.towerFailed f)).map (f * 4 + ·)

/-- Whether a placement covers the partition's failures (R401). -/
def State.covers (s : State) (p : Nat) (pl : Placement) : Bool :=
  ((s.failedFields p).all (bit pl.ffail)) && ((s.failedTowers p false).all (bit pl.tfail))

/-- The placement that R66 step 4 chooses, by its instance. -/
def State.choose (s : State) (p : Nat) (c : Section) : Option Nat :=
  if (s.failedFields p).isEmpty && (s.failedTowers p true).isEmpty then some 0
  else ((List.range 16).drop 1).find? fun i => (c.placements.lookup i).any (s.covers p)

/-! ### Steps 5 and 6: the plan -/

/-- Pages of T1 classes other than the Ledger budget. -/
def t1Other (x : FieldPlan) : Nat := x.t1cls.sum
/-- T2 of a field with the additions of R65. -/
def t2Total (x : FieldPlan) : Nat := if x = fieldPlan0 then 0 else x.t2 + 3072 + x.t1ldg

/-- The shortfall of a field by word of PAR_SHORT (R69): T1_LDG, T1_OTHER, T2, LEDGER, REPLAY. -/
def State.fieldShort (s : State) (f : Nat) (x : FieldPlan) : List Nat :=
  [x.t1ldg - 1536, (x.t1ldg + t1Other x - 1536) - (x.t1ldg - 1536), t2Total x - (s.towers f).length * 786432, x.ledger - 65536, x.replay - 4096]

/-- The sync pool blocks that no partition holds. -/
def State.freeBlocks (s : State) : List Nat := (List.range 256).filter fun b => decide (Store.get 0 s.sync.blocks b = 0)

/-- Whether a partition holds its reservations (R70). -/
def State.holds (s : State) (p : Nat) : Bool := decide (stAdmitted ≤ s.pst p) && decide (s.pst p ≤ stSafe)

/-- Reserved share on a crossing by the other partitions, in 1/64 units. -/
def State.shareOn (s : State) (p x : Nat) : Nat :=
  (((List.range 4).filter fun q => decide (q ≠ p) && s.holds q && (s.sect q).any fun c => c.sync.route.contains x).map fun q =>
    ((s.plan q).map (·.netShare)).getD 0).sum

/-- The flash dies that a partition owns. -/
def State.flashDies (s : State) (p : Nat) : List Nat := (List.range 16).filter fun d => decide (s.flashOwner d = some p)

/-- What a plan lacks: shortfalls by word of PAR_SHORT with NETSHARE last, and the worst field. -/
structure Shortfall where
  words : List Nat
  worst : Nat
deriving DecidableEq, Repr

/-- A plan held against every resource of R64 and R65. -/
def State.shortfall (s : State) (p : Nat) (c : Section) (pl : Plan) : Shortfall :=
  let fs := (s.fieldsOf p).filter fun f => !s.fieldFailed f
  let per := fs.map fun f => (f, s.fieldShort f (Store.get fieldPlan0 pl.fields f))
  let most := fun (i : Nat) => (per.map fun x => x.2.getD i 0).foldl max 0
  let net := (c.sync.route.map fun x => (s.shareOn p x + pl.netShare) - 16).foldl max 0
  let ws := [most 0, most 1, most 2, pl.t3 - 20480 * (s.flashDies p).length, pl.syncBlocks - s.freeBlocks.length, most 3, most 4, net]
  let i := ([0, 1, 2, 3, 4].find? fun i => decide (most i ≠ 0)).getD 0
  ⟨ws, (((per.find? fun x => decide (x.2.getD i 0 = most i)).map (·.1)).getD 0)⟩

/-- Whether every resource fits. -/
def Shortfall.fits (x : Shortfall) : Bool := x.words.all (· == 0)

/-- PAR_SHORT and PAR_SHORT_INFO (R69). -/
def State.putShort (s : State) (p plan : Nat) (x : Shortfall) : State :=
  let w := fun i => x.words.getD i 0
  let s := (((s.wr PAR_SHORT.T1_LDG p (w 0)).wr PAR_SHORT.T1_OTHER p (w 1)).wr PAR_SHORT.T2 p (w 2)).wr PAR_SHORT.T3 p (w 3)
  let s := (((s.wr PAR_SHORT.SYNC p (w 4)).wr PAR_SHORT.LEDGER p (w 5)).wr PAR_SHORT.REPLAY p (w 6)).wr PAR_SHORT.NETSHARE p (w 7)
  let res := ((List.range 8).map fun i => if w i = 0 then 0 else 2 ^ i).sum
  ((s.wr PAR_SHORT_INFO.FIELD p x.worst).wr PAR_SHORT_INFO.PLAN p plan).wr PAR_SHORT_INFO.SHORT_RES p res

/-- A refusal (R69, R82): the partition enters STOPPED, and the event is sent. -/
def State.refuse (s : State) (p cause : Nat) : State := (s.stopPart p cause).event PAR_EVT.ADM_REFUSED p p

/-- Steps 4 to 6: the placement and plan that admission takes, or the refusal. -/
def State.pick (s : State) (p : Nat) (c : Section) : (Nat × Nat × Plan) ⊕ State :=
  match s.choose p c with
  | none => .inr (s.refuse p 5)
  | some i =>
    match c.placements.lookup i with
    | none => .inr (s.refuse p 5)
    | some pl =>
      match c.plans.lookup pl.main, pl.tight.bind (c.plans.lookup ·) with
      | some m, t =>
        let x := s.shortfall p c m
        if x.fits then .inl (i, 0, m)
        else match t with
          | none => .inr ((s.putShort p 0 x).refuse p 1)
          | some t =>
            let y := s.shortfall p c t
            if y.fits then .inl (i, 1, t) else .inr ((s.putShort p 1 y).refuse p 1)
      | none, _ => .inr (s.refuse p 5)

/-! ### Step 8: what ADMITTED loads -/

/-- PAR_RES (R64): each per-field figure is the largest field's. -/
def State.putRes (s : State) (p : Nat) (pl : Plan) : State :=
  let fs := (s.fieldsOf p).map (Store.get fieldPlan0 pl.fields)
  let most := fun (g : FieldPlan → Nat) => (fs.map g).foldl max 0
  let s := (((s.wr PAR_RES.T1_LDG p (most (·.t1ldg))).wr PAR_RES.T1_OTHER p (most t1Other)).wr PAR_RES.T2 p (most t2Total)).wr PAR_RES.T3 p pl.t3
  (((s.wr PAR_RES.SYNC p pl.syncBlocks).wr PAR_RES.LEDGER p (most (·.ledger))).wr PAR_RES.REPLAY p (most (·.replay))).wr PAR_RES.NETSHARE p pl.netShare

/-- The lowest-numbered free blocks granted (R191). -/
def State.grantBlocks (s : State) (p n : Nat) : State :=
  let bs := s.freeBlocks.take n
  s.onSync fun y => { y with blocks := bs.foldl (fun m b => Store.set 0 m b (p + 1)) y.blocks }

/-- Registers of fence groups and of the urgent set. -/
def State.putFence (s : State) (p : Nat) (c : Section) (pl : Plan) : State :=
  let s := s.each c.fence fun s g =>
    let i := grpKey p g.g
    let mask := ((g.members.map (·.f)).eraseDups.map (2 ^ ·)).sum
    ((s.wr STR_FG_CFG.VALID i 1).wr STR_FG_CFG.LANES i (g.lanes - 1)).wr STR_FG_FIELDS.FIELDS i mask
  (s.wr SYN_URG.SHARE p pl.netShare).wr SYN_URG.SOURCES p c.sync.urgent.length

/-- Registers of the GUARD and CHECKER records (R448, R435). -/
def State.putGuard (s : State) (p : Nat) (c : Section) : State :=
  let s := match c.checker with
    | some k => (s.wr GRD_RES_CFG.FIRST p k.rfirst).wr GRD_RES_CFG.PAGES p k.rpages
    | none => s
  match c.guard with
  | none => s
  | some g =>
    let s := ((s.wr GRD_TCFG.FTTI_MS p g.ftti).wr GRD_TCFG.TEST_MS p g.test).wr GRD_AGE.LIMIT p g.age
    let s := ((s.wr GRD_AGE.RUN p g.run).wr GRD_ING_CFG.SLOT p g.slot).wr GRD_TEST_CFG.SEG_US p g.seg
    let s := (s.wr GRD_TEST_CFG.PAR p g.par).wr GRD_TEST_CFG.GAP_US p g.gap
    let s := s.each g.stages.zipIdx fun s x =>
      let i := p * 16 + x.2
      ((((s.wr GRD_STG.MIN i x.1.min).wr GRD_STG.MAX i x.1.max).wr GRD_STG.CRIT i x.1.crit).wr GRD_STG.WATCH i x.1.watch).wr GRD_STG.PREV i x.1.prev
    s.each g.tasks.zipIdx fun s x =>
      let i := p * 64 + x.2
      ((((s.wr GRD_TASK.FIELD i x.1.field).wr GRD_TASK.CORE i x.1.core).wr GRD_TASK.STAGE i x.1.stage).wr GRD_TASK.THREADS i x.1.threads).wr
        GRD_TASK.BUDGET i x.1.budget

/-- The initial content of one page of a range (R586): allocated, written, its T2 page sealed. -/
def State.initPage (s : State) (p : Nat) (r : Range) (i : Nat) : State :=
  let l := r.lbase + i
  let f := rangeField r i
  let words := fun (t : Nat) => (List.range 2048).foldl (fun m w =>
    Store.set 0 m w (Store.get 0 r.init (i * 8192 + t * 2048 + w))) ([] : Store Word)
  match (if r.tier = 2 then s.allocT2 p f l r.cls .none else s.allocT1 p f l r.cls r.t1class .none) with
  | none => s
  | some (s, k) =>
    let s := s.each [0, 1, 2, 3] fun s t => s.setPayload (tileKey k t) (words t) false
    let s := s.setPage k { s.page k with written := 15 }
    let s := s.sealPage k (some (stgHdr p f 0 r.dtype s.now))
    s.setDir p l { s.dir p l with cur := some k }

/-- The initial content of a page directory. -/
def State.initPages (s : State) (p : Nat) : State :=
  s.each ((s.pagedir p).ranges.filter (·.hasInit)) fun s r => s.each (List.range r.pages) fun s i => s.initPage p r i

/-- R66 step 8, once placement and plan are chosen: the reservation, the section's settings and the initial content. -/
def State.admitted (s : State) (p : Nat) (c : Section) (i plan : Nat) (pl : Plan) : State :=
  let s := (((s.wr PAR_STATE.MODE p c.mode).wr PAR_STATE.VARIANT p i).wr PAR_STATE.PLAN p plan).wr PAR_STATE.STATE p stAdmitted
  let s := ((s.putRes p pl).grantBlocks p pl.syncBlocks).each (s.fieldsOf p) fun s f => s.wr SYS_FTGT.TARGET f c.target
  let s := (s.putFence p c pl).putGuard p c
  let s := ((s.wr HPT_STG_CFG.BASE p c.stgBase).wr HPT_STG_CFG.PAGES p c.stgPages).wr SEC_SEALED.REGIONS p c.regions.length
  let s := s.each c.regset fun s x => s.setting (s.fieldsOf p) x
  let s := s.onSec fun y => { y with keys := if c.regions.isEmpty then y.keys else Store.set 0 y.keys p (s.fresh + 1) }
  let s := if c.regions.isEmpty then s else s.used
  let s := if c.mode = 2 then { s with parts := { s.parts with copy := Store.set none s.parts.copy p (some c) } } else s
  let s := s.each (s.carriables p) fun s k => s.setPage k { s.page k with pool := poolT2 }
  s.initPages p

/-! ### The command -/

/-- A guarded partition of a debug unlock's scope waits at its start (R387). -/
def State.startBarred (s : State) (p : Nat) : Bool :=
  s.guarded p && decide (s.rd SEC_DBG_STAT.UNLOCKED 0 = 1) && bit (s.rd SEC_DBG_STAT.SCOPE 0) p

/-- Whether the partition enters RUNNING once it is ADMITTED: START is AUTO (R63); AUTO_RESUME after a recovery (R481). -/
def State.autoStart (s : State) (p : Nat) (c : Section) (recovering : Bool) : Bool :=
  (if recovering then decide (s.rd PAR_RECOV_CTL.AUTO_RESUME p = 1) else c.auto) && !s.startBarred p

/-- Injection (R469, R470): every row detected, or the first that was not. -/
def State.inject (s : State) (p : Nat) (row : Option (Fin 11)) : State :=
  match row with
  | none => (s.wr GRD_INJ.DONE p 1).onGuard fun g => { g with inj := Store.set 0 g.inj p (s.now + 1) }
  | some r => (s.wr GRD_INJ.ROW p (r.val + 1)).wr GRD_INJ.FAIL p 1

/-- Steps 4 to 8 of R66. -/
def State.admitFrom4 (s : State) (p : Nat) (c : Section) (inj : Option (Fin 11)) (again : Bool) : State :=
  match s.pick p c with
  | .inr s => s
  | .inl (i, plan, pl) =>
    let s := if c.mode = 2 && !again then s.inject p inj else s
    if c.mode = 2 && !again && inj.isSome then s.refuse p 6
    else
      let rec_ := (s.part p).recovering
      let s := s.admitted p c i plan pl
      if again then s
      else
        let s := s.leaveLoading p
        if s.pst p = stAdmitted ∧ (s.part p).next = 0 ∧ s.autoStart p c rec_ then s.start p else s.pins

/-- Steps 1 to 8; a recovery restart runs steps 4 to 8 (R481). -/
def State.admitAll (s : State) (p : Nat) (c : Section) (inj : Option (Fin 11)) : State :=
  if (s.part p).recovering then s.admitFrom4 p c inj false
  else if c.columns ≠ s.columnsOf p then s.refuse p 2
  else if !s.edgesOk p then s.refuse p 3
  else if c.mode = 2 ∧ s.rd (ckField p) 0 ≠ 1 then s.refuse p 4
  else s.admitFrom4 p c inj false

/-- Re-admission in place (03 "Failure during ADMITTED"): what the admission filled is released, and steps 4 to 8 run again. -/
def State.readmit (s : State) (p : Nat) (c : Section) (inj : Option (Fin 11)) : State :=
  let keep := (s.mem.ckpts.filter fun x => decide (x.part = p)).flatMap fun x => x.pages.map (·.2)
  let s := (s.freeT2Pages p carriable).releaseBlocks p
  let s := s.each keep fun s k => s.setPage k { s.page k with pool := poolT2 }
  let s := s.wipeMem p
  let s := s.setPart p { s.part p with next := 0 }
  s.admitFrom4 p c inj true

/-- Whether a partition's turn of R68 has come: it has no lower-numbered partition still LOADING, or not yet started. -/
def State.turn (s : State) (p : Nat) : Bool :=
  (List.range p).all fun q => decide (s.pst q ≠ stLoading) && (decide (s.pst q ≠ stOff) || decide (s.cols q = 0))

/-- ADMIT (R66): admission of a partition whose section has been loaded, once its flash dies have finished phase 9 (R405). -/
def execAdmitPart (p : Part) (inj : Option (Fin 11)) (s : State) : Host.Outcome State Fault Refusal :=
  .next (match s.sect p.val with
    | none => s
    | some c =>
      if s.pst p.val = stLoading ∧ (s.part p.val).loaded ∧ s.turn p.val ∧ (s.flashDies p.val).all (fun d => Store.get false s.boot.flash d) then
        s.admitAll p.val c inj
      else if s.pst p.val = stAdmitted ∧ (s.part p.val).next = 3 then s.readmit p.val c inj
      else s)

end Sys2Proof.Machine
end

