-- ==== Sys2Proof/Machine/Aes.lean ====
section
/-! DEFINITION. AES-128 encryption (FIPS 197) as 11_replay.md R285 uses it: blocks and keys are numbers whose byte 0 is bits
[7:0] (00_scope.md R9). -/

namespace Sys2Proof.Machine

/-- Doubling in the field of AES. -/
def aesX (a : Nat) : Nat := if a < 128 then 2 * a else (2 * a) ^^^ 0x11B
/-- Multiplication in the field of AES, by the low `k` bits of `b`. -/
def aesMulAt : Nat → Nat → Nat → Nat
  | 0, _, _ => 0
  | k + 1, a, b => (if b % 2 = 1 then a else 0) ^^^ aesMulAt k (aesX a) (b / 2)
/-- Multiplication in the field of AES. -/
def aesMul (a b : Nat) : Nat := aesMulAt 8 a b
/-- The inverse of an element, 0 for 0: its 254th power. -/
def aesInv (a : Nat) : Nat :=
  let a2 := aesMul a a
  let a4 := aesMul a2 a2
  let a8 := aesMul a4 a4
  let a16 := aesMul a8 a8
  let a32 := aesMul a16 a16
  let a64 := aesMul a32 a32
  let a128 := aesMul a64 a64
  aesMul a128 (aesMul a64 (aesMul a32 (aesMul a16 (aesMul a8 (aesMul a4 a2)))))
/-- A byte turned left by `n` bits. -/
def rotl8 (a n : Nat) : Nat := (a * 2 ^ n) % 256 + a * 2 ^ n / 256
/-- The substitution box. -/
def aesS (a : Nat) : Nat :=
  let b := aesInv a
  b ^^^ rotl8 b 1 ^^^ rotl8 b 2 ^^^ rotl8 b 3 ^^^ rotl8 b 4 ^^^ 0x63

/-- Two byte strings added. -/
def xorBytes (a b : List Nat) : List Nat := (a.zip b).map fun x => x.1 ^^^ x.2

/-- The next round key. -/
def nextKey (k : List Nat) (rcon : Nat) : List Nat :=
  let w := fun (i : Nat) => (k.drop (4 * i)).take 4
  let l := (w 3)
  let t := ((l.drop 1 ++ l.take 1).map aesS)
  let t := xorBytes t [rcon, 0, 0, 0]
  let a := xorBytes (w 0) t
  let b := xorBytes (w 1) a
  let c := xorBytes (w 2) b
  a ++ b ++ c ++ xorBytes (w 3) c

/-- SubBytes and ShiftRows. -/
def subShift (s : List Nat) : List Nat :=
  (List.range 16).map fun i => aesS (s.getD ((i + 4 * (i % 4)) % 16) 0)

/-- MixColumns. -/
def mixCols (s : List Nat) : List Nat :=
  (List.range 16).map fun i =>
    let c := i / 4 * 4
    let g := fun (j : Nat) => s.getD (c + (i + j) % 4) 0
    aesX (g 0) ^^^ (aesX (g 1) ^^^ g 1) ^^^ g 2 ^^^ g 3

/-- The rounds after the first key addition. -/
def aesRounds : Nat → Nat → List Nat → List Nat → List Nat
  | 0, _, _, s => s
  | r + 1, rcon, k, s =>
    let k' := nextKey k rcon
    let t := subShift s
    aesRounds r (aesX rcon) k' (xorBytes (if r = 0 then t else mixCols t) k')

/-- AES-128 of one block. -/
def aes128 (key block : Nat) : Nat :=
  let k := bytesOf 16 key
  ofBytes (aesRounds 10 1 k (xorBytes (bytesOf 16 block) k))

end Sys2Proof.Machine
end

