-- ==== Sys2Proof/Machine/Replay.lean ====
section
/-! DEFINITION. Spans, their recording and their replay, and the random numbers (11_replay.md). -/

namespace Sys2Proof.Machine

/-- Whether the fields of a REPLAY instruction that must be 0 are (R276). -/
def replayRsv (i : SyncIns) (imm : Bool) : Bool := decide (i.rsv ≠ 0) || i.f || decide (i.sb ≠ 0) || (imm && decide (i.imm ≠ 0))

/-- Whether a thread is a span thread of its core's program (R274). -/
def State.spanThread (s : State) (k : Nat) : Bool :=
  (s.program (k / 32 / 152) (k / 32 % 152)).any fun p => p.spans.contains (k % 32)

/-- SPAN.BEGIN (R277): the part joins its slot, or waits for one; the issuing thread parks either way. -/
def execSpanBegin (t : Thr) (i : SyncIns) (s : State) : Host.Outcome State Fault Refusal :=
  .next (s.issue t (i.sa = 0) fun k s =>
    if replayRsv i false then s.threadFault k 1 0
    else s.forbidden k fun s =>
      let f := t.f.val
      let sid := i.imm.toNat
      let here := (s.spanDef f sid).any fun d => d.parts.any fun x => decide (x.core = t.m.val) && decide (x.pc = (s.thread k).pc + 1)
      if s.spanThread k || !here then s.spanFault k 1
      else
        let step := (s.sreg k i.sa.val).toNat % 2 ^ 32
        let s := s.onReplay fun r => { r with steps := Store.set 0 r.steps (k / 32) step }
        match s.beginPart k sid step i.sd.val with
        | some a => a.1.parkThread k (.slot f a.2) false sid i.tag.val (i.sd.val + 32 * i.sa.val)
        | none => (s.ldgEvt LDG_REP_EVT.SLOT_WAIT f).parkThread k (.slot f 0xFFFF) false sid i.tag.val (i.sd.val + 32 * i.sa.val))

/-- The span threads of a span in a field. -/
def spanThreads (f : Nat) (d : SpanDef) : List Nat := d.parts.map fun x => thrKey f x.core x.thread

/-- The waiting slots of a field: recordings whose parts have all begun, and queued replays. -/
def State.waitingSlots (s : State) (f : Nat) : List Nat :=
  (s.replay.slots.filter fun e => decide (e.1 / 4096 = f) && ((decide (e.2.st = 1) && !e.2.going &&
      decide (some e.2.runs.length = (s.spanDef f e.2.sid).map fun d => d.parts.length)) ||
    (decide (e.2.st = 2) && s.replay.queue.contains (f, e.1 % 4096)))).map (·.1 % 4096)

/-- Whether a slot's span threads are all IDLE, and no older waiting slot wants one of them (R278). -/
def State.gangFree (s : State) (f n : Nat) : Bool :=
  match s.spanDef f (s.slot f n).sid with
  | none => false
  | some d =>
    ((spanThreads f d).all fun k => decide ((s.thread k).st = .idle) && !s.heldCore (k / 32)) &&
    (s.waitingSlots f).all fun o => decide (o = n) || decide ((s.slot f n).since ≤ (s.slot f o).since) ||
      !((s.spanDef f (s.slot f o).sid).any fun d' => (spanThreads f d').any (spanThreads f d).contains)

/-- The initial value of a local object in the section. -/
def State.objInit (s : State) (f m n : Nat) : Nat := ((s.program f m).bind fun p => p.objs.lookup n).getD 0

/-- The private objects of a part set to their initial values, live (R278 step 1). -/
def State.freshObjs (s : State) (f : Nat) (x : SpanPart) : State :=
  s.each ((List.range 48).filter (bit x.priv)) fun s n =>
    s.setObj (objKey f x.core n) { obj0 with count := s.objInit f x.core n, live := true }

/-- A part started on its span thread (R278 steps 3 and 4). -/
def State.startPart (s : State) (f n : Nat) (q : Nat) (x : SpanPart) (frame : List Word) : State :=
  let k := thrKey f x.core x.thread
  let banks := (((s.program f x.core).bind fun p => p.threads.find? (·.t = x.thread)).map (·.banks)).getD 0
  let s := s.each (List.range 32) fun s r => s.setSreg k r (if r = 0 then 0 else if r ≤ 15 then frame.getD (r - 1) 0
    else if r = 16 then BitVec.ofNat 64 n else 0)
  let s := s.each (List.range 8) fun s r => s.setVreg k r 0
  let s := s.each ((List.range 4).filter (bit banks)) fun s b => s.setBank (coreKey f x.core) b fun _ => 0
  let s := (s.setOwed k []).setThread k { s.thread k with st := .ready, pc := x.pc % 8192 }
  s.onReplay fun r => { r with
    parts := Store.set 0 r.parts k (n * 16 + q + 1)
    steps := Store.set 0 r.steps (coreKey f x.core) (s.slot f n).step }

/-- The parts of a slot start together (R278). -/
def State.gang (s : State) (f n : Nat) : State :=
  match s.spanDef f (s.slot f n).sid with
  | none => s
  | some d =>
    let s := s.each d.parts fun s x => s.freshObjs f x
    let s := s.setSlot f n { s.slot f n with
      beginTk := s.now % 2 ^ 64, going := true, accs := 0, runs := (s.slot f n).runs.map fun r => { r with ended := false } }
    s.each (s.slot f n).runs fun s r => match d.parts[r.part]? with
      | some x => s.startPart f n r.part x r.frame
      | none => s

/-- GANG_START (R278): every part of a recording has begun and every span thread is IDLE. -/
def execGangStart (f : FieldId) (n : BitVec 12) (s : State) : Host.Outcome State Fault Refusal :=
  let f := f.val
  let n := n.toNat
  let t := s.slot f n
  .next (if s.running (s.entPart f) && !(s.part (s.entPart f)).frozen && decide (t.st = 1) && !t.going && (s.waitingSlots f).contains n &&
      s.gangFree f n then (s.tally 1 f 0x40 1).gang f n else s)

/-- The end of a recording (R282): CLOSED, and the issuing threads go on with the slot number. -/
def State.endRecord (s : State) (f n : Nat) : State :=
  let t := s.slot f n
  let s := s.setSlot f n { t with spanTk := min 2147483647 (s.now - t.beginTk) }
  let s := s.each t.runs fun s r => match s.sync.parks.find? fun pk => decide (pk.who = .thread r.thr) && decide (pk.tgt = .slot f n) with
    | some pk => (s.setSreg r.thr r.sd (BitVec.ofNat 64 n)).finish pk 0
    | none => s
  s.closeSlot f n

/-- One output of a replay at its end (R289, R290). -/
def State.endOutput (s : State) (f n h : Nat) : State :=
  let t := s.slot f n
  let j := (t.outs.findIdx? (· = h)).getD 0
  let i := hndEntry h
  let e := s.entry f i
  if e.gen ≠ hndGen h ∨ e.st ≠ 8 then s
  else if t.cur.getD j 0 = t.digs.getD j 0 then (((s.depInputs f i false).ready f i).tally 1 f 0x42 1)
  else
    let p := s.entPart f
    let s := ((s.repFlt f 0x11 n 0xFF 0).ldgEvt LDG_REP_EVT.MISMATCH f).tally 1 f 0x43 1
    let cs := ((s.spanDef f t.sid).map fun d => d.parts.map fun x => coreKey f x.core).getD []
    let s := s.each cs fun s c => s.setTest c { s.ctest c with report := 12 }
    ((s.event PAR_RECOV_EVT.HW_ERROR p p).lose f i 5)

/-- The end of a replay (R289). -/
def State.endReplay (s : State) (f n : Nat) : State :=
  let s := s.each (s.slot f n).redo fun s h => s.endOutput f n h
  if (s.slot f n).st = 3 then s.closeSlot f n else s

/-- SPAN.END (R282, R289). -/
def execSpanEnd (t : Thr) (i : SyncIns) (s : State) : Host.Outcome State Fault Refusal :=
  .next (s.issueJump t false fun k s =>
    if replayRsv i true then s.threadFault k 1 0
    else match s.partRun k with
      | none => s.spanFault k 2
      | some (n, q) =>
        let f := t.f.val
        let s := (s.setThread k { s.thread k with st := .idle }).onReplay fun r => { r with parts := Store.set 0 r.parts k 0 }
        let v := s.slot f n
        let v := { v with runs := v.runs.map fun r => if r.part = q then { r with ended := true } else r }
        let s := s.setSlot f n v
        if v.runs.all (·.ended) then (if v.st = 3 then s.endReplay f n else s.endRecord f n).settle (s.entPart f) else s)

/-- RNG (R285): four blocks of AES-128 over the counter, under the partition's replay key. -/
def execRng (t : Thr) (i : SyncIns) (s : State) : Host.Outcome State Fault Refusal :=
  .next (s.issue t (i.sa = 0) fun k s =>
    if replayRsv i true || decide (8 ≤ i.sd.val) then s.threadFault k 1 0
    else
      let f := t.f.val
      let a := (s.sreg k i.sa.val).toNat
      let key := ((s.sect (s.entPart f)).map (·.replayKey)).getD 0
      let sid := match s.partRun k with
        | some (n, _) => (s.slot f n).sid
        | none => 0xFFFF
      let ctr := Store.get 0 s.replay.steps (k / 32) % 2 ^ 32 * 2 ^ 96 + sid * 2 ^ 80 + bits a 31 0 * 2 ^ 48 + bits a 61 32 * 2 ^ 18
      let v := ((List.range 4).map fun j => aes128 key (ctr + j) * 2 ^ (128 * j)).sum
      (((s.setVreg k i.sd.val (BitVec.ofNat 512 v)).tally 1 f 0x44 1).done k 0))

/-- Whether an input of a slot can no longer be had (R290 INPUT_LOST). -/
def State.inputGone (s : State) (h : Nat) : Bool :=
  let e := s.entry (hndField h) (hndEntry h)
  decide (e.gen ≠ hndGen h) || decide (e.st = 0)

/-- REPLAY_START (R288, R290): the first queued replay of a field whose inputs are all there and whose span threads are
IDLE; one that is STALE, or has lost an input, loses its outputs. -/
def execReplayStart (f : FieldId) (s : State) : Host.Outcome State Fault Refusal :=
  let f := f.val
  let p := s.entPart f
  .next (if !s.running p || (s.part p).frozen then s
    else match s.replay.queue.find? fun q => decide (q.1 = f) && ((s.slot f q.2).stale || (s.slot f q.2).ins.any s.inputGone ||
        ((s.slot f q.2).ins.all s.inputReady && decide ((s.slot f q.2).st = 2) && s.gangFree f q.2)) with
      | none => s
      | some (_, n) =>
        let t := s.slot f n
        if t.stale then (s.loseReplay f n 0x12 0xFF 0).settle p
        else if t.ins.any s.inputGone then (s.loseReplay f n 0x13 0xFF 0).settle p
        else
          let redo := t.outs.filter fun h => decide ((s.entry f (hndEntry h)).gen = hndGen h) && decide ((s.entry f (hndEntry h)).st = 8)
          let s := s.onReplay fun r => { r with queue := r.queue.filter (· ≠ (f, n)) }
          if redo.isEmpty then s
          else ((s.setSlot f n { t with st := 3, redo := redo, cur := List.replicate t.outs.length 0 }).tally 1 f 0x41 1).gang f n)

end Sys2Proof.Machine
end

