-- ==== Sys2Proof/Machine/Device.lean ====
section
/-! DEFINITION. The device reset (16_image_startup.md R418) and what survives it. -/

namespace Sys2Proof.Machine

/-- Register fields that a device reset leaves: fuses (R371, R390, R391), and what only power loss clears (R418). -/
def keptFields : List Field :=
  [SEC_IMG.SVN, SEC_IMG.REVOKED, SEC_IMG.DBG_REVOKED, SEC_STAT.EVAL, SEC_STAT.ZEROIZED, SYS_BOOT_NEXT.FORCE, SEC_RST_CAUSE.TEMP,
   SEC_RST_CAUSE.VOLT, SEC_RST_CAUSE.PIN, SEC_RST_CAUSE.CMD]

/-- Whether a stored key is one of the first copy of a field. -/
def isField (f : Field) (k : Nat) : Bool := decide (k = regKey f 0)

/-- The NVM bytes after an interrupted ERASE or PROGRAM: the sector or page holds undefined content (R511). -/
def State.cutNvm (s : State) : Store Nat :=
  match s.boot.cmd with
  | [] => s.boot.bytes
  | c :: _ =>
    if c.op = 3 then s.boot.bytes
    else
      let n := if c.op = 1 then 65536 else 4096
      let a := c.slot * 2 ^ 29 + c.addr
      (List.range n).foldl (fun m i => Store.set 255 m (a + i) (Config.nvmByte s.fresh (a + i) % 256)) s.boot.bytes

/-- The device after a reset (R418): every partition, reservation and semaphore discarded, every register at reset but for
those that survive; T2 is not cleared (R389), the repository with its volumes and maps (R125) and the configuration NVM stand. -/
def State.deviceReset (s : State) : State :=
  let bytes := s.cutNvm
  let stands := fun (page : Nat) => decide (pageTier page = 2) || decide (pageTier page = 3)
  let failed := (List.range 256).filter fun c => decide (s.rd REPO_CH.STATE c = 2)
  let r := { State.reset with
    pending := s.pending, out := s.out, fresh := s.fresh + 1
    regs := Store.keep (fun k => keptFields.any (isField · k)) s.regs }
  let r := { r with
    wafer := { r.wafer with latched := s.wafer.latched }
    mem := { r.mem with
      words := s.mem.words.filter fun e => stands (e.1 / 8192)
      hdrs := s.mem.hdrs.filter fun e => stands (e.1 / 4) }
    boot := { r.boot with bytes := bytes }
    repo := { r.repo with
      vols := Store.mapAll vol0 (fun _ v => { v with closing := false }) s.repo.vols
      map := s.repo.map, segs := s.repo.segs, lost := s.repo.lost, segPages := s.repo.segPages, segCount := s.repo.segCount
      failed := failed }
    side := { r.side with maddr := s.side.maddr, levels := s.side.levels } }
  let r := r.each ((List.range 16).filter fun n => decide (Store.get 0 s.side.act n ≠ 0)) fun r n => r.emit (.release n)
  (r.emit (.pin 16 false)).emit (.pin 17 false)

/-- What a power loss clears beside: SYS_BOOT_NEXT and SEC_RST_CAUSE (R418), T2, and regulators that had switched off (R561). -/
def State.powerLoss (s : State) : State :=
  let s := s.deviceReset
  { s with
    regs := Store.keep (fun k => [SEC_IMG.SVN, SEC_IMG.REVOKED, SEC_IMG.DBG_REVOKED, SEC_STAT.EVAL, SEC_STAT.ZEROIZED].any (isField · k)) s.regs
    wafer := { s.wafer with latched := [] }
    mem := { s.mem with
      words := s.mem.words.filter fun e => decide (pageTier (e.1 / 8192) = 3)
      hdrs := s.mem.hdrs.filter fun e => decide (pageTier (e.1 / 4) = 3) } }

/-- Settings that the EVAL fuse forces (R391). -/
def State.forced (s : State) : State :=
  if s.rd SEC_STAT.EVAL 0 = 0 then s
  else
    let s := (((s.wr TJL_CTL.GCM_EN 0 1).wr SEC_CTL.GUARD_DBG 0 0).wr SEC_CTL.PF0_DATA 0 0).wr SEC_CTL.MGMT_WR 0 0
    ((s.wr SEC_TAMP_EN.PIN 0 1).wr SEC_TAMP_EN.VOLT 0 1).wr SEC_TAMP_EN.TEMP 0 1

end Sys2Proof.Machine
end

