-- ==== Sys2Proof/Machine/Seq.lean ====
section
/-! DEFINITION. Sequences of host requests (14_host_ports.md R361, 20_collisions.md R503, R504) and stewardship (R367). -/

namespace Sys2Proof.Machine

/-- Sources of sequences: doorbell slot, HSEM_CLAIM, HPT_STG_SEAL and HPT_STG_FREE, PAR_CMD, REPO_CMD, REPO_LOAD, TJL_PCMD,
SYS_NVM_CMD; CNT_SNAP_CMD and DBG_SO_SET by requester. -/
def bellSrc (pf slot : Nat) : Nat := pf * 64 + slot
def semSrc (x n : Nat) : Nat := 1000 + x * 16 + n
def sealSrc (x p : Nat) : Nat := 2000 + x * 4 + p
def freeSrc (x p : Nat) : Nat := 2010 + x * 4 + p
def parSrc (p : Nat) : Nat := 3000 + p
def repoSrc (p : Nat) : Nat := 3100 + p
def loadSrc (p : Nat) : Nat := 3200 + p
def tjlSrc (p : Nat) : Nat := 3300 + p
def nvmSrc (x : Nat) : Nat := 3400 + x
def cntSrc (k : Nat) : Nat := 3500 + k
def dbgSrc (k : Nat) : Nat := 3520 + k

/-- Whether a sequence lies in the window of the 1,024 up to the last accepted (R361); nothing does before the first. -/
def State.dupSeq (s : State) (src seq : Nat) : Bool :=
  match Store.get 0 s.hosts.last src with
  | 0 => false
  | l + 1 =>
    let d := (seq + 65536 - l) % 65536
    decide (d = 0) || decide (64512 < d)

/-- The last accepted sequence of a source. -/
def State.setSeq (s : State) (src seq : Nat) : State :=
  s.onHosts fun h => { h with last := Store.set 0 h.last src (seq + 1) }

/-- The port and function of a host that may command a partition: PF0 or the partition's own function (R73). -/
def hostOf (r : Req) (p : Nat) : Option (Nat × Nat) :=
  match r with
  | .host x pf => if pf.val = 0 ∨ pf.val = p + 1 then some (x.val, pf.val) else none
  | _ => none

/-- The same, where the function takes memory requests: its port is UP and it is in D0 (R347, R369). -/
def State.hostOn (s : State) (r : Req) (p : Nat) : Option (Nat × Nat) :=
  (hostOf r p).filter fun h => s.portUp h.1 && !(Store.get func0 s.hosts.funcs (funcKey h.1 h.2)).d3

/-- The partition whose scope a requester is confined to; none for the device tag (R381, R532). -/
def reqPart : Req → Option Nat
  | .host _ pf => if pf.val = 0 then none else some (pf.val - 1)
  | _ => none

/-- Whether a requester's write to BAR0 reaches the device: a function of a port that is UP and in D0 (R347, R369), the management
interface while MGMT_WR is 1 (R535). -/
def State.reqOn (s : State) : Req → Bool
  | .host x pf => s.portUp x.val && !(Store.get func0 s.hosts.funcs (funcKey x.val pf.val)).d3
  | .mgmt => decide (s.rd SEC_CTL.MGMT_WR 0 = 1)
  | .jtag => false

/-- Whether a requester's write reaches a register of a partition's window: the device tag, or the partition's function (R83). -/
def State.inWindow (s : State) (r : Req) (p : Nat) : Bool := s.reqOn r && (reqPart r).all fun o => decide (o = p)

/-- Whether a port's host is the steward of a partition (R365). -/
def State.isSteward (s : State) (p x : Nat) : Bool := decide (s.steward p = some x)

end Sys2Proof.Machine
end

