-- ==== Sys2Proof/Machine/PartCmd.lean ====
section
/-! DEFINITION. Partition commands, suspend and resume (03_partitions_admission.md R71-R81), and the recovery that follows an
abort (19_failures.md R479-R483). -/

namespace Sys2Proof.Machine

/-! ### PAR_CMD (R73, R74) -/

/-- PAR_CMD_STAT of a command; `port` is the register's number, 0 for a requester that is no host port. -/
def State.parAnswer (s : State) (p seq port res : Nat) : State :=
  ((s.wr PAR_CMD_STAT.SEQ p seq).wr PAR_CMD_STAT.PORT p port).wr PAR_CMD_STAT.RESULT p res

/-- A partition command from a requester: the holder of the semaphore has it carried out, once (R73, R361). `g` answers the
result at once, or leaves it PENDING (1). -/
def State.parCmd (s : State) (r : Req) (p seq : Nat) (g : State → State × Nat) : State :=
  match r with
  | .host _ _ =>
    match s.hostOn r p with
    | none => s
    | some (x, pf) =>
      if !s.isSteward p x then s.parAnswer p seq (x + 1) 3
      else if s.dupSeq (parSrc p) seq then
        (if s.rd PAR_CMD_STAT.SEQ p = seq then s else s.parAnswer p seq (x + 1) 2)
      else
        let r := g (s.setSeq (parSrc p) seq)
        let s := r.1.parAnswer p seq (x + 1) r.2
        if r.2 = 1 then s.setPart p { s.part p with cmd := x * 5 + pf + 16 * seq + 1 } else s.vector x pf 2
  | _ => if s.reqOn r then s.parAnswer p seq 0 3 else s

/-- RUN (R74, R387). -/
def execRun (r : Req) (p : Part) (seq : BitVec 16) (s : State) : Host.Outcome State Fault Refusal :=
  .next (s.parCmd r p.val seq.toNat fun s =>
    let p := p.val
    if s.pst p = stAdmitted ∧ s.rd PAR_STATE.BUSY p = 0 ∧ (s.part p).next = 0 ∧ ¬s.startBarred p then (s.start p, 0) else (s, 4))

/-- STOP (R74, R79). -/
def execStop (r : Req) (p : Part) (seq : BitVec 16) (s : State) : Host.Outcome State Fault Refusal :=
  .next (s.parCmd r p.val seq.toNat fun s =>
    let p := p.val
    if stAdmitted ≤ s.pst p ∧ s.pst p ≤ stSafe ∧ (s.part p).next ≠ 2 then
      ((s.setPart p { s.part p with cmd := 0 }).stopPart p 0x0B, 0)
    else (s, 4))

/-- RESTART (R74, R80): the abort begins, or while the partition is LOADING waits until it has left it. -/
def execRestart (r : Req) (p : Part) (seq : BitVec 16) (keep : Bool) (s : State) : Host.Outcome State Fault Refusal :=
  .next (s.parCmd r p.val seq.toNat fun s =>
    let p := p.val
    if s.pst p = stOff then (s, 4)
    else if s.pst p = stLoading then (s.setPart p { s.part p with after := if keep then 2 else 1 }, 1)
    else
      let s := (s.freeze p 2).wr PAR_STATE.BUSY p 1
      (s.setPart p { s.part p with keep := keep, save := 0, recover := false }, 1))

/-! ### Suspend and resume (R75-R78) -/

/-- SUSPEND (R75). -/
def execSuspend (r : Req) (p : Part) (seq : BitVec 16) (s : State) : Host.Outcome State Fault Refusal :=
  .next (s.parCmd r p.val seq.toNat fun s =>
    let p := p.val
    if !s.running p then (s, 4)
    else if s.guarded p then (s, 5)
    else if (s.part p).halting ∨ (s.part p).next ≠ 0 then (s, 4)
    else if (s.part p).save ≠ 0 then (s, 1)
    else ((s.setPart p { s.part p with save := 1, began := s.now }).wr PAR_STATE.BUSY p 1, 1))

/-- Whether a thread is live: it has an instruction to issue or waits. -/
def liveThr (t : Thread) : Bool := decide (t.st = .ready) || decide (t.st = .parked) || decide (t.st = .held)

/-- Whether a thread has arrived at its fence. -/
def State.atFence (s : State) (k : Nat) : Bool :=
  match s.parkOf k with
  | some pk => match pk.tgt with
    | .fence _ _ _ => true
    | _ => false
  | none => false

/-- Whether every program of a partition has reached a fence (R75): in each core with a live thread some participant waits at
its fence, and no live participant is elsewhere. -/
def State.drained (s : State) (p : Nat) : Bool :=
  let live := (s.cores.threads.filter fun e => s.owns p (e.1 / 32 / 152) && liveThr e.2).map (·.1)
  (live.all fun k => (s.lanesOf k).isEmpty || s.atFence k) &&
  (live.all fun k => live.any fun j => decide (j / 32 = k / 32) && s.atFence j)

/-- The cores of a partition with a live thread. -/
def State.liveCores (s : State) (p : Nat) : List Nat :=
  ((s.cores.threads.filter fun e => s.owns p (e.1 / 32 / 152) && liveThr e.2).map fun e => e.1 / 32).eraseDups

/-- Every stream halts with its cursor saved, and the save begins (R75 steps 2, 3). -/
def State.beginSave (s : State) (p : Nat) : State :=
  let s := s.each ((s.enginesOf p).filter fun k => !(s.engine k).work.isEmpty && (s.engine k).halt.isNone) fun s k => s.haltEngine k 0x21 0
  (s.each (s.liveCores p) fun s c => s.holdThreads c).setPart p { s.part p with save := 2, frozen := true }

/-- SUSPEND_DRAINED (R75 step 2). -/
def execSuspendDrained (p : Part) (s : State) : Host.Outcome State Fault Refusal :=
  .next (if s.running p.val ∧ (s.part p.val).save = 1 ∧ s.drained p.val then s.beginSave p.val else s)

/-- SUSP_WAIT_TIMEOUT (R75 step 2). -/
def execSuspWaitTimeout (p : Part) (s : State) : Host.Outcome State Fault Refusal :=
  .next (if s.running p.val ∧ (s.part p.val).save = 1 then
      (s.reach ((s.part p.val).began + s.rd PAR_TMO.SUSP_WAIT p.val * 1000000)).beginSave p.val
    else s)

/-- Whether every accepted transfer of a partition has landed (R75 step 3). -/
def State.landed (s : State) (p : Nat) : Bool :=
  (s.enginesOf p).all fun k => (s.engine k).flight.all fun x => decide (x.st = .landed) || decide (x.st = .failed)

/-- CONTEXT_SAVE_DONE (R75 step 5, R78). -/
def execContextSaveDone (p : Part) (ok : Bool) (s : State) : Host.Outcome State Fault Refusal :=
  .next (
    let p := p.val
    if !s.running p || (s.part p).save ≠ 2 then s
    else if !ok then s.stopPart p 9
    else if !s.landed p then s
    else
      let s := s.each (s.enginesOf p) fun s k => if (s.engine k).halt.isSome then s.setEngine k { s.engine k with cursor := s.cursorOf k } else s
      let s := (s.wr PAR_STATE.STATE p stSuspended).wr PAR_STATE.BUSY p 0
      ((s.setPart p { s.part p with save := 0, began := s.now }).toFloor p).finishCmd p 0)

/-- RESUME (R74, R77); after a unit failure it carries out the recovery restart in place of the restore (19_failures.md). -/
def execResume (r : Req) (p : Part) (seq : BitVec 16) (s : State) : Host.Outcome State Fault Refusal :=
  .next (s.parCmd r p.val seq.toNat fun s =>
    let p := p.val
    if s.pst p ≠ stSuspended ∨ (s.part p).next ≠ 0 then (s, 4)
    else if (s.part p).save = 3 then (s, 1)
    else if (s.part p).recover then
      (((s.freeze p 1).wr PAR_STATE.BUSY p 1).wr PAR_RECOV_STAT.PHASE p 1, 1)
    else ((s.setPart p { s.part p with save := 3 }).wr PAR_STATE.BUSY p 1, 1))

/-- The clocks of a partition moved on by the time it was SUSPENDED (R76). -/
def State.shiftClocks (s : State) (p d : Nat) : State :=
  let mine := s.owns p
  let s := s.onLedger fun l => { l with
    fenceAt := l.fenceAt.map fun e => if mine (e.1 / 64) then (e.1, e.2 + d) else e
    scanAt := l.scanAt.map fun e => if mine e.1 then (e.1, e.2 + d) else e
    skip := (s.fieldsOf p).foldl (fun m f => (List.range 64).foldl (fun m i => Store.set false m (f * 64 + i) true) m) l.skip }
  let s := s.onMem fun m => { m with ages := m.ages.map fun e => if e.1 = p then (e.1, e.2 + d) else e }
  let s := s.onReplay fun r => { r with slots := r.slots.map fun e => if mine (e.1 / 4096) then (e.1, { e.2 with since := e.2.since + d }) else e }
  s.each (s.enginesOf p) fun s k => match (s.engine k).halt with
    | some h => s.setEngine k { s.engine k with halt := if h.cause = 0x21 then none else some { h with since := h.since + d } }
    | none => s

/-- Threads that a fence completed during the suspension wake (R75 step 1). -/
def State.wakeFences (s : State) (p : Nat) : State :=
  s.each s.sync.parks fun s pk => match pk.who, pk.tgt with
    | .thread k, .fence p' g l => if p' = p ∧ ¬(s.lane p g l).arrived.contains k then s.finish pk 0 else s
    | _, _ => s

/-- CONTEXT_RESTORE_DONE (R77, R78). -/
def execContextRestoreDone (p : Part) (ok : Bool) (s : State) : Host.Outcome State Fault Refusal :=
  .next (
    let p := p.val
    if s.pst p ≠ stSuspended ∨ (s.part p).save ≠ 3 then s
    else if !ok then s.stopPart p 0x0A
    else
      let d := s.now - (s.part p).began
      let s := (((s.leaseResume p).shiftClocks p d).wr PAR_STATE.STATE p stRunning).wr PAR_STATE.BUSY p 0
      let s := (s.setPart p { s.part p with save := 0, frozen := false }).each (s.liveCores p) fun s c => s.freeThreads c
      ((s.wakeFences p).settle p).finishCmd p 0)

/-! ### Exhaustion (R71) -/

/-- Engines of a partition halted with a cause for a page of a field. -/
def State.shortEngines (s : State) (p f cause : Nat) : List Halt :=
  (s.enginesOf p).filterMap fun k => (s.engine k).halt.bind fun h =>
    let here : Bool := match s.lpage p h.lpage with
      | .range _ f' => decide (f' = f)
      | .spill f' => decide (f' = f)
      | _ => false
    if decide (h.cause = cause) && here then some h else none

/-- A halt for want of a page lasts PAR_TMO.T2_WAIT (R71). -/
def State.exhaust (s : State) (p f cause code : Nat) (ev : Field) : State :=
  if !s.running p then s
  else match s.shortEngines p f cause with
    | [] => s
    | h :: r =>
      let first := (r.map (·.since)).foldl min h.since
      ((s.reach (first + s.rd PAR_TMO.T2_WAIT p * 1000000)).event ev p p).stopPart p code

/-- T2_EXHAUSTED (R71). -/
def execT2Exhausted (p : Part) (f : FieldId) (s : State) : Host.Outcome State Fault Refusal :=
  .next (s.exhaust p.val f.val 0x20 8 PAR_EVT.T2_EXHAUSTED)

/-- T1_EXHAUSTED (R71). -/
def execT1Exhausted (p : Part) (f : FieldId) (s : State) : Host.Outcome State Fault Refusal :=
  .next (s.exhaust p.val f.val 0x23 0x0D PAR_EVT.T1_EXHAUSTED)

/-! ### After the abort (R479-R483, R501) -/

/-- Recovery restarts of a partition begun in the last hour. -/
def State.recentRestarts (s : State) (p : Nat) : List Nat :=
  (s.part p).restarts.filter fun t => decide (s.now < t + 3600000000000)

/-- A recovery that ends in UNIT_FAIL, or in SAFE with cause RECOVERY for a guarded partition (R481, R483). -/
def State.giveUp (s : State) (p : Nat) : State :=
  if s.guarded p ∧ s.running p then
    ((s.setPart p { s.part p with next := 0 }).wr PAR_STATE.BUSY p 0).wr PAR_RECOV_STAT.PHASE p 0 |>.enterSafe p 8 true
  else s.stopPart p 0x0C

/-- A recovery restart begins (R481). -/
def State.recover (s : State) (p : Nat) : State :=
  let l := s.recentRestarts p ++ [s.now]
  let s := s.setPart p { s.part p with restarts := l }
  let s := (s.incSat PAR_RECOV_STAT.COUNT p).wr PAR_RECOV_STAT.HOUR p (min 15 l.length)
  let s := (s.log ⟨0x00, 0x46, 0xFF, 0xFF, 0, [p], 6, s.rd PAR_RECOV_STAT.LAST p⟩).event PAR_RECOV_EVT.ROLLBACK p p
  (s.tally 2 p 0x11 1).enterLoading p true true

/-- The remap (R480) and the decision of R481 or R483; where no placement covers the failures, the cost of R477. -/
def State.decideRecovery (s : State) (p : Nat) : State :=
  let s := (s.wr PAR_RECOV_STAT.PHASE p 2).remapLost p (s.part p).lost
  if s.rd PAR_STATE.MODE p = 0 ∧ s.rd TIER_CKPT.DEPTH p = 0 then s.giveUp p
  else if s.rd PAR_RECOV_CTL.MAX p ≤ (s.recentRestarts p).length then (s.event PAR_RECOV_EVT.RECOV_LIMIT p p).giveUp p
  else if !((s.sect p).any fun c => (s.choose p c).isSome) then s.giveUp p
  else s.recover p

/-- ABORT_COMPLETE (R501): every commit point of the abort has decided; the RESTART ordered, or the recovery, goes on. -/
def execAbortComplete (p : Part) (s : State) : Host.Outcome State Fault Refusal :=
  .next (
    let p := p.val
    if (s.part p).next = 2 then s.enterLoading p (s.part p).keep false
    else if (s.part p).next = 1 then s.decideRecovery p
    else s)

/-- HALT_TIMEOUT (R479 step 2). -/
def execHaltTimeout (p : Part) (s : State) : Host.Outcome State Fault Refusal :=
  .next (if (s.part p.val).halting then
      (s.reach ((s.part p.val).began + s.rd PAR_RECOV_CTL.HALT_MS p.val * 1000000)).freeze p.val 1
    else s)

end Sys2Proof.Machine
end

