-- ==== Sys2Proof/Machine/Repo.lean ====
section
/-! DEFINITION. The repository (05_repository.md): volumes and loading windows, the translation layer, channels and dies. -/

namespace Sys2Proof.Machine

/-! ### Channels and dies (R132-R135) -/

/-- DIE number of a flash die in the fault log (R490). -/
def flashDie (d : Nat) : Nat := 0x50 + d

/-- A change of state of a channel logged (R132). -/
def State.logChan (s : State) (c code cls : Nat) : State :=
  s.log ⟨0x04, code, flashDie (c / 16), 0xC0 + c % 16, 0, (s.flashOwner (c / 16)).toList, cls, s.rd REPO_CH.STATE c⟩

/-- A bit of REPO_EVT of the owner of a channel's die. -/
def State.flashEvent (s : State) (ev : Field) (d : Nat) : State :=
  match s.flashOwner d with
  | some p => s.event ev p p
  | none => s

/-- BADCH and STATE of a die from its channels (R133): a FAILED die stays so. -/
def State.dieState (s : State) (d : Nat) : State :=
  let cs := (List.range 16).map (d * 16 + ·)
  let s := s.wr REPO_DIE.BADCH d ((cs.filter s.chanBad).map fun c => 2 ^ (c % 16)).sum
  if s.rd REPO_DIE.STATE d = 2 ∨ s.rd REPO_DIE.STATE d = 3 then s
  else
    let failed := cs.any fun c => decide (s.rd REPO_CH.STATE c = 2)
    if failed && decide (2 ≤ (cs.filter s.chanBad).length) then
      let s := s.wr REPO_DIE.STATE d 2
      (s.log ⟨0x04, 0x81, flashDie d, 0xFE, 0, (s.flashOwner d).toList, 5, 0⟩).flashEvent REPO_EVT.DIE_FAILED d
    else s.wr REPO_DIE.STATE d (boolNat failed)

/-- A channel becomes SUSPECT or FAILED (R132). -/
def State.chanTo (s : State) (c st : Nat) : State :=
  let s := s.wr REPO_CH.STATE c st
  ((s.logChan c 0x80 4).dieState (c / 16)).flashEvent REPO_EVT.CH_FAILED (c / 16)

/-- A channel returns to OK. -/
def State.chanOk (s : State) (c : Nat) : State := ((s.wr REPO_CH.STATE c 0).logChan c 0x80 4).dieState (c / 16)

/-- What no register shows of a channel. -/
def State.chan (s : State) (c : Nat) : Chan := Store.get chan0 s.repo.chans c
/-- The same, changed. -/
def State.setChan (s : State) (c : Nat) (v : Chan) : State := s.onRepo fun r => { r with chans := Store.set chan0 r.chans c v }

/-- TARGET_BUSY_TIMEOUT (R132): SUSPECT and RESET LUN; FAILED where the target stays silent after it, or on a second SUSPECT
within 1 s. -/
def execTargetBusyTimeout (c : Fin 256) (s : State) : Host.Outcome State Fault Refusal :=
  .next (
    let c := c.val
    let x := s.chan c
    if s.rd REPO_CH.STATE c = 1 ∧ x.reset then (s.setChan c { x with reset := false }).chanTo c 2
    else if s.rd REPO_CH.STATE c ≠ 0 then s
    else if x.suspect ≠ 0 ∧ s.now < x.suspect - 1 + 1000000000 then s.chanTo c 2
    else (s.setChan c { x with suspect := s.now + 1, reset := true }).chanTo c 1)

/-- TARGET_READY (R132): the target answered within BUSY of RESET LUN. -/
def execTargetReady (c : Fin 256) (s : State) : Host.Outcome State Fault Refusal :=
  .next (if s.rd REPO_CH.STATE c.val = 1 ∧ (s.chan c.val).reset then
      (s.setChan c.val { s.chan c.val with reset := false }).chanOk c.val
    else s)

/-- CHANNEL_REBUILD_DONE (R134): the channel serves again, and the volumes of its share have their redundancy back (R135). -/
def execChannelRebuildDone (c : Fin 256) (s : State) : Host.Outcome State Fault Refusal :=
  .next (if s.rd REPO_CH.STATE c.val ≠ 3 then s
    else
      let s := s.chanOk c.val
      match s.flashOwner (c.val / 16) with
      | none => s
      | some p =>
        if (s.shareDies p).any fun d => decide (s.rd REPO_DIE.BADCH d ≠ 0) then s
        else s.onRepo fun r => { r with vols := Store.mapAll vol0 (fun k v => if k / 256 = p then { v with thin := false } else v) r.vols })

/-! ### Segments (R117, R121-R123) -/

/-- Pages of a segment of a channel's die. -/
def State.segSize (s : State) (c : Nat) : Nat := max 1 (Store.get 0 s.repo.segPages (c / 16))
/-- A physical segment of a channel. -/
def State.seg (s : State) (c i : Nat) : Seg := Store.get seg0 s.repo.segs (c * 131072 + i)
/-- A physical segment changed. -/
def State.setSeg (s : State) (c i : Nat) (v : Seg) : State := s.onRepo fun r => { r with segs := Store.set seg0 r.segs (c * 131072 + i) v }
/-- The physical segment of a logical one. -/
def State.segOf (s : State) (c l : Nat) : Option Nat :=
  match Store.get 0 s.repo.map (c * 131072 + l) with
  | 0 => none
  | n + 1 => some n
/-- The segment map changed in one entry. -/
def State.setMap (s : State) (c l : Nat) (v : Option Nat) : State :=
  s.onRepo fun r => { r with map := Store.set 0 r.map (c * 131072 + l) (match v with | some n => n + 1 | none => 0) }

/-- The erased segment that is allocated next: the least worn (R123). -/
def State.freeSeg (s : State) (c : Nat) : Option Nat :=
  let mine := s.repo.segs.filter fun e => decide (e.1 / 131072 = c)
  match (List.range (min (mine.length + 1) (Store.get 0 s.repo.segCount (c / 16)))).find? fun i => !(mine.any fun e => decide (e.1 % 131072 = i)) with
  | some i => some i
  | none => (sortBy (fun a b => decide (a.2.erases ≤ b.2.erases)) (mine.filter fun e => decide (e.2.st = 0))).head?.map fun e => e.1 % 131072

/-- A logical segment queued for relocation (R122). -/
def State.queueSeg (s : State) (c l : Nat) : State :=
  if s.repo.queue.contains (c, l) then s else s.onRepo fun r => { r with queue := r.queue ++ [(c, l)] }

/-- A tile that cannot be reconstructed (R133). -/
def State.flashGone (s : State) (p i t : Nat) : State :=
  let s := s.onRepo fun r => { r with lost := Store.set false r.lost (tileKey (pageKey 3 p i) t) true }
  let s := (s.wr REPO_FLT.PAGE p i).wr REPO_FLT.TILE p t
  (s.log ⟨0x04, 0x85, 0xFF, 0xFF, 0, [p], 2, i * 4 + t⟩).event REPO_EVT.LOST p p

/-- A read of one chunk: disturb, correction margin and uncorrectable chunks counted (R120, R122, R132). -/
def State.readChunk (s : State) (c l bits : Nat) (fail : Bool) : State :=
  match s.segOf c l with
  | none => s
  | some i =>
    let g := s.seg c i
    let s := s.setSeg c i { g with reads := g.reads + 1 }
    let s := if s.rd REPO_RD.DISTURB 0 * 1000 ≤ g.reads + 1 ∨ s.rd REPO_RD.ECC_MARK 0 ≤ bits ∨ fail = true then s.queueSeg c l else s
    if !fail then s
    else
      let s := s.incSat REPO_CH.UNCORR c
      let bad := ((s.chan c).bad.filter fun t => decide (s.now < t + 1000000000)) ++ [s.now]
      let s := s.setChan c { s.chan c with bad := bad }
      if 16 ≤ bad.length ∧ s.rd REPO_CH.STATE c ≤ 1 then s.chanTo c 2 else s

/-- FLASH_READ (R118, R120): the read of one chunk of a tile, corrected or uncorrectable; on a channel that is not OK the tile
comes from the other chunks of its stripe. -/
def execFlashRead (p : Part) (page : BitVec 33) (t : Fin 4) (bits : BitVec 8) (fail : Bool) (s : State) : Host.Outcome State Fault Refusal :=
  .next (
    let i := page.toNat
    match s.volOf p.val i with
    | none => s
    | some (_, v) =>
      if v.st ≠ 2 ∧ v.st ≠ 3 then s
      else
        let x := s.flashPlace p.val i t.val
        let c := x.1
        let l := x.2 / s.segSize c
        let rebuild := s.chanBad c || fail
        let s := if s.chanBad c then s else s.readChunk c l bits.toNat fail
        if !rebuild then s
        else if s.noRebuild c then s.flashGone p.val i t.val
        else s.each (((List.range 16).map (c / 16 * 16 + ·)).filter (· ≠ c)) fun s c' => s.readChunk c' l 0 false)

/-- PATROL_READ (R122). -/
def execPatrolRead (c : Fin 256) (l : BitVec 17) (bits : BitVec 8) (fail : Bool) (s : State) : Host.Outcome State Fault Refusal :=
  .next (if s.rd REPO_CTL.PATROL_EN 0 = 1 ∧ ¬s.chanBad c.val then s.readChunk c.val l.toNat bits.toNat fail else s)

/-- RELOCATION_COMMIT (R121): the map switches to an erased segment of the same channel; abandoned on a failed channel. -/
def execRelocationCommit (c : Fin 256) (l : BitVec 17) (s : State) : Host.Outcome State Fault Refusal :=
  .next (
    let c := c.val
    let l := l.toNat
    if !s.repo.queue.contains (c, l) then s
    else
      let s := s.onRepo fun r => { r with queue := r.queue.erase (c, l) }
      if s.rd REPO_CH.STATE c = 2 then s
      else match s.segOf c l, s.freeSeg c with
        | some i, some j =>
          let s := s.setSeg c j { s.seg c j with st := 1, reads := 0 }
          (s.setSeg c i { s.seg c i with st := 2 }).setMap c l (some j)
        | _, _ => s)

/-- Wear levelling (R123): the programmed segment with the fewest erases is relocated where the spread is too large. -/
def State.level (s : State) (c : Nat) : State :=
  let prog := ((List.range 131072).filterMap fun l => (s.segOf c l).map fun i => (l, (s.seg c i).erases))
  match sortBy (fun a b => decide (a.2 ≤ b.2)) prog with
  | [] => s
  | x :: r =>
    let most := (r.map (·.2)).foldl max x.2
    if s.rd REPO_WL.SPREAD 0 < most - x.2 then s.queueSeg c x.1 else s

/-- SEGMENT_ERASE (R121, R123): a segment left by a relocation or a freed volume is erased, or retired. -/
def execSegmentErase (c : Fin 256) (i : BitVec 17) (ok : Bool) (s : State) : Host.Outcome State Fault Refusal :=
  .next (
    let c := c.val
    let g := s.seg c i.toNat
    if g.st ≠ 2 then s
    else
      let e := g.erases + 1
      let s := s.setSeg c i.toNat ⟨if !ok || decide (s.rd REPO_WL.PE_LIMIT 0 ≤ e) then 3 else 0, e, 0⟩
      s.level c)

/-! ### Slots of volumes -/

/-- Logical segments of a channel that a range of T3 pages of a share of `d` dies reaches (R118, R126). -/
def segRange (d sz base len : Nat) : List Nat :=
  let lo := base / (15 * max 1 d) * 4 / sz
  let hi := ((base + len + 15 * max 1 d - 1) / (15 * max 1 d) * 4 + sz - 1) / sz
  (List.range (hi - lo)).map (lo + ·)

/-- The channels of a share. -/
def State.shareChans (s : State) (p : Nat) : List Nat := (s.shareDies p).flatMap fun d => (List.range 16).map (d * 16 + ·)

/-- The segments of a range programmed where they are not yet: an erased segment for each, on channels that have not failed;
whether some chunk could not be programmed (R135). -/
def State.programRange (s : State) (p base len : Nat) : State × Bool :=
  let d := (s.shareDies p).length
  (s.shareChans p).foldl (fun a c =>
    if a.1.rd REPO_CH.STATE c = 2 then (a.1, true)
    else ((segRange d (a.1.segSize c) base len).foldl (fun s l =>
      if (s.segOf c l).isSome then s
      else match s.freeSeg c with
        | some i => (s.setSeg c i { s.seg c i with st := 1, reads := 0 }).setMap c l (some i)
        | none => s) a.1, a.2)) (s, false)

/-- The segments that no volume of a share uses any more are left for erase (R125). -/
def State.leaveSegs (s : State) (p base len : Nat) : State :=
  let d := (s.shareDies p).length
  let kept := s.repo.vols.filter fun e => decide (e.1 / 256 = p) && decide (e.2.st ≠ 0)
  s.each (s.shareChans p) fun s c =>
    s.each ((segRange d (s.segSize c) base len).filter fun l => !(kept.any fun e => (segRange d (s.segSize c) e.2.base e.2.len).contains l)) fun s l =>
      match s.segOf c l with
      | some i => ((s.setSeg c i { s.seg c i with st := 2 }).setMap c l none).onRepo fun r => { r with queue := r.queue.erase (c, l) }
      | none => s

/-! ### Commands (R125-R131) -/

/-- REPO_CMD_STAT of a command. -/
def State.repoAnswer (s : State) (p seq res : Nat) : State := (s.wr REPO_CMD_STAT.SEQ p seq).wr REPO_CMD_STAT.RESULT p res

/-- A repository command from a requester: for the holder of the semaphore, once (R131, R504). -/
def State.repoCmd (s : State) (r : Req) (p seq : Nat) (g : State → State × Nat) : State :=
  match r with
  | .host _ _ =>
    match s.hostOn r p with
    | none => s
    | some (x, pf) =>
      if !s.isSteward p x then s.repoAnswer p seq 3
      else if s.dupSeq (repoSrc p) seq then (if s.rd REPO_CMD_STAT.SEQ p = seq then s else s.repoAnswer p seq 2)
      else
        let r := g (s.setSeq (repoSrc p) seq)
        let s := r.1.repoAnswer p seq r.2
        if r.2 = 1 then s.onRepo fun y => { y with cmd := Store.set 0 y.cmd p (x * 5 + pf + 16 * seq + 1) } else s.vector x pf 2
  | _ => if s.reqOn r then s.repoAnswer p seq 3 else s

/-- OPEN (R126): base and length stand in REPO_OPEN. -/
def execOpenVolume (r : Req) (p : Part) (v : Fin 256) (seq : BitVec 16) (s : State) : Host.Outcome State Fault Refusal :=
  .next (s.repoCmd r p.val seq.toNat fun s =>
    let p := p.val
    let dies := s.shareDies p
    let base := s.rd REPO_OPEN.BASE p
    let len := s.rd REPO_OPEN.LEN p
    let mine := s.repo.vols.filter fun e => decide (e.1 / 256 = p) && decide (e.2.st ≠ 0)
    if (s.vol p v.val).st ≠ 0 ∨ mine.any (fun e => decide (e.2.st = 1)) then (s, 4)
    else if dies.length * 335544320 < base + len then (s, 6)
    else if len = 0 ∨ base % (15 * dies.length) ≠ 0 ∨ len % (15 * dies.length) ≠ 0 ∨
        mine.any (fun e => decide (base < e.2.base + e.2.len) && decide (e.2.base < base + len)) then (s, 5)
    else (s.setVol p v.val ⟨1, base, len, 0, false, (dies.map (2 ^ ·)).sum, false⟩, 0))

/-- CLOSE (R125, R128): PENDING until the record commits. -/
def execCloseVolume (r : Req) (p : Part) (v : Fin 256) (seq : BitVec 16) (s : State) : Host.Outcome State Fault Refusal :=
  .next (s.repoCmd r p.val seq.toNat fun s =>
    let x := s.vol p.val v.val
    if x.st ≠ 1 ∨ x.closing then (s, 4) else (s.setVol p.val v.val { x with closing := true }, 1))

/-- The home field of a T3 page, from the directory range that places it (R586). -/
def State.homeField (s : State) (p i : Nat) : Nat :=
  (((s.pagedir p).ranges.find? fun r => decide (r.tier = 3) && decide (r.pbase ≤ i) && decide (i < r.pbase + r.pages)).map (·.field)).getD 0

/-- A VOID tile of a T3 page (R128, R93). -/
def State.voidTile (s : State) (p i t : Nat) : State :=
  let k := tileKey (pageKey 3 p i) t
  let s := s.onMem fun m => { m with words := (List.range 2048).foldl (fun w j =>
    Store.set word0 w (tileWord k j) ⟨Config.voidWord k j, false, false⟩) m.words }
  s.setHdr k (hdrWord { voidHdr p (s.homeField p i) with flags := 3 } (crc32c (payloadBytes (s.payload k))))

/-- VOLUME_SEALED (R128): pages never loaded are VOID, parity is programmed, the record commits, the CLOSE is answered. -/
def execVolumeSealed (p : Part) (v : Fin 256) (s : State) : Host.Outcome State Fault Refusal :=
  .next (
    let p := p.val
    let x := s.vol p v.val
    if x.st ≠ 1 ∨ ¬x.closing ∨ s.repo.runs.any (fun r => decide (r.part = p)) then s
    else
      let s := s.each ((List.range (x.len - x.loaded)).map (x.base + x.loaded + ·)) fun s i => s.each [0, 1, 2, 3] fun s t => s.voidTile p i t
      let r := s.programRange p x.base x.len
      let s := r.1.setVol p v.val { x with st := 2, closing := false, thin := x.thin || r.2 }
      let s := s.log ⟨0x04, Config.closeCode % 256, 0xFF, 0xFF, 0, [p], 4, x.len⟩
      match Store.get 0 s.repo.cmd p with
      | 0 => s
      | n + 1 => ((s.onRepo fun y => { y with cmd := Store.set 0 y.cmd p 0 }).repoAnswer p (n / 16) 0).vector (n % 16 / 5) (n % 16 % 5) 2)

/-- ABANDON (R125): the loading window ends FREE. -/
def execAbandonVolume (r : Req) (p : Part) (v : Fin 256) (seq : BitVec 16) (s : State) : Host.Outcome State Fault Refusal :=
  .next (s.repoCmd r p.val seq.toNat fun s =>
    let x := s.vol p.val v.val
    if x.st ≠ 1 then (s, 4)
    else ((((s.endLoads p.val).setVol p.val v.val vol0).leaveSegs p.val x.base x.len).onRepo fun y => { y with cmd := Store.set 0 y.cmd p.val 0 }, 0))

/-- FREE of a SEALED volume (R125, R129): FREEING, the mirrors of its pages dropped. -/
def execVolumeFree (r : Req) (p : Part) (v : Fin 256) (seq : BitVec 16) (s : State) : Host.Outcome State Fault Refusal :=
  .next (s.repoCmd r p.val seq.toNat fun s =>
    let p := p.val
    let x := s.vol p v.val
    if x.st ≠ 2 then (s, 4)
    else
      let s := s.each (s.dirPages p) fun s l =>
        match s.current p l with
        | some k => if pageTier k = 3 ∧ x.base ≤ pageIdx k ∧ pageIdx k < x.base + x.len then (s.dropCopy p l).dropMirror p l else s
        | none => s
      (s.setVol p v.val { x with st := 3 }, 0))

/-- Whether a tile in flight reads a T3 page of a range. -/
def State.readingT3 (s : State) (p base len : Nat) : Bool :=
  s.cores.engines.any fun e => e.2.flight.any fun x => x.rpage.any fun k =>
    decide (pageTier k = 3) && decide (pageField k = p) && decide (base ≤ pageIdx k) && decide (pageIdx k < base + len)

/-- VOLUME_FREEING_DONE (R125): the reads in flight have completed. -/
def execVolumeFreeingDone (p : Part) (v : Fin 256) (s : State) : Host.Outcome State Fault Refusal :=
  .next (
    let x := s.vol p.val v.val
    if x.st ≠ 3 ∨ s.readingT3 p.val x.base x.len then s else (s.setVol p.val v.val vol0).leaveSegs p.val x.base x.len)

/-- FREE_UNBOUND (R125). -/
def execFreeUnbound (r : Req) (p : Part) (v : Fin 256) (seq : BitVec 16) (s : State) : Host.Outcome State Fault Refusal :=
  .next (s.repoCmd r p.val seq.toNat fun s =>
    let x := s.vol p.val v.val
    if x.st ≠ 4 then (s, 4) else ((s.setVol p.val v.val vol0).leaveSegs p.val x.base x.len, 0))

/-! ### Loading (R127) -/

/-- REPO_LOAD_STAT of a run. -/
def State.loadAnswer (s : State) (p seq res : Nat) : State := (s.wr REPO_LOAD_STAT.SEQ p seq).wr REPO_LOAD_STAT.RESULT p res

/-- The volume of a share that is LOADING. -/
def State.loading (s : State) (p : Nat) : Option (Nat × Vol) :=
  (s.repo.vols.find? fun e => decide (e.1 / 256 = p) && decide (e.2.st = 1)).map fun e => (e.1 % 256, e.2)

/-- REPO_LOAD (R127, R131). A COUNT of 0 is a reserved encoding (R23). -/
def execRepoLoad (r : Req) (p : Part) (src : BitVec 40) (count : BitVec 24) (seq : BitVec 16) (s : State) : Host.Outcome State Fault Refusal :=
  .next (
    let p := p.val
    let q := seq.toNat
    if !s.inWindow r p then s
    else if count.toNat = 0 then s.logAccess 3 (reqPart r).toList (0x400000 + 0x1050 + p * 0x100)
    else match r with
    | .host _ _ =>
      match s.hostOn r p with
      | none => s
      | some (x, pf) =>
        if !s.isSteward p x then (s.loadAnswer p q 3).logAccess 5 [p] (0x400000 + 0x1050 + p * 0x100)
        else if s.dupSeq (loadSrc p) q then (if s.rd REPO_LOAD_STAT.SEQ p = q then s else s.loadAnswer p q 2)
        else
          let s := s.setSeq (loadSrc p) q
          match s.loading p with
          | none => (s.loadAnswer p q 4).vector x pf 2
          | some (_, v) =>
            let due := ((s.repo.runs.filter fun y => decide (y.part = p)).map (·.count)).sum
            if (s.pst p ≠ stAdmitted ∧ s.pst p ≠ stRunning) ∨ v.closing then (s.loadAnswer p q 4).vector x pf 2
            else if v.len < v.loaded + due + count.toNat then (s.loadAnswer p q 5).vector x pf 2
            else (s.onRepo fun y => { y with runs := y.runs ++ [⟨p, src.toNat, count.toNat, q, x, pf⟩] }).loadAnswer p q 1
    | _ => (s.loadAnswer p q 3).logAccess 5 [p] (0x400000 + 0x1050 + p * 0x100))

/-- Whether a source page may be loaded: a SEALED T2 page whose tiles pass the check (R127, R100). -/
def State.loadable (s : State) (p l : Nat) : Option Nat :=
  (s.current p l).bind fun k =>
    if pageTier k = 2 ∧ (s.page k).st = .sealed ∧ ([0, 1, 2, 3].all fun t =>
        !s.poisoned (tileKey k t) && decide (tileCheck (s.hdr (tileKey k t)) (s.payload (tileKey k t)) false = 0)) then some k else none

/-- Source pages loaded one by one until the run ends or a source faults: the state and whether all were. -/
def loadPages (p v : Nat) : Nat → Nat → State → State × Bool
  | 0, _, s => (s, true)
  | n + 1, l, s =>
    match s.loadable p l with
    | none => (s, false)
    | some k =>
      let x := s.vol p v
      let d := pageKey 3 p (x.base + x.loaded)
      let s := s.each [0, 1, 2, 3] fun s t =>
        (s.setPayload (tileKey d t) (s.payload (tileKey k t)) false).setHdr (tileKey d t) (s.hdr (tileKey k t))
      loadPages p v n (l + 1) (s.setVol p v { x with loaded := x.loaded + 1 })

/-- LOAD_DONE (R127, R135): the oldest run of a share is programmed, or ends at a source fault. -/
def execLoadDone (p : Part) (s : State) : Host.Outcome State Fault Refusal :=
  .next (
    let p := p.val
    match s.repo.runs.find? (fun y => decide (y.part = p)), s.loading p with
    | some y, some (v, x) =>
      let s := s.onRepo fun r => { r with runs := r.runs.erase y }
      let a := loadPages p v y.count y.src s
      let g := a.1.programRange p (x.base + x.loaded) ((a.1.vol p v).loaded - x.loaded)
      let s := g.1.setVol p v { a.1.vol p v with thin := (a.1.vol p v).thin || g.2 }
      let newest := decide (s.rd REPO_LOAD_STAT.SEQ p = y.seq)
      let s := if newest then s.wr REPO_LOAD_STAT.RESULT p (if a.2 then 0 else 7) else s
      let s := if a.2 then s.event REPO_EVT.LOAD_DONE p p
        else (s.log ⟨0x04, 0x83, 0xFF, 0xFF, 0, [p], 2, y.src⟩).event REPO_EVT.LOAD_FAULT p p
      s.vector y.port y.pf 2
    | _, _ => s)

end Sys2Proof.Machine
end

