-- ==== Sys2Proof/Machine/Hosts.lean ====
section
/-! DEFINITION. Host ports (14_host_ports.md): readiness, configuration requests, the staging window, doorbells, the host
semaphore, and the failure of a port. -/

namespace Sys2Proof.Machine

/-! ### Ports and functions -/

/-- A function's configuration. -/
def State.func (s : State) (x pf : Nat) : Func := Store.get func0 s.hosts.funcs (funcKey x pf)
/-- A function's configuration changed. -/
def State.setFunc (s : State) (x pf : Nat) (v : Func) : State :=
  s.onHosts fun h => { h with funcs := Store.set func0 h.funcs (funcKey x pf) v }

/-- Whether a function takes memory requests: its port is UP and it is in D0 (R347). -/
def State.fnOn (s : State) (x pf : Nat) : Bool := s.portUp x && !(s.func x pf).d3

/-- Vectors of a function whose pending bit is set sent where nothing holds them back any more (R364). -/
def State.flushMsix (s : State) (x pf : Nat) : State :=
  s.each (List.range 64) fun s v =>
    let k := funcKey x pf * 64 + v
    let e := Store.get msix0 s.hosts.msix k
    if e.pend then (s.onHosts fun h => { h with msix := Store.set msix0 h.msix k { e with pend := false } }).vector x pf v else s

/-- Vector 1 of a semaphore's functions on a port (R362). -/
def State.semVector (s : State) (x n : Nat) : State :=
  let s := if n < 4 then s.vector x (n + 1) 1 else s
  s.vector x 0 1

/-! ### The host semaphore (R365, R366, R368) -/

/-- A host semaphore. -/
def State.sem (s : State) (n : Nat) : Hsem := Store.get hsem0 s.hosts.sems n
/-- A host semaphore changed. -/
def State.setSem (s : State) (n : Nat) (v : Hsem) : State := s.onHosts fun h => { h with sems := Store.set hsem0 h.sems n v }
/-- A semaphore's holder changes: GEN rises, and a lease starts. -/
def State.grantSem (s : State) (n holder : Nat) : State :=
  s.setSem n ⟨holder, ((s.sem n).gen + 1) % 65536, if holder = 0 then 0 else s.now, false⟩

/-- Lease of a semaphore in ticks (R366). -/
def State.leaseOf (s : State) (n : Nat) : Nat :=
  (if n < 4 then s.rd HPT_LEASE.MS n else s.rd HPT_CFG.ADV_LEASE_MS 0) * 1000000

/-- Ticks of a lease that have gone: a steward lease pauses while its partition is SUSPENDED. -/
def State.leaseGone (s : State) (n : Nat) : Nat :=
  (if n < 4 ∧ s.pst n = stSuspended then (s.part n).began else s.now) - (s.sem n).start

/-- The initial steward granted its semaphore, once its port is UP (R368). -/
def State.initSteward (s : State) (p : Nat) : State :=
  match (s.sect p).map (·.steward) with
  | some (x + 1) => if (s.sem p).gen = 0 ∧ (s.sem p).holder = 0 ∧ s.portUp x then s.grantSem p (x + 1) else s
  | _ => s

/-- The record of a port's requests to a semaphore. -/
def State.setSemReq (s : State) (x n : Nat) (v : HsemReq) : State :=
  s.onHosts fun h => { h with semReq := Store.set hsemReq0 h.semReq (x * 16 + n) v }

/-- A request to a semaphore (R361, R365): by a function that sees it, once. -/
def State.semRequest (s : State) (r : Req) (n seq : Nat) (g : Nat → State → State × Nat) : State :=
  match r with
  | .host x pf =>
    let x := x.val
    if !s.fnOn x pf.val || (decide (pf.val ≠ 0) && decide (pf.val ≠ n + 1)) then s
    else
      let old := Store.get hsemReq0 s.hosts.semReq (x * 16 + n)
      if s.dupSeq (semSrc x n) seq then
        s.setSemReq x n (if old.seq = seq then { old with dup := true } else ⟨seq, false, 7⟩)
      else
        let a := g x (s.setSeq (semSrc x n) seq)
        a.1.setSemReq x n ⟨seq, false, a.2⟩
  | _ => s

/-- CLAIM (R365). -/
def execClaim (r : Req) (n : Fin 16) (seq : BitVec 16) (s : State) : Host.Outcome State Fault Refusal :=
  .next (s.semRequest r n.val seq.toNat fun x s =>
    let v := s.sem n.val
    if v.holder = 0 then (s.grantSem n.val (x + 1), 0)
    else if v.holder = x + 1 then (s.setSem n.val { v with start := s.now, low := false }, 0)
    else (s, 1))

/-- RELEASE (R365). -/
def execRelease (r : Req) (n : Fin 16) (seq : BitVec 16) (s : State) : Host.Outcome State Fault Refusal :=
  .next (s.semRequest r n.val seq.toNat fun x s => if (s.sem n.val).holder = x + 1 then (s.grantSem n.val 0, 0) else (s, 3))

/-- HANDOVER (R365). -/
def execHandover (r : Req) (n : Fin 16) (seq : BitVec 16) (s : State) : Host.Outcome State Fault Refusal :=
  .next (s.semRequest r n.val seq.toNat fun x s =>
    if (s.sem n.val).holder ≠ x + 1 then (s, 3)
    else if s.portUp (1 - x) then (s.grantSem n.val (2 - x), 0)
    else (s, 5))

/-- LEASE_LOW (R366): a quarter of the lease is left. -/
def execLeaseLow (n : Fin 16) (s : State) : Host.Outcome State Fault Refusal :=
  .next (
    let n := n.val
    let v := s.sem n
    if v.holder = 0 ∨ v.low ∨ (n < 4 ∧ s.pst n = stSuspended) then s
    else
      let s := (s.reach (v.start + s.leaseOf n * 3 / 4)).setSem n { v with low := true }
      let s := if n < 4 then s.wr HPT_PEVT.LEASE_LOW n 1 else s
      s.each [0, 1] fun s x => s.semVector x n)

/-- LEASE_EXPIRED (R366): the semaphore is FREE. -/
def execLeaseExpired (n : Fin 16) (s : State) : Host.Outcome State Fault Refusal :=
  .next (
    let n := n.val
    let v := s.sem n
    if v.holder = 0 ∨ (n < 4 ∧ s.pst n = stSuspended) then s
    else
      let s := (s.reach (v.start + s.leaseOf n)).grantSem n 0
      let s := if n < 4 then s.wr HPT_PEVT.LEASE_EXPIRED n 1 else s
      s.each [0, 1] fun s x => s.semVector x n)

/-! ### Failure and return of a port (R352, R369) -/

/-- DIE number of a host die. -/
def hostDie (x : Nat) : Nat := 0x40 + x

/-- A semaphore of a failed port passes to the other port, or is FREE (R369 step 3, step 4). -/
def State.moveSem (s : State) (x n : Nat) : State :=
  if (s.sem n).holder ≠ x + 1 then s
  else if s.portUp (1 - x) then
    let s := s.grantSem n (2 - x)
    if n < 4 then (s.wr HPT_PEVT.STEWARD_MOVED n 1).semVector (1 - x) n else s
  else s.grantSem n 0

/-- A port becomes FAILED (R369). -/
def State.portFail (s : State) (x : Nat) : State :=
  if s.rd HPT_PORT.STATE x = 3 then s
  else
    let s := (s.wr HPT_PORT.STATE x 3).onHosts fun h => { h with down := Store.set 0 h.down x 0, ready := Store.set false h.ready x false }
    let s := s.each (s.mem.pages.filter fun e => decide (e.2.writer = .port x) && decide (e.2.st = .opened)) fun s e => s.invalidate e.1
    let s := s.log ⟨0x01, 0x80 + x, hostDie x, 0xFE, 0, [], 5, 0⟩
    let s := s.each (List.range 16) fun s n => s.moveSem x n
    (s.wr (if x = 0 then HPT_EVT.HPA_FAILED else HPT_EVT.HPB_FAILED) 0 1).tellDevice

/-- The level of PERST_A_N or PERST_B_N. -/
def State.perstPin (s : State) (x v : Nat) : State := if x = 0 then s.wr SBM_DPIN.PERST_A_N 0 v else s.wr SBM_DPIN.PERST_B_N 0 v

/-- PERST_ASSERT (R369). -/
def execPerstAssert (x : Port) (s : State) : Host.Outcome State Fault Refusal := .next ((s.perstPin x.val 0 |>.wr HPT_PORT.PERST x.val 1).portFail x.val)

/-- PERST_DEASSERT (R352): the link trains. -/
def execPerstDeassert (x : Port) (s : State) : Host.Outcome State Fault Refusal :=
  .next (let s := s.perstPin x.val 1
    if s.rd HPT_PORT.PERST x.val = 1 ∨ s.rd HPT_PORT.STATE x.val = 0 then
      let s := s.wr HPT_PORT.PERST x.val 0
      if s.rd HPT_PORT.STATE x.val = 3 then s else s.wr HPT_PORT.STATE x.val 1
    else s)

/-- HOT_RESET: a hot reset or link disable is received (R369). -/
def execHotReset (x : Port) (s : State) : Host.Outcome State Fault Refusal :=
  .next (if s.rd HPT_PORT.PERST x.val = 1 then s else s.portFail x.val)

/-- DL_DOWN (R369): the link is down; no failure yet. -/
def execDlDown (x : Port) (s : State) : Host.Outcome State Fault Refusal :=
  .next (if s.portUp x.val then
      (s.wr HPT_PORT.STATE x.val 0).onHosts fun h => { h with down := Store.set 0 h.down x.val (s.now + 1) }
    else s)

/-- DL_UP (R369): a link that recovers within DOWN_MS; nothing moves. -/
def execDlUp (x : Port) (s : State) : Host.Outcome State Fault Refusal :=
  .next (if Store.get 0 s.hosts.down x.val ≠ 0 then
      (s.wr HPT_PORT.STATE x.val 2).onHosts fun h => { h with down := Store.set 0 h.down x.val 0 }
    else s)

/-- PORT_FAILED (R369): the link has been in DL_Down for HPT_CFG.DOWN_MS. -/
def execPortFailed (x : Port) (s : State) : Host.Outcome State Fault Refusal :=
  .next (match Store.get 0 s.hosts.down x.val with
    | 0 => s
    | t + 1 => (s.reach (t + s.rd HPT_CFG.DOWN_MS 0 * 1000000)).portFail x.val)

/-- PORT_UP (R352, R369): the link has trained; functions of a port that had failed are reset. FLIT mode is used at 64 GT/s. -/
def execPortUp (x : Port) (rate : Fin 3) (width : Fin 17) (flit : Bool) (s : State) : Host.Outcome State Fault Refusal :=
  .next (
    let x := x.val
    let st := s.rd HPT_PORT.STATE x
    if s.edgeDead x ∨ s.rd HPT_PORT.PERST x = 1 ∨ (st ≠ 1 ∧ st ≠ 3) ∨ !([1, 2, 4, 8, 16].contains width.val) then s
    else
      let s := (((s.wr HPT_PORT.STATE x 2).wr HPT_PORT.RATE x (rate.val + 4)).wr HPT_PORT.WIDTH x width.val).wr HPT_PORT.FLIT x
        (boolNat (flit || decide (rate.val = 2)))
      let s := s.onHosts fun h => { h with
        msix := Store.keep (fun k => decide (k / 64 / 5 ≠ x)) h.msix
        funcs := Store.keep (fun k => decide (k / 5 ≠ x)) h.funcs
        inh0 := Store.keep (fun k => decide (k / 5 ≠ x)) h.inh0
        inh3 := Store.keep (fun k => decide (k / 5 ≠ x)) h.inh3 }
      let s := s.each [0, 1, 2, 3] fun s p => s.initSteward p
      if st = 3 then (s.wr (if x = 0 then HPT_EVT.HPA_UP else HPT_EVT.HPB_UP) 0 1).tellDevice else s)

/-- HOST_READY (R352): the five functions of a port answer normally. -/
def execHostReady (x : Port) (s : State) : Host.Outcome State Fault Refusal :=
  .next (if s.portUp x.val then s.onHosts fun h => { h with ready := Store.set false h.ready x.val true } else s)

/-! ### Configuration requests (R347, R350-R352) -/

/-- What a configuration read returns. -/
def State.cfgRead (s : State) (x pf : Nat) (q : CfgReq) : Nat :=
  let f := s.func x pf
  match q with
  | .ids => (0x4600 + pf) * 2 ^ 16 + 0x1F3C
  | .cls => 0x120000 * 2 ^ 8 + 0xB0
  | .subsys => (s.parts.dev.map (·.subsys)).getD 0
  | .serial high => if high then Config.serial / 2 ^ 32 % 2 ^ 32 else Config.serial % 2 ^ 32
  | .bar n _ => if n.val = 0 then f.bar0 else if n.val = 1 then f.bar2 else f.bar4
  | .msix _ => boolNat f.msixEn * 2 + boolNat f.maskAll
  | .power _ => if f.d3 then 3 else 0
  | .other off _ => Config.cfgSpace (funcKey x pf) off.val % 2 ^ 32

/-- The size of a BAR in bytes (R350). -/
def barSize (n : Nat) : Nat := if n = 0 then 2 ^ 26 else if n = 1 then 2 ^ 18 else 2 ^ 36

/-- What a configuration write changes. -/
def State.cfgWrite (s : State) (x pf : Nat) (q : CfgReq) : State :=
  let f := s.func x pf
  match q with
  | .bar n (some a) =>
    let v := a.toNat / barSize n.val * barSize n.val
    s.setFunc x pf (if n.val = 0 then { f with bar0 := v } else if n.val = 1 then { f with bar2 := v } else { f with bar4 := v })
  | .msix (some w) => (s.setFunc x pf { f with msixEn := w.1, maskAll := w.2 }).flushMsix x pf
  | .power (some d) => (s.setFunc x pf { f with d3 := d }).flushMsix x pf
  | _ => s

/-- CONFIG_REQUEST (R352): Configuration Request Retry Status until the functions are ready. -/
def execConfigRequest (x : Port) (pf : Fin 5) (q : CfgReq) (s : State) : Host.Outcome State Fault Refusal :=
  .next (if !s.portUp x.val then s
    else if !Store.get false s.hosts.ready x.val then s.emit (.config x.val pf.val true 0)
    else
      let s := s.cfgWrite x.val pf.val q
      s.emit (.config x.val pf.val false (s.cfgRead x.val pf.val q)))

/-! ### The staging window (R353-R357) -/

/-- The partition and staging page that a BAR4 offset names; none where it is out of range. -/
def State.stgPage (s : State) (pf off : Nat) : Nat × Option Nat :=
  let p := if pf = 0 then off / 2 ^ 34 % 4 else pf - 1
  let i := (if pf = 0 then off % 2 ^ 34 else off) / 65536
  (p, if i < s.rd HPT_STG_CFG.PAGES p then some i else none)

/-- Whether a partition takes host requests: RUNNING, with no RESTART committed (R76, R508). -/
def State.open_ (s : State) (p : Nat) : Bool := s.running p && decide ((s.part p).next ≠ 2)

/-- A BAR4 access discarded or poisoned (R354, R355). -/
def State.stgFault (s : State) (x p block code cls off : Nat) : State :=
  (s.log ⟨block, code, hostDie x, 0xFF, 62 + x, [p], cls, off⟩).event HPT_PEVT.STG_FAULT p p

/-- Bytes under their enables written into a page from an offset. -/
def State.putBytes (s : State) (k off : Nat) (l : List (Option (BitVec 8))) : State :=
  let s := s.each l.zipIdx fun s x => match x.1 with
    | none => s
    | some b =>
      let o := off + x.2
      let wk := tileWord (tileKey k (o / 16384)) (o % 16384 / 8)
      let old := (s.word wk).data.toNat
      let sh := o % 8 * 8
      let new := old - old / 2 ^ sh % 256 * 2 ^ sh + b.toNat * 2 ^ sh
      s.setWord wk ⟨BitVec.ofNat 64 new, false, false⟩
  let ts := ((l.zipIdx.filter fun x => x.1.isSome).map fun x => (off + x.2) / 16384).eraseDups
  s.setPage k { s.page k with written := ts.foldl (fun m t => m ||| 2 ^ t) (s.page k).written }

/-- BAR4_WRITE (R354); a request does not pass a page's end. -/
def execBar4Write (x : Port) (pf : Fin 5) (off : BitVec 36) (data : List (Option (BitVec 8))) (s : State) : Host.Outcome State Fault Refusal :=
  .next (
    let x := x.val
    let o := off.toNat
    if !s.fnOn x pf.val then s
    else match s.stgPage pf.val o with
      | (p, i) =>
        let l := data.take (65536 - o % 65536)
        if pf.val = 0 ∧ s.rd SEC_CTL.PF0_DATA 0 = 0 then s.stgFault x p 3 7 1 o
        else if !s.open_ p then s.stgFault x p 0 6 1 o
        else match i with
          | none => s.stgFault x p 0 7 1 o
          | some i =>
            let lp := s.rd HPT_STG_CFG.BASE p + i
            match (s.dir p lp).cur with
            | none => match s.allocStg p lp (.port x) with
              | some a => a.1.putBytes a.2 (o % 65536) l
              | none => s
            | some k =>
              let g := s.page k
              if g.st = .opened ∧ g.writer = .port x then s.putBytes k (o % 65536) l
              else s.stgFault x p 3 (if g.st = .opened then 2 else if g.st = .invalid then 5 else 1) 1 o)

/-- The bytes of a page from an offset. -/
def State.getBytes (s : State) (k off n : Nat) : List Nat :=
  (List.range n).map fun i =>
    let o := off + i
    (s.word (tileWord (tileKey k (o / 16384)) (o % 16384 / 8))).data.toNat / 2 ^ (o % 8 * 8) % 256

/-- BAR4_READ (R355): the bytes of a SEALED page, or a poisoned completion of 0xFF. -/
def execBar4Read (x : Port) (pf : Fin 5) (off : BitVec 36) (len : Fin 4097) (s : State) : Host.Outcome State Fault Refusal :=
  .next (
    let x := x.val
    let o := off.toNat
    if !s.fnOn x pf.val then s
    else match s.stgPage pf.val o with
      | (p, i) =>
        let n := min len.val (65536 - o % 65536)
        let bad := fun (s : State) => s.emit (.completion x (List.replicate n 0xFF) true)
        if pf.val = 0 ∧ s.rd SEC_CTL.PF0_DATA 0 = 0 then bad (s.stgFault x p 3 7 1 o)
        else if !s.open_ p then bad (s.stgFault x p 0 6 1 o)
        else match i with
          | none => bad (s.stgFault x p 0 7 1 o)
          | some i =>
            let k? := (s.dir p (s.rd HPT_STG_CFG.BASE p + i)).cur
            match k? with
            | none => bad (s.stgFault x p 3 4 1 o)
            | some k =>
              let g := s.page k
              if g.st = .sealed then
                let ts := (List.range 4).filter fun t => decide (o % 65536 < (t + 1) * 16384) && decide (t * 16384 < o % 65536 + n)
                if ts.any fun t => s.poisoned (tileKey k t) then bad (s.stgFault x p 3 8 2 o)
                else s.emit (.completion x (s.getBytes k (o % 65536) n) false)
              else bad (s.stgFault x p 3 (if g.st = .opened then 3 else if g.st = .invalid then 5 else 4) 1 o))

/-- HPT_STG_STAT of a command. -/
def State.stgAnswer (s : State) (p seq op x done res : Nat) : State :=
  let s := (((s.wr HPT_STG_STAT.SEQ p seq).wr HPT_STG_STAT.OP p op).wr HPT_STG_STAT.DUP p 0).wr HPT_STG_STAT.PORT p (x + 1)
  (s.wr HPT_STG_STAT.DONE p done).wr HPT_STG_STAT.RESULT p res

/-- A staging command from a host, once (R361); `g` carries it out on each page of its range inside the staging area and counts
the pages. -/
def State.stgCmd (s : State) (r : Req) (p first count seq op src : Nat) (g : Nat → Nat → Nat → State → Option State) : State :=
  match s.hostOn r p with
  | none => s
  | some (x, pf) =>
    if s.dupSeq src seq then
      (if s.rd HPT_STG_STAT.SEQ p = seq ∧ s.rd HPT_STG_STAT.OP p = op ∧ s.rd HPT_STG_STAT.PORT p = x + 1 then s.wr HPT_STG_STAT.DUP p 1
        else s.stgAnswer p seq op x 0 7)
    else
      let pages := ((List.range count).map (first + ·)).filter (· < s.rd HPT_STG_CFG.PAGES p)
      let a := pages.foldl (fun (a : State × Nat) i =>
        let l := a.1.rd HPT_STG_CFG.BASE p + i
        match (a.1.dir p l).cur with
        | none => a
        | some k => match g x l k a.1 with
          | some s => (s, a.2 + 1)
          | none => a) (s.setSeq src seq, 0)
      (a.1.stgAnswer p seq op x a.2 0).vector x pf 2

/-- The port of a requester, for its sequence space. -/
def reqPort (r : Req) : Nat :=
  match r with
  | .host x _ => x.val
  | _ => 0

/-- STAGING_SEAL (R356): a COUNT of 0 or a DTYPE above 7 is a reserved encoding (R23). -/
def execStagingSeal (r : Req) (p : Part) (first : BitVec 20) (count : BitVec 20) (dtype : Fin 16) (seq : BitVec 16) (s : State) :
    Host.Outcome State Fault Refusal :=
  .next (
    let p := p.val
    if !s.inWindow r p then s
    else if count.toNat = 0 ∨ 8 ≤ dtype.val then s.logAccess 3 (reqPart r).toList (0x100118 + p * 0x100)
    else s.stgCmd r p first.toNat count.toNat seq.toNat 0 (sealSrc (reqPort r) p) fun x _ k s =>
      if (s.page k).st = .opened ∧ (s.page k).writer = .port x then
        some (s.sealPage k (some (stgHdr p (pageField k) (s.rd HPT_STG_TAG.TAG p) dtype.val s.now)))
      else none)

/-- STAGING_FREE (R357, R367): pages the port wrote, or any for the steward; a page of the other port is left and logged. -/
def execStagingFree (r : Req) (p : Part) (first : BitVec 20) (count : BitVec 20) (seq : BitVec 16) (s : State) : Host.Outcome State Fault Refusal :=
  .next (
    let p := p.val
    if !s.inWindow r p then s
    else if count.toNat = 0 then s.logAccess 3 (reqPart r).toList (0x100120 + p * 0x100)
    else
      let x := reqPort r
      let own := fun (s : State) (k : Nat) => decide ((s.page k).writer = .port x) || s.isSteward p x
      let base := s.rd HPT_STG_CFG.BASE p
      let barred := (s.hostOn r p).isSome && ((List.range count.toNat).any fun i =>
        decide (first.toNat + i < s.rd HPT_STG_CFG.PAGES p) && (s.dir p (base + first.toNat + i)).cur.any fun k =>
          !own s k && (decide ((s.page k).st = .sealed) || decide ((s.page k).st = .invalid)))
      let s := if barred && !s.dupSeq (freeSrc x p) seq.toNat then s.logAccess 5 [p] (0x100120 + p * 0x100) else s
      s.stgCmd r p first.toNat count.toNat seq.toNat 1 (freeSrc x p) fun _ _ k s =>
        let g := s.page k
        if (g.st = .sealed ∨ g.st = .invalid) ∧ own s k = true then some (s.setPage k { g with st := .freeing }) else none)

/-! ### Doorbells (R359-R361) -/

/-- A doorbell slot. -/
def State.bell (s : State) (pf k : Nat) : Bell := Store.get bell0 s.hosts.bells (pf * 64 + k)
/-- A doorbell slot changed. -/
def State.setBell (s : State) (pf k : Nat) (v : Bell) : State :=
  s.onHosts fun h => { h with bells := Store.set bell0 h.bells (pf * 64 + k) v }

/-- NOTIFY of a DB_ARG. -/
def argNotify (a : Nat) : Bool := bit a 46
/-- VEC of a DB_ARG. -/
def argVec (a : Nat) : Nat := bits a 45 40
/-- TAKE of a DB_ARG. -/
def argTake (a : Nat) : Bool := bit a 32

/-- The partition a doorbell request names (R359). -/
def bellPart (pf cmd : Nat) : Nat := if pf = 0 then bits cmd 43 42 else pf - 1

/-- Whether a slot's wait is PENDING. -/
def Bell.waits (b : Bell) : Bool := decide (b.state = 1) && decide (b.op = 2)

/-- A doorbell request from a port (R359-R361): a reserved vector is discarded, a duplicate recorded, a request to a slot whose
wait is PENDING discarded, and so is a duplicate CANCEL of it; else the record is PENDING and `g` goes on. -/
def State.ring (s : State) (x pf slot op cmd : Nat) (g : Nat → Nat → State → State) : State :=
  if !s.fnOn x pf then s
  else
    let b := s.bell pf slot
    let seq := bits cmd 63 48
    let p := bellPart pf cmd
    let vec := op = 2 ∨ (op ≠ 3 ∧ argNotify b.arg)
    if vec ∧ argVec b.arg < 8 then s.logAccess 3 [p] (slot * 0x20 + 8)
    else if s.dupSeq (bellSrc pf slot) seq ∧ (b.seq = seq ∨ ¬b.waits) then
      s.setBell pf slot (if b.seq = seq ∧ b.state ≠ 0 then { b with dup := true } else { b with seq := seq, state := 2, dup := false, status := 7 })
    else if b.waits ∧ op ≠ 3 then
      (s.log ⟨0x01, 0x94, hostDie x, 0xFF, 62 + x, [p], 1, slot⟩).event HPT_PEVT.DB_BUSY p p
    else if s.dupSeq (bellSrc pf slot) seq then s
    else
      let s := s.setSeq (bellSrc pf slot) seq
      if op = 3 then g p b.arg s
      else
        let s := s.setBell pf slot { b with
          seq := seq, state := 1, dup := false, status := 0, port := x, op := op
          vec := if vec then argVec b.arg else 0
          tick := if bit cmd 44 then s.now % 2 ^ 64 else b.tick }
        if pf = 0 ∧ s.rd SEC_CTL.PF0_DATA 0 = 0 then (if op = 2 then s.bellEnd pf slot 3 else s.bellDone pf slot 3)
        else if s.open_ p then g p b.arg s else if op = 2 then s.bellEnd pf slot 9 else s.bellDone pf slot 9

/-- A doorbell's target resolved (R166, R220, R358): PF0 names pool objects by absolute number. -/
def State.bellTarget (s : State) (x pf slot p ref : Nat) (g : Nat → Source → State → State) (wait : Bool) : State :=
  let src : Source := ⟨p, 0, 0, 62 + x, false⟩
  let fin := fun (s : State) (st : Nat) => if wait then s.bellEnd pf slot st else s.bellDone pf slot st
  match s.resolve src ref (decide (pf = 0)) with
  | .obj o => g o src s
  | .foreign => fin (s.blocked src ref) 3
  | _ => fin s 5

/-- Whether a doorbell SIG is the ingress of its partition's frames (R449). -/
def State.isIngress (s : State) (pf slot p : Nat) : Bool :=
  s.guarded p && decide (pf = p + 1) && decide (s.rd GRD_ING_CFG.SLOT p = slot)

/-- DB_SIG (R360, R198, R317, R449, R450, R457). -/
def execDbSig (x : Port) (pf : Fin 5) (slot : Fin 64) (cmd : BitVec 64) (s : State) : Host.Outcome State Fault Refusal :=
  .next (s.ring x.val pf.val slot.val 0 cmd.toNat fun p arg s =>
    s.bellTarget x.val pf.val slot.val p (cmd.toNat % 2 ^ 24) (fun o src s =>
      let n := arg % 65536
      if n = 0 then s.bellDone pf.val slot.val 5
      else if s.isIngress pf.val slot.val p then
        let f := s.rd GRD_ING.NEXT p
        let s := (s.setBell pf.val slot.val { s.bell pf.val slot.val with tick := s.now % 2 ^ 64 }).wr GRD_ING.NEXT p (f + 1)
        (s.onGuard fun y => { y with ingress := y.ingress ++ [⟨p, f, s.now, x.val, slot.val, o, n⟩] }).openWaiting p
      else match s.exportOf o with
        | some e => s.crossSignal e src 0 n 0 (some (pf.val, slot.val)) false
        | none =>
          if s.objHeld o then s.queueHeld (o / 64) (.signal 0 (some (pf.val, slot.val)) o n false src)
          else
            let r := s.sigObj o n 0 src
            r.1.bellDone pf.val slot.val r.2) false)

/-- DB_SEM_ADD (R360, R199, R317). -/
def execDbSemAdd (x : Port) (pf : Fin 5) (slot : Fin 64) (cmd : BitVec 64) (s : State) : Host.Outcome State Fault Refusal :=
  .next (s.ring x.val pf.val slot.val 1 cmd.toNat fun p arg s =>
    s.bellTarget x.val pf.val slot.val p (cmd.toNat % 2 ^ 24) (fun o src s =>
      let d := BitVec.ofNat 32 arg
      match s.exportOf o with
      | some e =>
        if d.toInt < 0 then s.bellDone pf.val slot.val 5
        else s.crossSignal e src 2 d.toNat 0 (some (pf.val, slot.val)) false
      | none =>
        if s.objHeld o then s.queueHeld (o / 64) (.signal 0 (some (pf.val, slot.val)) o d.toInt true src)
        else
          let r := s.addObj o d.toInt src
          r.1.bellDone pf.val slot.val r.2) false)

/-- DB_WAIT (R360, R211): a host wait on an object of the partition. -/
def execDbWait (x : Port) (pf : Fin 5) (slot : Fin 64) (cmd : BitVec 64) (s : State) : Host.Outcome State Fault Refusal :=
  .next (s.ring x.val pf.val slot.val 2 cmd.toNat fun p arg s =>
    s.bellTarget x.val pf.val slot.val p (cmd.toNat % 2 ^ 24) (fun o _ s =>
      let n := arg % 65536
      if n = 0 ∨ (s.exportOf o).isSome then s.bellEnd pf.val slot.val 5
      else if !(s.obj o).live then s.bellEnd pf.val slot.val 4
      else s.pollObj (.host pf.val slot.val) o n (argTake arg) 3 0) true)

/-- DB_CANCEL (R360, R500): the slot's PENDING wait ends CANCELLED; one that has completed keeps its own completion. -/
def execDbCancel (x : Port) (pf : Fin 5) (slot : Fin 64) (cmd : BitVec 64) (s : State) : Host.Outcome State Fault Refusal :=
  .next (s.ring x.val pf.val slot.val 3 cmd.toNat fun _ _ s =>
    let b := s.bell pf.val slot.val
    if !b.waits then s
    else
      let s := s.onSync fun y => { y with parks := y.parks.filter fun pk => decide (pk.who ≠ .host pf.val slot.val) }
      (s.setBell pf.val slot.val { b with seq := bits cmd.toNat 63 48, dup := false }).bellEnd pf.val slot.val 0x19)

/-- DB_ARRIVE (R360, R213): one host arrival at a barrier. -/
def execDbArrive (x : Port) (pf : Fin 5) (slot : Fin 64) (cmd : BitVec 64) (s : State) : Host.Outcome State Fault Refusal :=
  .next (s.ring x.val pf.val slot.val 4 cmd.toNat fun p arg s =>
    match s.barDef p (arg % 64) with
    | none => s.bellDone pf.val slot.val 0x1A
    | some d =>
      let v := s.bar p d.num
      if !d.host then s.bellDone pf.val slot.val 0x1A
      else if 2 ≤ v.host then s.bellDone pf.val slot.val 0x1B
      else (s.setBar p d.num { v with host := v.host + 1 }).bellDone pf.val slot.val 0)

end Sys2Proof.Machine
end

