-- ==== Sys2Proof/Machine/Security.lean ====
section
/-! DEFINITION. The Security Monitor (15_security.md): health, debug unlock, zeroization and tamper. -/

namespace Sys2Proof.Machine

/-- ENTROPY_HEALTH_FAIL (R372): ERROR until a device reset; every key path is held at zero, so no new key is made. -/
def execEntropyHealthFail (s : State) : Host.Outcome State Fault Refusal :=
  .next (
    let s := (s.wr SEC_STAT.ERROR 0 1).wr SEC_EVT.HEALTH 0 1
    (s.log ⟨0x0B, 0x82, 0x71, 0xFF, 0, [], 5, 0⟩).tellDevice)

/-! ### Debug unlock (R384-R388) -/

/-- Whether a requester reaches SEC_DBG_CMD: PF0 on either port, or the JTAG mailbox (R386). -/
def State.dbgReq (s : State) (r : Req) : Bool :=
  match r with
  | .host x pf => decide (pf.val = 0) && s.fnOn x.val 0
  | .mgmt => false
  | .jtag => true

/-- The bytes of the token in SEC_DBG_TOKEN (R385). -/
def State.token (s : State) : List Nat := (List.range 80).flatMap fun i => bytesOf 4 (s.rd SEC_DBG_TOKEN.WORD i)

/-- The token's words cleared, and the nonce consumed (R386): a fresh one is drawn, unless the Security Monitor is in ERROR
(R372). -/
def State.spend (s : State) : State :=
  let s := s.clr SEC_DBG_TOKEN.WORD 0 80
  if s.rd SEC_STAT.ERROR 0 = 1 ∨ s.rd SEC_STAT.READY 0 = 0 then
    (s.onSec fun c => { c with used := true }).wr SEC_DBG_NONCE.NONCE 0 0
  else ((s.wr SEC_DBG_NONCE.NONCE 0 (Config.drbg s.fresh)).onSec fun c => { c with used := false }).used

/-- The first check that a token fails (R386, R387), numbered as SEC_DBG_STAT.RESULT; 0 where every check passes. -/
def State.tokenCheck (s : State) : Nat :=
  let t := s.token
  let life := ofBytes (slice t 46 48)
  let scope := t.getD 44 0
  let guard := (List.range 4).filter fun p => bit scope p && s.guarded p
  if ofBytes (slice t 0 2) ≠ 0x7D0C ∨ t.getD 2 0 ≠ 1 ∨ 32 ≤ scope ∨ 16 ≤ t.getD 45 0 ∨ ofBytes (slice t 144 224) ≠ 0 ∨ life = 0 ∨ 1440 < life then 1
  else if ofBytes (slice t 4 12) ≠ Config.serial % 2 ^ 64 then 2
  else if s.sec.used ∨ s.rd SEC_STAT.READY 0 = 0 ∨ ofBytes (slice t 12 44) ≠ s.rd SEC_DBG_NONCE.NONCE 0 then 3
  else if 2 ≤ t.getD 3 0 ∨ bit (s.rd SEC_IMG.DBG_REVOKED 0) (t.getD 3 0) ∨ Config.sha384 (slice t 48 144) ≠ Config.dbgKey (t.getD 3 0) then 4
  else if !Config.sigOk (slice t 48 144) (Config.sha384 (slice t 0 224)) (slice t 224 320) then 5
  else if guard.any fun p => decide (s.rd SEC_CTL.GUARD_DBG 0 = 0) || s.running p then 6
  else 0

/-- A debug change entered in the fault log with the token's digest, and its event (R388). -/
def State.dbgEvent (s : State) : State :=
  ((s.log ⟨0x0B, 0x81, 0x71, 0xFF, 0, [], 1, s.sec.token⟩).wr SEC_EVT.DBG 0 1).tellDevice

/-- Guarded partitions with AUTO start that waited for a scope to end enter RUNNING (R387). -/
def State.startWaiting (s : State) : State :=
  s.each [0, 1, 2, 3] fun s p => match s.sect p with
    | some c =>
      if s.guarded p ∧ s.pst p = stAdmitted ∧ s.rd PAR_STATE.BUSY p = 0 ∧ (s.part p).next = 0 ∧ s.autoStart p c (s.part p).recovering then s.start p
      else s
    | none => s

/-- UNLOCK (R386, R387): the token is checked, the nonce consumed and the token's words cleared; a scope that it replaces ends. -/
def execUnlock (r : Req) (s : State) : Host.Outcome State Fault Refusal :=
  .next (if !s.dbgReq r then s
    else if s.rd SEC_DBG_STAT.LOCKOUT 0 = 1 then s.spend.wr SEC_DBG_STAT.RESULT 0 7
    else
      let t := s.token
      let c := s.tokenCheck
      let s := s.spend.wr SEC_DBG_STAT.RESULT 0 c
      if c ≠ 0 then
        let s := s.incSat SEC_DBG_STAT.FAILS 0
        if 8 ≤ s.rd SEC_DBG_STAT.FAILS 0 then s.wr SEC_DBG_STAT.LOCKOUT 0 1 else s
      else
        let s := ((s.wr SEC_DBG_STAT.UNLOCKED 0 1).wr SEC_DBG_STAT.SCOPE 0 (t.getD 44 0)).wr SEC_DBG_STAT.CAPS 0 (t.getD 45 0)
        let s := (s.wr SEC_STAT.DBG 0 1).onSec fun c => { c with
          ends := s.now + ofBytes (slice t 46 48) * 60000000000
          token := Config.sha384 t % 2 ^ 64 }
        s.dbgEvent.startWaiting)

/-- An unlock ends (R388). -/
def State.lockDebug (s : State) : State :=
  if s.rd SEC_DBG_STAT.UNLOCKED 0 = 0 then s
  else
    let s := ((s.wr SEC_DBG_STAT.UNLOCKED 0 0).wr SEC_DBG_STAT.SCOPE 0 0).wr SEC_DBG_STAT.CAPS 0 0
    (s.wr SEC_STAT.DBG 0 0).stopTrace.dbgEvent.startWaiting

/-- LOCK (R388). -/
def execLock (r : Req) (s : State) : Host.Outcome State Fault Refusal := .next (if s.dbgReq r then s.lockDebug else s)

/-- DEBUG_EXPIRY (R388): the lifetime of the unlock in force expires. -/
def execDebugExpiry (s : State) : Host.Outcome State Fault Refusal :=
  .next (if s.rd SEC_DBG_STAT.UNLOCKED 0 = 1 then (s.reach s.sec.ends).lockDebug else s)

/-- Whether debug is unlocked with a capability for a partition, or for the device (`p` 4) (R384). -/
def State.debugOk (s : State) (cap p : Nat) : Bool :=
  decide (s.rd SEC_DBG_STAT.UNLOCKED 0 = 1) && bit (s.rd SEC_DBG_STAT.CAPS 0) cap && bit (s.rd SEC_DBG_STAT.SCOPE 0) p

/-! ### Zeroization (R389, R390) -/

/-- Zeroization (R389): keys are overwritten, T0, T1, pool memory and the stores cleared, and the device reset; the trigger is
kept. -/
def State.zeroize (s : State) (trigger : Field) : State := s.deviceReset.wr trigger 0 1

/-- ARM (R390): SEC_ZCMD through PF0. -/
def execArm (r : Req) (s : State) : Host.Outcome State Fault Refusal :=
  .next (match r with
    | .host x pf => if pf.val = 0 ∧ s.fnOn x.val 0 = true then s.onSec fun c => { c with arm := some (x.val, s.now) } else s
    | _ => s)

/-- ZERO (R390): a zeroization after an ARM through PF0 on the same port within 1 ms; MODE PERMANENT blows the ZEROIZED fuse. -/
def execZero (r : Req) (permanent : Bool) (s : State) : Host.Outcome State Fault Refusal :=
  .next (match r, s.sec.arm with
    | .host x pf, some (y, t) =>
      if pf.val = 0 ∧ s.fnOn x.val 0 = true ∧ x.val = y ∧ s.now ≤ t + 1000000 then
        (s.on permanent fun s => s.wr SEC_STAT.ZEROIZED 0 1).zeroize SEC_RST_CAUSE.CMD
      else s
    | _, _ => s)

/-- TAMPER (R390): TAMPER_N held low for 1 µs. -/
def execTamper (s : State) : Host.Outcome State Fault Refusal :=
  .next (if s.rd SEC_TAMP_EN.PIN 0 = 1 then s.zeroize SEC_RST_CAUSE.PIN else s)

/-- SUPPLY_TAMPER (R390). -/
def execSupplyTamper (s : State) : Host.Outcome State Fault Refusal :=
  .next (if s.rd SEC_TAMP_EN.VOLT 0 = 1 then s.zeroize SEC_RST_CAUSE.VOLT else s)

/-- TEMP_TAMPER (R390). -/
def execTempTamper (s : State) : Host.Outcome State Fault Refusal :=
  .next (if s.rd SEC_TAMP_EN.TEMP 0 = 1 then s.zeroize SEC_RST_CAUSE.TEMP else s)

end Sys2Proof.Machine
end

