-- ==== Sys2Proof/Machine/Debug.lean ====
section
/-! DEFINITION. Counters read in groups, the deadlock detector and its waiter graph, objects set by hand, trace capture
(21_counters_debug.md). -/

namespace Sys2Proof.Machine

/-! ### Group captures (R517-R519) -/

/-- A counter of the map and its WRAP bit (R519): a field's and a partition's stall counters are the sums of their cores'. -/
def State.counter (s : State) (scope tgt i : Nat) : Nat × Bool :=
  let one := fun (a t : Nat) => (Store.get 0 s.dbg.vals (cntKey a t i), Store.get false s.dbg.wraps (cntKey a t i))
  let sum := fun (fs : List Nat) =>
    let l := fs.flatMap fun f => (List.range 152).map fun m => one 0 (coreKey f m)
    let v : Nat := l.foldl (fun a x => a + x.1) 0
    (v % 2 ^ 64, l.any (·.2) || decide (2 ^ 64 ≤ v))
  if 0x0B < i then one scope tgt
  else if scope = 1 then sum [tgt]
  else if scope = 2 then sum (s.fieldsOf tgt)
  else one scope tgt

/-- A counter set to 0 and its WRAP bit cleared; a sum's summands (R517, R520). -/
def State.zeroCounter (s : State) (scope tgt i : Nat) : State :=
  let ks := if 0x0B < i then [cntKey scope tgt i]
    else if scope = 1 then (List.range 152).map fun m => cntKey 0 (coreKey tgt m) i
    else if scope = 2 then (s.fieldsOf tgt).flatMap fun f => (List.range 152).map fun m => cntKey 0 (coreKey f m) i
    else [cntKey scope tgt i]
  s.each ks fun s k => { s with dbg := { s.dbg with vals := Store.set 0 s.dbg.vals k 0, wraps := Store.set false s.dbg.wraps k false } }

/-- CNT_SNAP_STAT of a requester. -/
def State.snapAnswer (s : State) (k seq tick res : Nat) : State :=
  ((s.wr CNT_SNAP_STAT.SEQ k seq).wr CNT_SNAP_STAT.TICK k tick).wr CNT_SNAP_STAT.RESULT k res

/-- CAPTURE (R517, R519, R361): CNT_SNAP_CMD names a scope, its target, a first index, a count less 1 and CLEAR. The capture tick
lies at least 2 µs ahead, and not before that of an earlier capture of the requester. -/
def execCapture (r : Req) (scope : Fin 4) (p : Part) (f : FieldId) (m : BitVec 8) (first : BitVec 11) (count : Fin 1024) (clear : Bool)
    (seq : BitVec 16) (s : State) : Host.Outcome State Fault Refusal :=
  .next (if !s.reqOn r then s
    else
      let k := reqKey r
      let q := seq.toNat
      if s.dupSeq (cntSrc k) q then (if s.rd CNT_SNAP_STAT.SEQ k = q then s else s.snapAnswer k q 0 2)
      else
        let s := s.setSeq (cntSrc k) q
        let ok : Bool := match reqPart r with
          | none => true
          | some o => if scope = 2 then decide (p.val = o) else decide (scope ≠ 3) && s.owns o f.val
        if !ok || (decide (scope = 0) && decide (152 ≤ m.toNat)) then s.snapAnswer k q 0 5
        else
          let tgt := if scope = 0 then coreKey f.val m.toNat else if scope = 1 then f.val else if scope = 2 then p.val else 0
          let t := ((s.dbg.snaps.filter (·.key = k)).map (·.tick)).foldl max (s.now + 2000 + Config.captureDelay s.fresh)
          let c : Snap := ⟨k, scope.val, tgt, first.toNat, count.val + 1, clear, t, q⟩
          let s := { s with dbg := { s.dbg with snaps := s.dbg.snaps ++ [c] } }
          s.used.snapAnswer k q (t % 2 ^ 64) 1)

/-- CAPTURE_TICK (R517, R518): the oldest capture of a requester reaches its tick. -/
def execCaptureTick (r : Req) (s : State) : Host.Outcome State Fault Refusal :=
  .next (match s.dbg.snaps.find? (·.key = reqKey r) with
    | none => s
    | some c =>
      let s := s.reach c.tick
      let l : List Nat := (List.range c.count).map (c.first + ·)
      let bank := l.map fun i => s.counter c.scope c.tgt i
      let s := { s with dbg := { s.dbg with
        snaps := s.dbg.snaps.erase c
        banks := Store.set [] s.dbg.banks c.key bank } }
      let s := s.on c.clear fun s => s.each l fun s i => s.zeroCounter c.scope c.tgt i
      if s.rd CNT_SNAP_STAT.SEQ c.key = c.seq then s.snapAnswer c.key c.seq (c.tick % 2 ^ 64) 0 else s)

/-! ### Quiet partitions (R522) -/

/-- Threads of a partition's cores, as listed. -/
def State.threadsOf (s : State) (p : Nat) : List (Nat × Thread) := s.cores.threads.filter fun e => s.owns p (e.1 / 32 / 152)

/-- The engines of a partition, as listed. -/
def State.engineList (s : State) (p : Nat) : List (Nat × Engine) := s.cores.engines.filter fun e => s.owns p (engField e.1)

/-- Whether an engine's take that is not met yet would be served at once. -/
def State.takeReady (s : State) (k ref : Nat) (got : Bool) : Bool :=
  decide (ref = 0) || got || (match s.resolve (s.engSource k) ref false with
    | .obj o => (s.obj o).live && decide (1 ≤ (s.obj o).count)
    | _ => false)

/-- Whether an engine has a tile that it can issue (R522): waits on a take, a kick, a flip or an entry are none. -/
def State.tileReady (s : State) (k : Nat) : Bool :=
  let q := s.engine k
  s.engReady k && decide (inFlight q < 4) && (q.flight.any (fun x => decide (x.st = .failed)) || (match nextWork q with
    | none => false
    | some w => !(w.d.gate && decide (w.issued = 0) && !w.gated && decide (q.kicks = 0)) && (s.engPark k).isNone &&
        s.takeReady k w.d.takeSrc w.gotSrc && s.takeReady k w.d.takeDst w.gotDst && decide (q.wait = .none)))

/-- Whether a move of a field may start (R243). -/
def State.moveReady (s : State) (f : Nat) : Bool :=
  (s.waitingMoves f).any fun m => !(decide (m.kind = .slip) || decide (m.kind = .input)) || decide ((s.entry f m.n).st = 7)

/-- Whether a replay or recording of a field may start (R278, R288). -/
def State.replayReady (s : State) (f : Nat) : Bool :=
  (s.replay.queue.any fun q => decide (q.1 = f) && ((s.slot f q.2).stale || (s.slot f q.2).ins.any s.inputGone ||
    ((s.slot f q.2).ins.all s.inputReady && s.gangFree f q.2))) ||
  (s.waitingSlots f).any fun n => s.gangFree f n

/-- Whether a partition is quiet (R522). -/
def State.partQuiet (s : State) (p : Nat) : Bool :=
  s.running p && decide (s.rd TJL_PSTAT.HALT p = 0) &&
  (s.threadsOf p).any (fun e => decide (e.2.st = .parked)) &&
  (s.threadsOf p).all (fun e => decide (e.2.st ≠ .ready) && decide (e.2.st ≠ .held)) &&
  s.sync.parks.all (fun pk => match pk.who with
    | .thread k => !(s.owns p (k / 32 / 152) && decide (pk.tag = 3))
    | _ => true) &&
  (s.engineList p).all (fun e => decide (inFlight e.2 = 0) && !s.tileReady e.1) &&
  s.tjl.ties.all (fun t => decide (t.2.part ≠ p) || t.2.tiles.isEmpty) &&
  s.ledger.moves.all (fun m => !(s.owns p m.f && m.started)) && !(s.fieldsOf p).any s.moveReady &&
  s.ledger.invoc.all (fun i => !s.owns p i.f) && !(s.fieldsOf p).any s.replayReady &&
  decide ((s.part p).cmd = 0) && decide (Store.get 0 s.repo.cmd p = 0) && s.guard.ingress.all (fun i => decide (i.part ≠ p))

/-- The tick at which a quiet partition's last activity ended. -/
def State.quietSince (s : State) (p : Nat) : Nat :=
  let l := ((s.threadsOf p).map (·.2.issued)) ++ [(s.part p).since, Store.get 0 s.dbg.act p - 1] ++
    (s.sync.parks.filterMap fun pk => match pk.who with
      | .thread k => if s.owns p (k / 32 / 152) then some pk.since else none
      | .engine k => if s.owns p (engField k) then some pk.since else none
      | .host pf slot => if pf = p + 1 then some (Store.get bell0 s.hosts.bells (pf * 64 + slot)).tick else none) ++
    ((s.sync.objs.filter fun e => decide (s.objPart e.1 = some p)).filterMap fun e => e.2.last.map (·.tick))
  l.foldl max 0

/-! ### The waiter graph (R524) -/

/-- A sync reference in a record as a requester sees it: a partition function sees its pool indices (R191). -/
def State.refFor (s : State) (r : Req) (ref : Nat) : Nat :=
  match reqPart r with
  | none => ref
  | some p =>
    if ref / 2 ^ 22 ≠ 3 then ref
    else match (s.blocksOf p).findIdx? (fun b => decide (b = ref % 2 ^ 14 / 64)) with
      | some i => 3 * 2 ^ 22 + i * 64 + ref % 64
      | none => ref

/-- A waiter's record. `key` orders it: field, core, unit. -/
def waiterRec (since value need : Nat) (last : Option Signaller) (target kind : Nat) (live sat broken take : Bool)
    (tag f c unit order : Nat) : Nat × Nat :=
  let l := last.getD ⟨0, 0, 0, 0, 0⟩
  ((f * 256 + c) * 64 + unit,
   since % 2 ^ 64 * 2 ^ 192 + value % 2 ^ 32 * 2 ^ 160 + need % 2 ^ 32 * 2 ^ 128 + l.field % 64 * 2 ^ 122 + l.core % 256 * 2 ^ 114 +
   l.unit % 64 * 2 ^ 108 + target % 2 ^ 24 * 2 ^ 80 + kind * 2 ^ 77 + boolNat live * 2 ^ 76 + boolNat sat * 2 ^ 75 +
   boolNat broken * 2 ^ 74 + boolNat take * 2 ^ 72 + tag % 4 * 2 ^ 70 + f % 64 * 2 ^ 58 + c % 256 * 2 ^ 50 + unit % 64 * 2 ^ 44 +
   min order 0xFFFF)

/-- Field, core and unit of who waits. -/
def State.whoAt (s : State) : Who → Nat × Nat × Nat
  | .thread k => (k / 32 / 152, k / 32 % 152, k % 32)
  | .engine k => ((s.engSource k).field, (s.engSource k).core, (s.engSource k).unit)
  | .host pf slot => (0, slot, 62 + (Store.get bell0 s.hosts.bells (pf * 64 + slot)).port)

/-- The record of a parked poll, at a place in its target's queue. -/
def State.parkRec (s : State) (pk : Park) (order : Nat) : Nat × Nat :=
  let w := s.whoAt pk.who
  let other := match pk.who with
    | .host _ _ => some 5
    | .engine _ => some 4
    | .thread _ => none
  let plain := fun (n : Nat) => waiterRec pk.since 0 0 none n (other.getD 7) false false false pk.take pk.tag w.1 w.2.1 w.2.2 order
  match pk.tgt with
  | .word k =>
    let x := s.word k
    waiterRec pk.since x.data.toNat 0 none (k % 65536) 1 x.full false false pk.take pk.tag w.1 w.2.1 w.2.2 order
  | .obj k =>
    let o := s.obj k
    waiterRec pk.since o.count pk.n o.last (objRef k) (other.getD (if k < poolBase then 2 else 3)) o.live o.sat o.broken pk.take pk.tag
      w.1 w.2.1 w.2.2 order
  | .fence _ _ _ => plain 0
  | .barrier _ b _ => plain b
  | .accession _ => plain 0
  | .entry _ n => plain n
  | .slot _ n => plain n

/-- The partition of who waits. -/
def State.whoPart (s : State) : Who → Option Nat
  | .thread k => s.partOf (k / 32 / 152)
  | .engine k => s.partOf (engField k)
  | .host pf _ => if pf = 0 then none else some (pf - 1)

/-- Whether a parked poll is a waiter of a partition: a host wait through PF0 belongs to its target's. -/
def State.parkIn (s : State) (p : Nat) (pk : Park) : Bool :=
  match s.whoPart pk.who, pk.tgt with
  | some q, _ => decide (q = p)
  | none, .obj k => decide (s.objPart k = some p)
  | none, .barrier q _ _ => decide (q = p)
  | none, _ => false

/-- The records of parked polls, each with its place in its target's queue. -/
def State.parkRecs (s : State) : List Park → List Park → List (Park × (Nat × Nat))
  | _, [] => []
  | done, pk :: r => (pk, s.parkRec pk (done.filter fun x => decide (x.tgt = pk.tgt)).length) :: State.parkRecs s (pk :: done) r

/-- Engines of a partition that wait on a kick or a flip: the tick since when is not held (Config.waitTick). -/
def State.engineRecs (s : State) (p : Nat) : List (Nat × Nat) :=
  (s.engineList p).filterMap fun e =>
    let flip : Bool := match e.2.wait with | .flip _ => true | _ => false
    let kick := (nextWork e.2).any fun w => w.d.gate && decide (w.issued = 0) && !w.gated && decide (e.2.kicks = 0)
    let src := s.engSource e.1
    if (flip || kick) && (s.engPark e.1).isNone then
      some (waiterRec (Config.waitTick e.1 s.fresh) 0 0 none 0 4 false false false false 0 src.field src.core src.unit 0)
    else none

/-- Signals held at the landing counters of a partition's objects. -/
def State.heldRecs (s : State) (p : Nat) : List (Nat × Nat) :=
  (s.sync.objs.filter fun e => decide (s.objPart e.1 = some p)).flatMap fun e => e.2.held.zipIdx.map fun h =>
    let src := s.engSource (h.1.src - 1)
    waiterRec (Config.waitTick (e.1 + shelfBase * 2 + h.2) s.fresh) e.2.count 0 e.2.last (objRef e.1) 6 e.2.live e.2.sat e.2.broken false 0
      src.field src.core src.unit h.2

/-- The records of a partition's waiters, in ascending order of field, core and unit. -/
def State.waiterGraph (s : State) (p : Nat) : List Nat :=
  let l := (((s.parkRecs [] s.sync.parks).filter fun x => s.parkIn p x.1).map (·.2)) ++ s.engineRecs p ++ s.heldRecs p
  (sortBy (fun a b => decide (a.1 ≤ b.1)) l).map (·.2)

/-- DEADLOCK (R523): a partition has been quiet for MS; the detector fires and the capture of the waiter graph begins. -/
def execDeadlock (p : Part) (s : State) : Host.Outcome State Fault Refusal :=
  let p := p.val
  .next (if s.partQuiet p && decide (s.rd DBG_DL_CTL.EN p = 1) && decide (s.rd DBG_DL_STAT.FIRED p = 0) && decide (s.rd DBG_DL_STAT.BUSY p = 0) then
      let t := s.quietSince p
      let s := s.reach (t + s.rd DBG_DL_CTL.MS p * 1000000)
      let s := ((((s.wr DBG_DL_STAT.FIRED p 1).wr DBG_DL_STAT.QUIET_TK p (t % 2 ^ 64)).wr DBG_DL_STAT.BUSY p 1).wr DBG_DL_STAT.VOLATILE p 0).wr DBG_DL_STAT.TRUNC p 0
      { s with dbg := { s.dbg with
        graph := Store.set [] s.dbg.graph p (s.waiterGraph p)
        graphAt := Store.set 0 s.dbg.graphAt p (s.fresh + 1) } }
    else s)

/-- WAITER_GRAPH_DONE (R524, R523): the capture ends; VOLATILE where the partition has moved meanwhile. The event and the fault log
entry follow. -/
def execWaiterGraphDone (p : Part) (s : State) : Host.Outcome State Fault Refusal :=
  let p := p.val
  .next (if s.rd DBG_DL_STAT.BUSY p = 1 then
      let g := Store.get [] s.dbg.graph p
      let now := ({ s with fresh := Store.get 0 s.dbg.graphAt p - 1 }).waiterGraph p
      let s := { s with dbg := { s.dbg with graph := Store.set [] s.dbg.graph p (g.take 65536), graphAt := Store.set 0 s.dbg.graphAt p 0 } }
      let s := ((s.wr DBG_DL_STAT.BUSY p 0).wr DBG_DL_STAT.TOTAL p (min g.length 0xFFFFF)).wr DBG_DL_STAT.TRUNC p (boolNat (decide (65536 < g.length)))
      let s := (s.wr DBG_DL_STAT.VOLATILE p (boolNat (!s.partQuiet p || decide (now ≠ g)))).used
      (s.log ⟨0x0D, 0x80, 0xFF, 0xFF, 0, [p], 3, Config.detail [p, s.rd DBG_DL_STAT.QUIET_TK p]⟩).event DBG_EVT.DEADLOCK p p
    else s)

/-- DL_REARM (R523): 1 written to DBG_DL_STAT.FIRED. -/
def execDlRearm (r : Req) (p : Part) (s : State) : Host.Outcome State Fault Refusal :=
  .next (if s.reqOn r && (reqPart r).all (fun o => decide (o = p.val)) then s.wr DBG_DL_STAT.FIRED p.val 0 else s)

/-! ### Objects by hand (R525-R528) -/

/-- The selection register's copy of a requester. -/
def selKey (r : Req) : Nat := reqKey r

/-- The object that a requester has selected with DBG_SO_SEL, and its partition (R526). -/
def State.selObj (s : State) (r : Req) : Option (Nat × Nat) :=
  let p := (reqPart r).getD (s.rd DBG_SO_SEL.PART (selKey r))
  match s.resolve ⟨p, 0, 0, 62, false⟩ (s.rd DBG_SO_SEL.REF (selKey r)) (reqPart r).isNone with
  | .obj k => some (k, p)
  | _ => none

/-- The object word with bit 34 for live (R189, R358). -/
def objView (o : SyncObj) : Nat := o.count % 2 ^ 32 + boolNat o.sat * 2 ^ 32 + boolNat o.broken * 2 ^ 33 + boolNat o.live * 2 ^ 34

/-- The parked polls of an object, oldest first. -/
def State.waitersOf (s : State) (k : Nat) : List Park := s.sync.parks.filter fun pk => decide (pk.tgt = .obj k)

/-- SUNIT of the debugger (R525): JTAG, PF0 on HPA, PF0 on HPB. -/
def debuggerUnit : Req → Nat
  | .host x _ => 60 + x.val
  | .jtag => 59
  | .mgmt => Config.mgmtUnit % 64

/-- DBG_SO_SET_STAT of a requester. -/
def State.setAnswer (s : State) (r : Req) (seq res : Nat) : State :=
  (s.wr DBG_SO_SET_STAT.SEQ (reqKey r) seq).wr DBG_SO_SET_STAT.RESULT (reqKey r) res

/-- The object after a setting (R527). -/
def handSet (o : SyncObj) (value : Nat) (live clrSat clrBroken : Bool) (unit now : Nat) : SyncObj :=
  { o with
    count := value
    live := live
    sat := o.sat && !clrSat
    broken := o.broken && !clrBroken
    landed := if clrBroken then 0 else o.landed
    last := some ⟨0, 0, unit, 3, now % 2 ^ 64⟩ }

/-- SO_SET (R527, R528): the selected object is set, and its waiters served. -/
def execSoSet (r : Req) (value : BitVec 32) (live clrSat clrBroken : Bool) (seq : BitVec 16) (s : State) : Host.Outcome State Fault Refusal :=
  .next (if !s.reqOn r && decide (r ≠ .jtag) then s
    else
      let q := seq.toNat
      if s.dupSeq (dbgSrc (reqKey r)) q then (if s.rd DBG_SO_SET_STAT.SEQ (reqKey r) = q then s else s.setAnswer r q 2)
      else
        let s := s.setSeq (dbgSrc (reqKey r)) q
        let u := debuggerUnit r
        match s.selObj r with
        | none => if s.rd SEC_DBG_STAT.UNLOCKED 0 = 1 ∧ bit (s.rd SEC_DBG_STAT.CAPS 0) 1 = true then s.setAnswer r q 5 else s.setAnswer r q 8
        | some (k, p) =>
          if !s.debugOk 1 p then s.setAnswer r q 8
          else
            let o := s.obj k
            if !live && o.live && !(s.waitersOf k).isEmpty then s.setAnswer r q 9
            else
              let o1 := handSet o value.toNat live clrSat clrBroken u s.now
              let s := s.log ⟨0x0D, 1, 0xFF, 0xFF, u, [p], 1, objView o⟩
              let s := s.log ⟨0x0D, 2, 0xFF, 0xFF, u, [p], 1, objView o1⟩
              let s := (s.setObj k o1).watched k value.toNat false
              let s := if o.count < value.toNat then s.raised k else s
              ((s.serveObj k).event DBG_EVT.SO_SET p p).setAnswer r q 0)

/-! ### Trace capture (R529) -/

/-- Whether trace capture is available for what DBG_TR_CTL selects. -/
def State.traceOk (s : State) : Bool := s.debugOk 3 (if s.rd DBG_TR_CTL.DEV 0 = 1 then 4 else s.rd DBG_TR_CTL.PART 0)

/-- Trace capture starts, in an empty trace memory (R529, R550). -/
def State.startTrace (s : State) : State :=
  if s.traceOk && decide (s.rd DBG_TR_STAT.ACTIVE 0 = 0) then
    let s := ((s.wr DBG_TR_STAT.ACTIVE 0 1).wr DBG_TR_STAT.FULL 0 0).wr DBG_TR_STAT.NEXT 0 0
    ({ s with dbg := { s.dbg with trace := [], cause := 0 } }).trigOut
  else s

/-- Whether a requester reaches the trace registers: the device tag (R529, R532). -/
def State.traceReq (s : State) (r : Req) : Bool := s.reqOn r && (reqPart r).isNone

/-- TRACE_START: a write of START. -/
def execTraceStart (r : Req) (s : State) : Host.Outcome State Fault Refusal := .next (if s.traceReq r then s.startTrace else s)

/-- TRACE_STOP: a write of STOP. -/
def execTraceStop (r : Req) (s : State) : Host.Outcome State Fault Refusal := .next (if s.traceReq r && s.traceOk then s.stopTrace else s)

end Sys2Proof.Machine
end

