-- ==== Sys2Proof/Machine/Records.lean ====
section
/-! DEFINITION. The Zhevorn image read from its bytes (16_image_startup.md R395-R404, R586-R589): header, signature block,
section table, records, and the content rules. Records whose byte layout the spec does not give are read by uninterpreted
decoders. -/

namespace Sys2Proof.Machine

/-! ### Records without a byte layout -/

/-- The LAYOUT record (R59-R61): columns, flash dies and link dies of P0-P3 as masks. -/
structure LayoutRec where
  cols : List Nat
  flash : List Nat
  links : List Nat
deriving DecidableEq, Repr

/-- The PHEAD record (R400). -/
structure PHead where
  mode : Nat
  auto : Bool
  steward : Nat
  replayKey : Nat
  target : Nat
  stgBase : Nat
  stgPages : Nat
deriving DecidableEq, Repr

end Sys2Proof.Machine

namespace Sys2Proof.Config
open Sys2Proof.Machine

/-- LAYOUT, from the record's bytes; none where they are no such record. -/
opaque recLayout : List Nat → Option LayoutRec
/-- DEVSET: its entries and the subsystem IDs. -/
opaque recDevset : List Nat → Option (List Setting × Nat)
/-- CLUSTER: cluster identifier, wafer number, time master, identity digests by wafer. -/
opaque recCluster : List Nat → Option (Nat × Nat × Nat × List Nat)
/-- PORTS. -/
opaque recPorts : List Nat → Option (List PortRec)
/-- ROUTES: the route table and the transit pairs. -/
opaque recRoutes : List Nat → Option (List (Nat × List Nat) × List (Nat × Nat))
/-- PINS. -/
opaque recPins : List Nat → Option (List PinRec)
/-- PHEAD. -/
opaque recPhead : List Nat → Option PHead
/-- PROGRAM. -/
opaque recProgram : List Nat → Option Program
/-- SYNC. -/
opaque recSync : List Nat → Option SyncRec
/-- FENCE. -/
opaque recFence : List Nat → Option (List Group)
/-- SPANS. -/
opaque recSpans : List Nat → Option (List SpanDef)
/-- LINKS. -/
opaque recLinks : List Nat → Option Links
/-- SEALED. -/
opaque recSealed : List Nat → Option (List (Nat × Nat))
/-- CHECKER. -/
opaque recChecker : List Nat → Option Checker

end Sys2Proof.Config

namespace Sys2Proof.Machine

/-! ### Bytes of a slot -/

/-- `n` bytes of a slot from an offset (R393); an unlisted byte is erased. -/
def State.nvm (s : State) (slot off n : Nat) : List Nat :=
  (List.range n).map fun i => Store.get 255 s.boot.bytes (slot * 2 ^ 29 + off + i)

/-- A little-endian number in bytes `a` to below `b`. -/
def num (l : List Nat) (a b : Nat) : Nat := ofBytes (slice l a b)

/-- Whether bytes `a` to below `b` are all 0. -/
def zero (l : List Nat) (a b : Nat) : Bool := (slice l a b).all (· == 0)

/-- A section table entry (R397). -/
def sectEnt (l : List Nat) : SectEnt := ⟨num l 0 1, num l 1 2, num l 8 12 * 4096, num l 12 16, num l 16 64⟩

/-- The section table of a slot. -/
def State.table (s : State) (slot : Nat) : List SectEnt :=
  let n := min 5 (num (s.nvm slot 6 2) 0 2)
  (List.range n).map fun i => sectEnt (s.nvm slot (0x180 + 64 * i) 64)

/-- The checks of R410 on a header and a signature block. -/
def headOk (h g : List Nat) (cap : Nat) : Bool :=
  decide (num h 4 6 = 1) && decide (num h 20 22 = 0x0460) && decide (num h 22 23 = 0xB0) && decide (2 ≤ num h 6 8) && decide (num h 6 8 ≤ 5) &&
  decide (num h 16 20 ≤ 2 ^ 29) && decide (num h 16 20 ≤ cap) && decide (num h 23 24 ≤ 64) && decide (num h 24 25 < 16) && decide (num h 25 26 < 2) &&
  zero h 26 64 && zero g 1 8 && zero g 200 256

/-- Checks 1 to 4 of R373 on a slot: the failure code of SEC_IMG.CODE, 0 where all pass. -/
def State.sigCheck (s : State) (slot : Nat) : Nat :=
  let h := s.nvm slot 0 128
  let g := s.nvm slot 128 256
  let tab := s.nvm slot 0x180 (64 * num h 6 8)
  let k := num g 0 1
  if 4 ≤ k then 2
  else if bit (s.rd SEC_IMG.REVOKED 0) k then 1
  else if Config.sha384 (slice g 8 104) ≠ Config.imgKey k then 2
  else if !Config.sigOk (slice g 8 104) (Config.sha384 (h ++ tab)) (slice g 104 200) then 3
  else if num h 23 24 < s.rd SEC_IMG.SVN 0 then 4
  else 0

/-- Whether a section's bytes have the digest that the table gives (R373 check 5). -/
def State.digestOk (s : State) (slot : Nat) (e : SectEnt) : Bool := decide (Config.sha384 (s.nvm slot e.off e.len) = e.digest)

/-! ### Records (R398-R400) -/

/-- An entry of a record directory. -/
structure RecEnt where
  tag : Nat
  inst : Nat
  bytes : List Nat
  clean : Bool
deriving DecidableEq, Repr

/-- The records of a section; none where its header is not that of its type, or a record passes its end. -/
def records (b : List Nat) (typ : Nat) : Option (List RecEnt) :=
  let n := num b 8 12
  if num b 0 4 ≠ 0x53454354 ∨ num b 4 5 ≠ typ ∨ ¬zero b 5 8 ∨ ¬zero b 12 16 ∨ b.length < 16 + 16 * n then none
  else (List.range n).mapM fun i =>
    let e := slice b (16 + 16 * i) (32 + 16 * i)
    let off := num e 4 8
    let len := num e 8 12
    if off % 8 ≠ 0 ∨ b.length < off + len then none
    else some ⟨num e 0 2, num e 2 4, slice b off (off + len), zero e 12 16⟩

/-- The records of one kind. -/
def ofTag (l : List RecEnt) (tag : Nat) : List RecEnt := l.filter fun r => decide (r.tag = tag)

/-- The one record of a kind. -/
def oneTag (l : List RecEnt) (tag : Nat) : Option (List Nat) := ((ofTag l tag).head?).map (·.bytes)

/-- Settings of 16 bytes each (R403); none where reserved bytes are not 0. -/
def settings (b : List Nat) : Option (List Setting) :=
  (List.range (b.length / 16)).mapM fun i =>
    let e := slice b (16 * i) (16 * i + 16)
    if zero e 13 16 then some ⟨num e 0 4, num e 4 8, num e 8 12, num e 12 13⟩ else none

/-- Whether no two elements of a list are equal. -/
def distinct (l : List Nat) : Bool := decide (l.eraseDups.length = l.length)

/-! ### The device section (R398, R399) -/

/-- The set bits of a mask below 16, ascending. -/
def bits16 (m : Nat) : List Nat := (List.range 16).filter (bit m)

/-- Whether a layout meets R60 and R61. -/
def layoutOk (x : LayoutRec) : Bool :=
  let cs := x.cols.map fun m => (List.range 8).filter (bit m)
  let run := fun (l : List Nat) => decide (l = (List.range l.length).map (l.headD 0 + ·))
  decide (x.cols.length = 4) && decide (x.flash.length = 4) && decide (x.links.length = 4) && x.cols.all (· < 256) && x.flash.all (· < 65536) &&
  x.links.all (· < 256) && cs.all run && decide (cs.flatten = sortBy (fun a b => decide (a ≤ b)) cs.flatten) && distinct cs.flatten &&
  distinct (x.flash.flatMap bits16) && distinct (x.links.flatMap bits16)

/-- The owner of a numbered thing by masks. -/
def ownerBy (l : List Nat) (n : Nat) : Option Nat := (List.range 4).find? fun p => bit (l.getD p 0) n

/-- Whether a register has one copy for each partition. -/
def Reg.partScope (g : Reg) : Bool :=
  match g.dims with
  | (4, _) :: _ => !g.perReq
  | _ => false

/-- The device section of an image's bytes: a cause of SYS_BOOT_STAT where it is refused, 8 LAYOUT or 9 DEVICE. -/
def devSection (b : List Nat) : Nat ⊕ DevSect :=
  match records b 1 with
  | none => .inl 9
  | some l =>
    let tags := [0x101, 0x102, 0x103, 0x104, 0x105, 0x106]
    if !(l.all fun r => tags.contains r.tag && r.clean) || !(tags.all fun t => decide ((ofTag l t).length = 1)) then .inl 9
    else match (oneTag l 0x101).bind Config.recLayout with
      | none => .inl 9
      | some y =>
        match (oneTag l 0x102).bind Config.recDevset, (oneTag l 0x103).bind Config.recCluster, (oneTag l 0x104).bind Config.recPorts,
          (oneTag l 0x105).bind Config.recRoutes, (oneTag l 0x106).bind Config.recPins with
        | some d, some c, some po, some ro, some pi =>
          if !layoutOk y then .inl 8
          else if !(d.1.all fun x => x.ok fun g _ => !g.partScope && !g.ofFields && !g.perReq) then .inl 9
          else .inr
            { cols := y.cols, flash := (List.range 16).map (ownerBy y.flash), links := (List.range 8).map (ownerBy y.links)
              devset := d.1, subsys := d.2, cluster := c.1, wafer := c.2.1, master := c.2.2.1, digests := c.2.2.2, ports := po
              routes := ro.1, transit := ro.2, pins := pi }
        | _, _, _, _, _ => .inl 9

/-- The verification pass of a slot (R398, R411): 0, or the cause of its refusal. -/
def State.verifyCause (s : State) (slot : Nat) : Nat :=
  let h := s.nvm slot 0 128
  let t := s.table slot
  let len := num h 16 20
  let parts := (t.filter fun e => decide (e.typ = 2)).map (·.part)
  let plain := fun (i : Nat) => zero (s.nvm slot (0x180 + 64 * i) 64) 2 8
  let apart := fun (a b : SectEnt) => decide (a.off + a.len ≤ b.off) || decide (b.off + b.len ≤ a.off)
  if !(t.all fun e => decide (e.off + e.len ≤ len)) then 2
  else if !(t.all fun e => s.digestOk slot e) then 7
  else if !((List.range t.length).all plain) || !((List.range t.length).all fun i => (List.range i).all fun j =>
      match t[i]?, t[j]? with
      | some a, some b => apart a b
      | _, _ => true) then 2
  else if !(t.all fun e => (decide (e.typ = 1) && decide (e.part = 255)) || (decide (e.typ = 2) && decide (e.part < 4))) ||
      decide ((t.filter fun e => decide (e.typ = 1)).length ≠ 1) || !distinct parts then 2
  else match t.find? fun e => decide (e.typ = 1) with
    | none => 2
    | some e => match devSection (s.nvm slot e.off e.len) with
      | .inl c => c
      | .inr d => if (List.range 4).all fun p => decide (d.cols.getD p 0 ≠ 0) == parts.contains p then 0 else 8

/-! ### Partition sections: records with a layout -/

/-- A PLACEMENT record (R401); none where its reserved bytes are not 0. -/
def placementOf (b : List Nat) : Option Placement :=
  if b.length ≠ 64 ∨ ¬zero b 48 64 then none
  else some ⟨num b 0 8, num b 8 40, num b 40 42, if num b 42 44 = 0xFFFF then none else some (num b 42 44), num b 44 46, num b 46 48⟩

/-- The field record of a PLAN (R587). -/
def fieldPlanOf (b : List Nat) : FieldPlan :=
  ⟨num b 0 2, (List.range 8).map fun i => num b (2 + 2 * i) (4 + 2 * i), num b 18 22, num b 22 26, num b 26 30, num b 30 32, num b 32 37,
    num b 37 40, num b 40 45, num b 45 48⟩

/-- A PLAN record (R587); none where it is short or a reserved field is not 0. -/
def planOf (b : List Nat) : Option Plan :=
  let nt := num b 7 8
  let np := num b 8 10
  let nc := num b 10 11
  let rec_ := fun (f : Nat) => slice b (128 + 64 * f) (192 + 64 * f)
  if b.length < 4224 + 4 * np + 64 * nc ∨ ¬zero b 11 16 ∨ ¬zero b 36 64 ∨ 8 < nt ∨ 2048 < np ∨ 64 < nc ∨
    ¬((List.range 8).all fun c => zero b (65 + 8 * c) (72 + 8 * c) && (decide (c < nt) || zero b (64 + 8 * c) (65 + 8 * c))) ∨
    ¬((List.range 64).all fun f => zero (rec_ f) 48 64) then none
  else some
    { t3 := num b 0 4, syncBlocks := num b 4 6, netShare := num b 6 7, t1kinds := (List.range nt).map fun c => num b (64 + 8 * c) (65 + 8 * c)
      seedT2r := num b 16 20, seedT2w := num b 20 24, seedPress := num b 24 28, seedDec := num b 28 32, seedTf := num b 32 36
      fields := (List.range 64).foldl (fun m f => Store.set fieldPlan0 m f (fieldPlanOf (rec_ f))) []
      prog := (List.range np).map fun i => num b (4224 + 4 * i) (4228 + 4 * i)
      pclass := (List.range nc).map fun c => (List.range 16).map fun w =>
        num b (4224 + 4 * np + 64 * c + 4 * w) (4228 + 4 * np + 64 * c + 4 * w) }

/-- A range entry of a PAGEDIR (R586). -/
def rangeOf (b e : List Nat) : Option Range :=
  let init := num e 32 36
  let pages := num e 8 12
  let words := slice b init (init + pages * 65536)
  if ¬zero e 5 8 ∨ ¬zero e 36 48 ∨ 4 ≤ num e 14 15 ∨ pages = 0 ∨ 4 ≤ num e 12 13 ∨ init % 8 ≠ 0 ∨ (init ≠ 0 ∧ b.length < init + pages * 65536) then none
  else some
    { lbase := num e 0 5, pages := pages, tier := num e 12 13, cls := num e 13 14, pin := bit (num e 14 15) 0, spread := bit (num e 14 15) 1
      field := num e 15 16, fields := num e 16 24, group := if num e 24 26 = 0xFFFF then none else some (num e 24 26), t1class := num e 26 27
      dtype := num e 27 28, pbase := num e 28 32, hasInit := decide (init ≠ 0)
      init := if init = 0 then [] else (List.range (pages * 8192)).foldl (fun m w => Store.set 0 m w (BitVec.ofNat 64 (num words (8 * w) (8 * w + 8)))) [] }

/-- A PAGEDIR record (R586). -/
def pagedirOf (b : List Nat) : Option PageDir :=
  let n := num b 0 4
  if b.length < 16 + 48 * n ∨ ¬zero b 6 16 then none
  else ((List.range n).mapM fun i => rangeOf b (slice b (16 + 48 * i) (64 + 48 * i))).map fun l => ⟨num b 4 6, l⟩

/-- A COREMAP record (R400): 64 fields of 152 PROGRAM instances. -/
def coremapOf (b : List Nat) : Option (List CoreMapEnt) :=
  if b.length ≠ 64 * 152 * 2 then none
  else some ((List.range (64 * 152)).filterMap fun i =>
    let v := num b (2 * i) (2 * i + 2)
    if v = 0xFFFF then none else some ⟨i / 152, i % 152, v⟩)

/-- A GUARD record (R448). -/
def guardOf (b : List Nat) : Option GuardRec :=
  let ns := num b 9 10
  let nt := num b 10 11
  let st := fun i => slice b (32 + 32 * i) (64 + 32 * i)
  let tk := fun i => slice b (32 + 32 * ns + 16 * i) (48 + 32 * ns + 16 * i)
  if b.length < 32 + 32 * ns + 16 * nt ∨ ¬zero b 15 32 ∨ ns = 0 ∨ 16 < ns ∨ 64 < nt ∨ 64 ≤ num b 8 9 ∨ num b 11 12 = 0 ∨ 15 < num b 11 12 ∨
    num b 12 13 < 5 ∨ 20 < num b 12 13 ∨ num b 13 14 = 0 ∨ 8 < num b 13 14 ∨ num b 14 15 = 0 ∨
    ¬((List.range ns).all fun i => zero (st i) 3 4 && zero (st i) 24 32) ∨ ¬((List.range nt).all fun i => zero (tk i) 3 4 && zero (tk i) 12 16) then none
  else some
    { ftti := num b 0 2, test := num b 2 4, age := num b 4 8, slot := num b 8 9, run := num b 11 12, seg := num b 12 13, par := num b 13 14, gap := num b 14 15
      stages := (List.range ns).map fun i =>
        ⟨num (st i) 0 2, num (st i) 2 3, num (st i) 4 8, num (st i) 8 12, num (st i) 12 16, num (st i) 16 24⟩
      tasks := (List.range nt).map fun i => ⟨num (tk i) 0 1, num (tk i) 1 2, num (tk i) 2 3, num (tk i) 4 8, num (tk i) 8 12⟩ }

/-- Instances of a kind, each decoded. -/
def instances {α : Type} (l : List RecEnt) (tag : Nat) (g : List Nat → Option α) : Option (List (Nat × α)) :=
  (ofTag l tag).mapM fun r => (g r.bytes).map fun v => (r.inst, v)

/-- The records of a partition section, each instance once, where the counts of R400 hold. -/
def sectionOf (b : List Nat) : Option Section := do
  let l ← records b 2
  let one := fun t => decide ((ofTag l t).length = 1)
  let h ← (oneTag l 0x201).bind Config.recPhead
  let pls ← instances l 0x202 placementOf
  let plans ← instances l 0x203 planOf
  let progs ← instances l 0x204 Config.recProgram
  let maps ← instances l 0x205 coremapOf
  let dirs ← instances l 0x206 pagedirOf
  let sync ← (oneTag l 0x207).bind Config.recSync
  let fence ← (oneTag l 0x208).bind Config.recFence
  let spans ← (oneTag l 0x209).bind Config.recSpans
  let links ← (oneTag l 0x20A).bind Config.recLinks
  let regions ← (oneTag l 0x20B).bind Config.recSealed
  let regset ← (oneTag l 0x20E).bind settings
  let chk := (oneTag l 0x20C).bind Config.recChecker
  let grd := (oneTag l 0x20D).bind guardOf
  let n := pls.length
  if [0x201, 0x207, 0x208, 0x209, 0x20A, 0x20B, 0x20E].all one && l.all (·.clean) && distinct (l.map fun r => r.tag * 65536 + r.inst) &&
      decide (1 ≤ n) && decide (n ≤ 16) && decide (1 ≤ plans.length) && decide (plans.length ≤ 32) && decide (1 ≤ maps.length) && decide (maps.length ≤ n) && decide (1 ≤ dirs.length) && decide (dirs.length ≤ n) &&
      (if h.mode = 2 then one 0x20C && one 0x20D && chk.isSome && grd.isSome
       else (ofTag l 0x20C).isEmpty && (ofTag l 0x20D).isEmpty) then
    some { mode := h.mode, auto := h.auto, steward := h.steward, target := h.target, stgBase := h.stgBase, stgPages := h.stgPages
           placements := pls, plans := plans, programs := progs, coremaps := maps, pagedirs := dirs, sync := sync, fence := fence, links := links
           spans := spans, regions := regions, replayKey := h.replayKey, checker := chk, guard := grd, regset := regset }
  else none

end Sys2Proof.Machine
end

