-- ==== Sys2Proof/Machine/Content.lean ====
section
/-! DEFINITION. The content rules of a partition section (16_image_startup.md R402 and every rule that names IMG_BAD). -/

namespace Sys2Proof.Machine

/-- Whether two ranges of `n` and `m` things share one. -/
def overlap (a n b m : Nat) : Bool := decide (0 < n) && decide (0 < m) && decide (a < b + m) && decide (b < a + n)

/-- Whether no two of a list of ranges share a page. -/
def apart (l : List (Nat × Nat)) : Bool :=
  (List.range l.length).all fun i => (List.range i).all fun j =>
    match l[i]?, l[j]? with
    | some a, some b => !overlap a.1 a.2 b.1 b.2
    | _, _ => true

/-! ### Policy tables (R255, R259) -/

/-- Whether a policy instruction carries a listed opcode, its index is in range, and its unused fields are 0 (R255, R259). -/
def polOk (w : Nat) : Bool :=
  let op := bits w 31 26
  let imm := bits w 13 0
  if op = 3 then decide (imm ≤ 0x1D)
  else if op = 4 then decide (imm ≤ 15)
  else [1, 2, 5, 8, 9, 0xA, 0xB, 0xC, 0xD, 0xE, 0xF, 0x10, 0x11, 0x12, 0x18, 0x19, 0x1A, 0x1B, 0x1C, 0x20, 0x21, 0x30].contains op

/-- The policy tables and seeds of a plan (R255). -/
def Plan.polTables (x : Plan) : Bool :=
  x.prog.all polOk && (x.pclass.all fun c => decide (bits (c.headD 0) 10 0 < max 1 x.prog.length)) &&
  decide (x.seedT2r ≠ 0) && decide (x.seedT2w ≠ 0) && decide (x.seedPress ≠ 0) && decide (x.seedDec ≠ 0) && decide (x.seedTf ≠ 0)

/-! ### Plans (R587, R589) -/

/-- The Ledger and spill ranges of a plan. -/
def Plan.ranges (x : Plan) : List (Nat × Nat) :=
  x.fields.flatMap fun e => [(e.2.lbase, e.2.lpages), (e.2.sbase, e.2.spages)].filter fun r => decide (r.2 ≠ 0)

/-- A plan against R587 and R589. -/
def Plan.ok (x : Plan) (mode : Nat) : Bool :=
  (x.fields.all fun e =>
    decide (e.2.t1ldg + e.2.t1cls.sum ≤ 1536) && decide (e.2.t2heat ≤ e.2.t2) && decide (e.2.ledger ≤ 65536) && decide (e.2.replay ≤ 4096) &&
    decide (e.2.t2 + e.2.t1ldg ≤ e.2.spages)) &&
  decide ((x.t1kinds.filter (· = 3)).length ≤ 1) && apart x.ranges && x.polTables && decide (x.syncBlocks ≤ 256) &&
  (if mode = 2 then decide (1 ≤ x.netShare) else decide (x.netShare = 0))

/-! ### Page directories (R586, R588) -/

/-- The fields that a range places pages in. -/
def Range.places (r : Range) : List Nat := if r.spread then (List.range 64).filter (bit r.fields) else [r.field]

/-- The pages of a range that lie in a field. -/
def Range.pagesIn (r : Range) (f : Nat) : Nat :=
  if r.spread then
    let l := (List.range 64).filter (bit r.fields)
    match l.findIdx? (· = f) with
    | some j => (r.pages + l.length - 1 - j) / max 1 l.length
    | none => 0
  else if r.field = f then r.pages else 0

/-- A range against R586, for the T1 classes of the placement's plans. -/
def Range.ok (r : Range) (groups t1 : Nat) : Bool :=
  [0, 1, 2, 4, 5, 9].contains r.cls && decide (if r.spread then r.field = 0 ∧ r.fields ≠ 0 else r.fields = 0 ∧ r.field < 64) &&
  (if r.tier = 0 then !r.spread && !r.hasInit && decide (r.pbase + r.pages ≤ 1216) else true) &&
  (if r.tier = 3 then !r.hasInit && r.group.isNone else true) &&
  (match r.group with
    | some g => decide (g < groups) && (decide (r.tier = 1) || decide (r.tier = 2))
    | none => true) &&
  (if r.tier = 1 then decide (r.t1class < t1) else decide (r.t1class = 0xFF)) &&
  (if r.tier = 0 ∨ r.tier = 3 then true else decide (r.pbase = 0)) && (r.hasInit || decide (r.dtype = 0))

/-- A page directory against R586: ranges apart from each other and from the Ledger and spill ranges of every plan, the staging
area covered exactly, every group with a range. -/
def PageDir.ok (d : PageDir) (c : Section) (t1 : Nat) : Bool :=
  let rs := d.ranges.map fun r => (r.lbase, r.pages)
  let stg := d.ranges.filter fun r => decide (r.cls = 4)
  (d.ranges.all fun r => r.ok d.groups t1) && apart rs &&
  (c.plans.all fun pl => pl.2.ranges.all fun x => rs.all fun y => !overlap x.1 x.2 y.1 y.2) &&
  (stg.all fun r => decide (r.tier = 2) && decide (c.stgBase ≤ r.lbase) && decide (r.lbase + r.pages ≤ c.stgBase + c.stgPages)) &&
  decide ((stg.map (·.pages)).sum = c.stgPages) && (List.range d.groups).all fun g => d.ranges.any fun r => decide (r.group = some g)

/-- Whether a plan holds, in every field, what a page directory fills at admission (R588). -/
def fillsIn (d : PageDir) (pl : Plan) : Bool :=
  (List.range 64).all fun f =>
    let x := Store.get fieldPlan0 pl.fields f
    let t1 := fun (c : Nat) => ((d.ranges.filter fun r => decide (r.tier = 1) && r.hasInit && decide (r.t1class = c)).map (·.pagesIn f)).sum
    let t2 := ((d.ranges.filter fun r => decide (r.tier = 2) && (r.hasInit || decide (r.cls = 4))).map (·.pagesIn f)).sum
    ((List.range 8).all fun c => decide (t1 c ≤ x.t1cls.getD c 0)) && decide (t2 ≤ x.t2 - x.t2heat)

/-! ### Placements (R401, R402) -/

/-- Whether the T1 classes that a placement's plans both have. -/
def Section.t1classes (c : Section) (pl : Placement) : Nat :=
  let n := fun i => ((c.plans.lookup i).map fun x => x.t1kinds.length).getD 0
  match pl.tight with
  | some t => min (n pl.main) (n t)
  | none => n pl.main

/-- A placement, by its instance, and what it names. -/
def Section.placementOk (c : Section) (owns : Nat → Bool) (i : Nat) (pl : Placement) : Bool :=
  decide (i < 16) && decide (i ≠ 0 ∨ (pl.ffail = 0 ∧ pl.tfail = 0)) && (c.plans.lookup pl.main).isSome && (pl.tight.all fun t => (c.plans.lookup t).isSome) &&
  (match c.coremaps.lookup pl.coremap with
    | some m => m.all fun e => owns e.f && !bit pl.ffail e.f && (c.programs.lookup e.prog).isSome
    | none => false) &&
  (match c.pagedirs.lookup pl.pagedir with
    | some d => d.ok c (c.t1classes pl) && (d.ranges.all fun r => r.places.all owns) &&
        ([some pl.main, pl.tight].all fun o => (o.bind (c.plans.lookup ·)).all fun x => fillsIn d x) &&
        (c.regions.all fun g => d.ranges.all fun r => !(decide (r.tier = 3) && overlap g.1 g.2 r.lbase r.pages))
    | none => false)

/-! ### Programs, synchronisation and spans (R138, R191, R212, R217, R273) -/

/-- No accumulator bank is claimed by two threads (R138). -/
def Program.ok (g : Program) : Bool :=
  (List.range 4).all fun b => decide ((g.threads.filter fun t => bit t.banks b).length ≤ 1)

/-- Barrier records (R212). -/
def barOk (c : Section) (owns : Nat → Bool) (wafer : Nat) (b : BarDef) : Bool :=
  ((List.range 64).all fun f => !bit b.fields f || owns f) && decide (b.cores < 2 ^ 152) && decide (1 ≤ b.percore) && decide (b.percore ≤ 32) &&
  (decide (b.fields = 0) || bit b.wafers wafer) &&
  (decide (((List.range 32).filter (bit b.wafers)).length ≤ 1) || c.links.trees.any fun t => decide (t.bar = b.num))

/-- Pool indices below the blocks of every plan (R191). -/
def Section.poolOk (c : Section) : Bool :=
  let lim := (c.plans.map fun x => 64 * x.2.syncBlocks).foldl min 16384
  (c.sync.pool.all fun x => decide (x.1 < lim)) && (c.links.exports.all fun x => decide (x.pool < lim)) &&
  (c.guard.all fun g => g.stages.all fun x => decide (x.watch < lim))

/-- Urgent sources (R217). -/
def Section.urgentOk (c : Section) : Bool :=
  let share := (c.plans.map (·.2.netShare)).foldl min 64
  c.sync.urgent.isEmpty || (decide (c.mode = 2) && decide (c.sync.urgent.length ≤ 4 * share))

/-- A span definition against the programs of every core map (R273). -/
def Section.spanOk (c : Section) (d : SpanDef) : Bool :=
  distinct (d.parts.map (·.core)) && d.parts.all fun x =>
    decide (x.scrBase + (if x.scrLen = 0 then 128 else x.scrLen) ≤ 128) && (c.coremaps.all fun m => m.2.all fun e =>
      decide (e.m ≠ x.core) || match c.programs.lookup e.prog with
        | some g => g.spans.contains x.thread && (g.istore.any fun w => decide (x.pc ≤ w.1)) &&
            (List.range 64).all fun n => !bit x.priv n || (g.objs.lookup n).isSome
        | none => true)

/-! ### Guarded sections (R425, R448, R485) -/

/-- Whether the PREV references of stages form no cycle: each chain ends at the ingress. -/
def prevOk (l : List GStage) : Nat → Nat → Bool
  | 0, _ => false
  | k + 1, i => match l[i]? with
    | none => false
    | some x => if x.prev = 0xFF then true else prevOk l k x.prev

/-- The GUARD record (R448), and the recovery bound of R485 for a section of `len` bytes. -/
def GuardRec.ok (g : GuardRec) (c : Section) (owns : Nat → Bool) (len : Nat) : Bool :=
  decide (20 ≤ g.ftti) && decide (g.test ≤ g.ftti / 2) && decide ((152 + g.par - 1) / max 1 g.par * 12 * (g.seg + g.gap) ≤ g.test * 1000) &&
  decide (g.age * 10 < g.ftti * 1000) && (g.stages.all fun x => decide (x.min < x.max) && decide (x.crit ≤ x.max)) &&
  distinct (g.stages.map (·.watch)) && (g.stages.all fun x => decide ((c.sync.pool.lookup x.watch).getD 0 = 0)) &&
  ((List.range g.stages.length).all fun i => prevOk g.stages (g.stages.length + 1) i) &&
  (g.tasks.all fun t => decide (t.field < 64) && owns t.field && decide (t.core < 152) && decide (t.stage < g.stages.length)) &&
  ((List.range g.tasks.length).all fun i => (List.range i).all fun j => match g.tasks[i]?, g.tasks[j]? with
    | some a, some b => decide (a.field ≠ b.field) || decide (a.core ≠ b.core) || decide (a.threads &&& b.threads = 0)
    | _, _ => true) &&
  decide (28000000 + len / 4 ≤ 2 * g.ftti * 1000000)

/-- The CHECKER record (R425): exactly one RESULT watch point, with one tile a frame. -/
def Checker.ok (k : Checker) : Bool :=
  decide ((k.points.filter fun w => decide (w.kind = 3)).length = 1) && (k.points.all fun w => decide (w.kind ≠ 3) || decide (w.per = 1)) &&
  decide (k.points.length ≤ 64)

/-! ### A section as a whole -/

/-- Whether every content rule holds for a section of a partition, `len` bytes long. -/
def State.sectionOk (s : State) (p len : Nat) (c : Section) : Bool :=
  let owns := fun f => s.owns p f
  decide (c.mode ≤ 2) && decide (c.regions.length ≤ 8) && (c.placements.lookup 0).isSome &&
  (c.placements.all fun x => c.placementOk owns x.1 x.2) && (c.plans.all fun x => x.2.ok c.mode) &&
  (c.programs.all fun x => x.2.ok) && (c.sync.bars.all fun b => barOk c owns s.waferNo b) && c.poolOk && c.urgentOk && c.spans.all c.spanOk &&
  (c.links.ties.all fun t => (s.route t.wafer).all fun n => decide (s.linkOwner n = some p)) && (c.checker.all (·.ok)) &&
  (c.guard.all fun g => g.ok c owns len) &&
  (c.regset.all fun x => x.ok fun g i =>
    (g.partScope && decide (i / g.inner = p)) || (g.ofFields && (owns (i / g.inner) || bit x.flags 0)))

end Sys2Proof.Machine
end

