-- ==== Sys2Proof/Machine/Units.lean ====
section
/-! DEFINITION. Failures of edge dies, crossings and the system die (02_wafer_fields_pace.md R52, R53, 19_failures.md R474-R477). -/

namespace Sys2Proof.Machine

/-- A failed unit that costs its partition no halt: reported, and an ADMITTED partition is admitted again (R477). -/
def State.unitNote (s : State) (p : Nat) : State :=
  if s.pst p = stAdmitted then s.unitFail p 5 fun _ _ => false else s.event PAR_RECOV_EVT.UNIT_FAIL p p

/-- A flash die fails as a whole (R477): no channel answers. -/
def State.flashDieFail (s : State) (d cond : Nat) : State :=
  if s.rd REPO_DIE.STATE d = 2 ∨ s.rd REPO_DIE.STATE d = 3 then s
  else
    let s := s.each ((List.range 16).map (d * 16 + ·)) fun s c => if s.rd REPO_CH.STATE c = 4 then s else s.wr REPO_CH.STATE c 2
    let s := (s.wr REPO_DIE.BADCH d 0xFFFF).wr REPO_DIE.STATE d 2
    let s := (s.log ⟨0x04, 0x81, flashDie d, 0xFE, 0, (s.flashOwner d).toList, 5, cond⟩).flashEvent REPO_EVT.DIE_FAILED d
    match s.flashOwner d with
    | some p => s.unitNote p
    | none => s

/-- A link die fails (R477): a permanent LINK_LOST on its port. -/
def State.linkDieFail (s : State) (n : Nat) : State :=
  let s := if s.portSt n = 4 ∨ s.portSt n = 0 then s.wr TJL_PORT.STATE n 4 else s.loseLink n
  match s.linkOwner n with
  | some p => s.unitNote p
  | none => s

/-- The guard die fails (R477): every pair has FAILED, and every guarded partition enters SAFE with cause LOCKSTEP. -/
def State.guardDieFail (s : State) (cond : Nat) : State :=
  let s := s.log ⟨0x00, 0x43, 0x70, 0xFE, 0, (List.range 4).filter s.guarded, 5, cond⟩
  let s := s.each [0, 1, 2, 3] fun s p => s.wr (ckField p) 0 2
  (s.each [0, 1, 2, 3] fun s p => if s.guarded p ∧ s.running p then s.enterSafe p 2 false else s).pins

/-- The system die fails (R477): every partition enters STOPPED with cause UNIT_FAIL, until a device reset. -/
def State.systemDieFail (s : State) (cond : Nat) : State :=
  if s.wafer.down then s
  else
    let s := (s.onWafer fun w => { w with down := true }).log ⟨0x00, 0x44, 0x71, 0xFE, 0, [], 7, cond⟩
    (s.each [0, 1, 2, 3] fun s p => if s.pst p = stOff ∨ s.pst p = stStopped then s else s.stopPart p 0x0C).pins

/-- Edge die `k` of R37 fails. -/
def State.edgeFail (s : State) (k cond : Nat) : State :=
  if s.edgeDead k then s
  else
    let s := s.onWafer fun w => { w with edges := Store.set false w.edges k true }
    if k < 2 then s.portFail k
    else if k < 18 then s.flashDieFail (k - 2) cond
    else if k < 26 then s.linkDieFail (k - 18)
    else if k = 26 then s.guardDieFail cond
    else s.systemDieFail cond

/-- Working fields of a partition. -/
def State.liveFields (s : State) (p : Nat) : List Nat := (s.fieldsOf p).filter fun f => !s.fieldFailed f

/-- What has become unreachable fails (R476): of two fields of one partition the one powered down, else the larger; an owned
edge die that some working field does not reach. -/
def State.checkRoutes (s : State) : State :=
  s.each [0, 1, 2, 3] fun s p =>
    let fs := s.liveFields p
    let s := s.each fs fun s g => s.each fs fun s f =>
      if f < g ∧ ¬s.fieldFailed f ∧ ¬s.fieldFailed g ∧ ¬s.reaches f g then
        s.failField (if s.rd SYS_FSTAT.OFF f = 1 then f else g) 7
      else s
    s.each (edgesOf s.flashOwner s.linkOwner p) fun s k =>
      if (s.liveFields p).any fun f => !s.reachesEdge f k then s.edgeFail k 7 else s

/-- A field is powered down: it is OFF and fails, and forwards nothing (R55, R475, R561). -/
def State.fieldOff (s : State) (f cond : Nat) : State :=
  (((s.wr SYS_FSTAT.OFF f 1).wr SYS_FPACE.MV f 0).failField f cond).checkRoutes

/-! ### Link groups (R52, R53) -/

/-- The partitions that own an end of a crossing. -/
def State.xingParts (s : State) (x : Nat) : List Nat := ((xingEnds x).filterMap s.partOf).eraseDups

/-- The bits of a mask that are set. -/
def ones (m : Nat) : Nat := ((List.range 10).filter (bit m)).length

/-- A crossing without a working group is LOST (R53): the field with the larger ID fails, or the edge die. -/
def State.loseXing (s : State) (x : Nat) : State :=
  let s := ((s.wr SYS_XING.USED x 0).wr SYS_XING.DEGRADED x 1).wr SYS_XING.LOST x 1
  let s := s.onWafer fun w => { w with swap := Store.set 0 w.swap x 0 }
  let s := (s.log ⟨0x00, 0x12, 0xFF, 0xFF, 0, s.xingParts x, 5, x⟩).tellDevice
  let s := match xingEnds x with
    | [f, g] => s.failField (max f g) 7
    | _ => s.edgeFail (x - 112) 7
  s.checkRoutes

/-- A link group fails (R52, R53): a spare is swapped in and the crossing pauses; without one the crossing is DEGRADED, or LOST. -/
def State.groupFail (s : State) (x g : Nat) : State :=
  let used := s.rd SYS_XING.USED x
  let bad := s.rd SYS_XING.FAILED x
  if bit bad g ∨ s.rd SYS_XING.LOST x = 1 then s
  else
    let bad := bad + 2 ^ g
    let left := if bit used g then used - 2 ^ g else used
    let spare := if bit used g then (List.range 10).find? fun k => !bit left k && !bit bad k else none
    let now := match spare with
      | some k => left + 2 ^ k
      | none => left
    let s := ((s.wr SYS_XING.FAILED x bad).wr SYS_XING.USED x now).wr SYS_XING.SPARES x (10 - ones now - ones bad)
    let s := s.wr SYS_XING.DEGRADED x (boolNat (decide (ones now < 8)))
    if !bit used g then s
    else if spare.isSome then s.onWafer fun w => { w with swap := Store.set 0 w.swap x (s.now + 1) }
    else if now ≠ 0 then (s.log ⟨0x00, 0x11, 0xFF, 0xFF, 0, s.xingParts x, 4, x⟩).tellDevice
    else s.loseXing x

end Sys2Proof.Machine
end

