-- ==== Sys2Proof/Machine/Wafer.lean ====
section
/-! DEFINITION. The pace governor, the timebase, link groups and thermal faults (02_wafer_fields_pace.md R40-R57). -/

namespace Sys2Proof.Machine

/-! ### The pace governor (R44-R47) -/

/-- What a governor period carries from step to step: the excess of power in W, fields that have had their step, classes lowered. -/
structure GovRun where
  excess : Int
  done : List Nat
  classes : List Nat
deriving DecidableEq, Repr

/-- Fields the governor steers: powered, of a partition that is not quiescent (R76, R79). -/
def State.governed (s : State) (f : Nat) : Bool :=
  decide (s.rd SYS_FSTAT.OFF f = 0) && (s.partOf f).any fun p => [stAdmitted, stRunning, stSafe].contains (s.pst p)

/-- Priority class of a field (R44). -/
def State.govClass (s : State) (f : Nat) : Nat := ((s.partOf f).map fun p => min 3 (s.rd PAR_STATE.MODE p + 1)).getD 1

/-- A supply lowered by one step, not below the floor. -/
def State.lowerMv (s : State) (f : Nat) : State := s.wr SYS_FPACE.MV f (max s.floorMv (s.rd SYS_FPACE.MV f - 10))

/-- The thermal rules for one field: its measurements, CRIT and THROTTLED. Fields that had their step are collected. -/
def thermal (a : State × List Nat) (x : Nat × FieldMeas) : State × List Nat :=
  let s := a.1
  let f := x.1
  let s := (((s.wr SYS_FPACE.PACE f x.2.pace).wr SYS_FTEMP.JUNCTION f (min 255 x.2.junction)).tally 1 f 0x16 x.2.pace).tally 1 f 0x17 1
  if s.rd SYS_THERM.CRIT 0 ≤ x.2.junction then
    (((s.wr SYS_FPACE.MV f (min (s.rd SYS_FPACE.MV f) s.floorMv)).wr SYS_FTEMP.CRIT f 1).wr SYS_FTEMP.THROTTLED f 0, f :: a.2)
  else if s.rd SYS_THERM.THROTTLE 0 ≤ x.2.junction then (((s.lowerMv f).wr SYS_FTEMP.THROTTLED f 1).tally 1 f 0x18 1, f :: a.2)
  else (s.wr SYS_FTEMP.THROTTLED f 0, a.2)

/-- The power cap for one field of a class. -/
def capStep (c : Nat) (a : State × GovRun) (x : Nat × FieldMeas) : State × GovRun :=
  let s := a.1
  let g := a.2
  if g.excess ≤ 0 ∨ g.done.contains x.1 ∨ s.rd SYS_FPACE.MV x.1 ≤ s.floorMv then a
  else (s.lowerMv x.1, ⟨g.excess - x.2.saving, x.1 :: g.done, if g.classes.contains c then g.classes else c :: g.classes⟩)

/-- The power cap over a class: fields in the order of their surplus over target, ties by the lower ID. -/
def capClass (ms : List (Nat × FieldMeas)) (a : State × GovRun) (c : Nat) : State × GovRun :=
  let s := a.1
  let sur := fun (x : Nat × FieldMeas) => (x.2.pace : Int) - (s.rd SYS_FTGT.TARGET x.1 : Int)
  (sortBy (fun x y => decide (sur y < sur x) || (decide (sur y = sur x) && decide (x.1 ≤ y.1))) (ms.filter fun x => decide (s.govClass x.1 = c))).foldl
    (capStep c) a

/-- The pace band for one field. -/
def State.band (s : State) (g : GovRun) (x : Nat × FieldMeas) : State :=
  let f := x.1
  let b := s.rd SYS_PACE_CTL.BAND 0
  let t := s.rd SYS_FTGT.TARGET f
  if g.done.contains f then s
  else if x.2.pace + b < t then
    (if g.classes.contains (s.govClass f) then s else s.wr SYS_FPACE.MV f (max (s.rd SYS_FPACE.MV f) (min 900 (s.rd SYS_FPACE.MV f + 10))))
  else if t + b < x.2.pace then s.lowerMv f
  else s

/-- Since when a field stands at CRIT at its floor (R55) and outside its operating range (R42, R56). -/
def State.watchField (s : State) (x : Nat × FieldMeas) : State :=
  let f := x.1
  let mv := s.rd SYS_FPACE.MV f
  let hot := decide (s.rd SYS_THERM.CRIT 0 ≤ x.2.junction) && decide (mv ≤ s.floorMv)
  let out := decide (mv < 680) || decide (900 < mv) || decide (105 < x.2.junction)
  let s := s.on out fun s => s.wr SYS_FTEMP.RANGE f 1
  let keep := fun (b : Bool) (old : Nat) => if b then (if old = 0 then s.now + 1 else old) else 0
  s.onWafer fun w => { w with
    crit := Store.set 0 w.crit f (keep hot (Store.get 0 w.crit f))
    range := Store.set 0 w.range f (keep out (Store.get 0 w.range f)) }

/-- GOVERNOR_PERIOD (R44-R47, R57): the carrier's and the sentinels' measurements of a period, one record for each field. -/
def execGovernorPeriod (ms : List FieldMeas) (watts : Nat) (s : State) : Host.Outcome State Fault Refusal :=
  .next (if s.rd SYS_BOOT_STAT.PHASE 0 < 6 then s
    else
      let s := s.reach s.wafer.govAt
      let all := (ms.take 64).zipIdx.map fun x => (x.2, x.1)
      let on := all.filter fun x => decide (s.rd SYS_FSTAT.OFF x.1 = 0)
      let low := on.filter fun x => decide (x.2.pace < 400) && decide (s.rd SYS_FPACE.MV x.1 = 900)
      let a := on.foldl thermal (s.wr SYS_PWR_NOW.WATTS 0 (min 0xFFFF watts), [])
      let s := a.1
      let steer := on.filter fun x => s.governed x.1
      let s := if s.rd SYS_PACE_CTL.GOV_EN 0 = 0 then s
        else
          let r := [1, 2, 3].foldl (capClass steer) (s, ⟨(watts : Int) - (s.rd SYS_PWR_CAP.WATTS 0 : Int), a.2, []⟩)
          let s := r.1.each steer fun s x => s.band r.2 x
          if r.2.classes.isEmpty then s else s.tally 3 0 0 1
      let s := s.each on fun s x => s.watchField x
      let s := s.each low fun s x => (s.log ⟨0x00, 0x16, x.1, 0xFE, 0, (s.partOf x.1).toList, 4, x.2.pace⟩).tellDevice
      (s.onWafer fun w => { w with govAt := s.now + s.rd SYS_PACE_CTL.PERIOD 0 * 10000 }).alertCheck)

/-! ### Thermal and range faults (R55, R56) -/

/-- THERM_SHUTDOWN (R55): a field at or above CRIT for 10 ms at its floor. -/
def execThermShutdown (f : FieldId) (s : State) : Host.Outcome State Fault Refusal :=
  .next (match Store.get 0 s.wafer.crit f.val with
    | 0 => s
    | t + 1 =>
      let s := (s.reach (t + 10000000)).onWafer fun w => { w with crit := Store.set 0 w.crit f.val 0, range := Store.set 0 w.range f.val 0 }
      ((s.log ⟨0x00, 0x15, f.val, 0xFE, 0, (s.partOf f.val).toList, 5, s.rd SYS_FTEMP.JUNCTION f.val⟩).tellDevice).fieldOff f.val 6)

/-- PACE_RANGE (R56): a field of a guarded partition has been outside its operating range for 100 µs. -/
def execPaceRange (p : Part) (s : State) : Host.Outcome State Fault Refusal :=
  .next (
    let ts := (s.fieldsOf p.val).filterMap fun f => match Store.get 0 s.wafer.range f with
      | 0 => none
      | t + 1 => some (t, f)
    match ts with
    | [] => s
    | x :: r =>
      if !(s.guarded p.val && s.running p.val) then s
      else
        let y := r.foldl (fun a b => if b.1 < a.1 then b else a) x
        let s := s.reach (y.1 + 100000)
        (s.log ⟨0x00, 0x17, y.2, 0xFE, 0, [p.val], 6, y.2⟩).enterSafe p.val 5 true)

/-! ### The timebase (R48-R51, R54) -/

/-- TB_BROADCAST (R49): each leaf is compared with the broadcast count; one that is off by more than 8 tk reloads. -/
def execTbBroadcast (errs : List (Fin 92 × Int)) (s : State) : Host.Outcome State Fault Refusal :=
  .next (
    let s := s.reach ((s.now / 4096 + 1) * 4096)
    s.each errs fun s e =>
      if 8 < e.2.natAbs then
        let s := s.onWafer fun w => { w with leaf := Store.set 0 w.leaf e.1.val 0 }
        ((s.log ⟨0x00, 0x14, if e.1.val < 64 then e.1.val else 0xFF, 0xFF, 0, [], 4, e.1.val⟩).tally 3 0 3 1).tellDevice
      else s.onWafer fun w => { w with leaf := Store.set 0 w.leaf e.1.val e.2 })

/-- TB_WRAP (R48): the 64-bit count wraps. -/
def execTbWrap (s : State) : Host.Outcome State Fault Refusal :=
  .next (s.reach ((s.now / 2 ^ 64 + 1) * 2 ^ 64))

/-- Whether a requester writes device-scope registers: PF0, or the management interface where SEC_CTL.MGMT_WR allows (R58, R535). -/
def State.devWriter (s : State) (r : Req) : Bool :=
  match r with
  | .host x pf => decide (pf.val = 0) && s.fnOn x.val 0
  | .mgmt => decide (s.rd SEC_CTL.MGMT_WR 0 = 1)
  | .jtag => false

/-- TB_TRIM_WRITE (R50, R23): discarded and logged while the timebase follows another wafer. -/
def execTbTrimWrite (r : Req) (data : BitVec 32) (s : State) : Host.Outcome State Fault Refusal :=
  .next (if !s.devWriter r then s
    else if 100000 < data.toInt.natAbs then s.logAccess 3 [] 0x10C
    else if s.rd SYS_TB_STAT.FOLLOW 0 = 1 then s.logAccess 4 [] 0x10C
    else s.wr SYS_TB_TRIM.PPB 0 data.toNat)

/-- PPS_EDGE (R51). -/
def execPpsEdge (s : State) : Host.Outcome State Fault Refusal :=
  .next (match s.wafer.pps with
    | some t => if s.now < t + 900000000 then s.wr SYS_TB_PPS_SEQ.GLITCH 0 1
      else ((s.wr SYS_TB_PPS.CAPTURE 0 s.now).inc SYS_TB_PPS_SEQ.COUNT 0).onWafer fun w => { w with pps := some s.now }
    | none => ((s.wr SYS_TB_PPS.CAPTURE 0 s.now).inc SYS_TB_PPS_SEQ.COUNT 0).onWafer fun w => { w with pps := some s.now })

/-- PPS_MISSED (R51): 1.1 s have passed since the last edge. -/
def execPpsMissed (s : State) : Host.Outcome State Fault Refusal :=
  .next (match s.wafer.pps with
    | some t => (s.reach (t + 1100000000)).wr SYS_TB_PPS_SEQ.MISSED 0 1
    | none => s)

/-- Entry into holdover (R54). -/
def State.holdover (s : State) : State :=
  if s.rd SYS_TB_STAT.HOLDOVER 0 = 1 then s
  else (((s.wr SYS_TB_STAT.HOLDOVER 0 1).wr SYS_TB_STAT.REF_BAD 0 1).log ⟨0x00, 0x13, 0x71, 0xFF, 0, [], 4, 0⟩).tellDevice

/-- TB_REF_LOSS (R54). -/
def execTbRefLoss (s : State) : Host.Outcome State Fault Refusal := .next (if s.wafer.running then s.holdover else s)

/-- TB_RELOCK (R54): HOLDOVER clears; REF_BAD stays. -/
def execTbRelock (s : State) : Host.Outcome State Fault Refusal := .next (s.wr SYS_TB_STAT.HOLDOVER 0 0)

/-! ### Link groups (R52, R53) -/

/-- FLIT_CRC_ERROR (R52): the flit is sent again; the third error of a group within 1 ms fails it. -/
def execFlitCrcError (x : Crossing) (g : Fin 10) (s : State) : Host.Outcome State Fault Refusal :=
  .next (if !bit (s.rd SYS_XING.USED x.val) g.val then s
    else
      let k := x.val * 10 + g.val
      let l := ((Store.get [] s.wafer.crc k).filter fun t => decide (s.now < t + 1000000)) ++ [s.now]
      let s := s.tally 3 0 2 1
      if 3 ≤ l.length then (s.onWafer fun w => { w with crc := Store.set [] w.crc k [] }).groupFail x.val g.val
      else s.onWafer fun w => { w with crc := Store.set [] w.crc k l })

/-- LINK_GROUP_TIMEOUT (R52): a handshake on the group has gone unacknowledged for 1 µs. -/
def execLinkGroupTimeout (x : Crossing) (g : Fin 10) (s : State) : Host.Outcome State Fault Refusal := .next (s.groupFail x.val g.val)

/-- SWAP_PAUSE_END (R52, R466): XING_SWAP with the ticks of the pause; guarded partitions with an open frame count it. -/
def execSwapPauseEnd (x : Crossing) (s : State) : Host.Outcome State Fault Refusal :=
  .next (match Store.get 0 s.wafer.swap x.val with
    | 0 => s
    | t + 1 =>
      let s := s.onWafer fun w => { w with swap := Store.set 0 w.swap x.val 0 }
      let s := ((s.log ⟨0x00, 0x10, 0xFF, 0xFF, 0, s.xingParts x.val, 4, Config.detail [x.val, t, s.now]⟩).tally 3 0 1 1).tellDevice
      s.each [0, 1, 2, 3] fun s p =>
        if s.guarded p ∧ s.frames p ≠ [] then (s.log ⟨0x0A, 0x88, 0x70, 0xC0 + p, 0, [p], 4, x.val⟩).event GRD_TEVT.SWAP p p else s)

end Sys2Proof.Machine
end

