-- ==== Sys2Proof/Machine/Startup.lean ====
section
/-! DEFINITION. Start-up (16_image_startup.md R394, R405-R416, R418): device reset, the phases, slot selection and fallback,
loading. Each phase command ends the phase in progress; out of its phase it changes nothing. -/

namespace Sys2Proof.Machine

/-! ### Device reset (R418, R564) -/

/-- PWR_GOOD (R418, R562): device reset; the address strap is sampled (R537). `cold` where power had been lost. -/
def execPwrGood (cold : Bool) (maddr : Fin 4) (s : State) : Host.Outcome State Fault Refusal :=
  .next ((if cold then s.powerLoss else s.deviceReset).onSide fun y => { y with maddr := maddr.val })

/-- PWR_GOOD_LOW (R564): a low level of at least 1 µs. -/
def execPwrGoodLow (s : State) : Host.Outcome State Fault Refusal := .next s.deviceReset

/-- SYS_RESET (R418): 0x0000_D5E7 written through PF0. -/
def execSysReset (r : Req) (s : State) : Host.Outcome State Fault Refusal :=
  .next (if s.devWriter r then s.deviceReset else s)

/-! ### Phases (R405) -/

/-- The phase in progress. -/
def State.phase (s : State) : Nat := s.rd SYS_BOOT_STAT.PHASE 0

/-- A phase ends: its end tick is recorded, and the next one is in progress. -/
def State.endPhase (s : State) (k : Nat) : State := (s.wr SYS_BOOT_PH.TICK k s.now).wr SYS_BOOT_STAT.PHASE 0 (k + 1)

/-- Whether start-up is in a phase and has not ended. -/
def State.inPhase (s : State) (k : Nat) : Bool :=
  s.wafer.running && decide (s.phase = k) && decide (s.rd SYS_BOOT_STAT.FAILED 0 = 0) && decide (s.rd SYS_BOOT_STAT.DONE 0 = 0)

/-- TB_LOCK (R405, R48, R49): the master counter starts, the leaves are calibrated. -/
def execTbLock (s : State) : Host.Outcome State Fault Refusal :=
  .next (if s.wafer.running ∨ s.phase ≠ 0 then s
    else (s.onWafer fun w => { w with running := true, leaf := [] }).endPhase 0)

/-- TB_LOCK_TIMEOUT (R406): the timebase starts in holdover. -/
def execTbLockTimeout (s : State) : Host.Outcome State Fault Refusal :=
  .next (if s.wafer.running ∨ s.phase ≠ 0 then s
    else (s.onWafer fun w => { w with running := true, leaf := [] }).holdover.endPhase 0)

/-- SECMON (R372): the self-tests pass and the DRBG has drawn the debug nonce, or ERROR, which start-up does not pass. Zeroized
keys cannot be reconstructed (R389). -/
def execSecmon (ok : Bool) (s : State) : Host.Outcome State Fault Refusal :=
  .next (if !s.inPhase 1 ∨ s.rd SEC_STAT.ERROR 0 = 1 ∨ s.rd SEC_STAT.ZEROIZED 0 = 1 then s
    else if !ok then s.wr SEC_STAT.ERROR 0 1
    else
      let s := ((s.wr SEC_STAT.KAT_OK 0 1).wr SEC_STAT.READY 0 1).wr SEC_DBG_NONCE.NONCE 0 (Config.drbg s.fresh)
      ((s.onSec fun c => { c with used := false }).used).endPhase 1)

/-- XING (R38): the lowest-numbered eight groups that pass carry traffic; others that pass are spares. -/
def execXing (fails : List (Crossing × BitVec 10)) (s : State) : Host.Outcome State Fault Refusal :=
  .next (if !s.inPhase 2 then s
    else
      let s := s.each (List.range 140) fun s x =>
        let bad := ((fails.find? fun e => e.1.val = x).map fun e => e.2.toNat).getD 0
        let good := (List.range 10).filter fun g => !bit bad g
        let used := ((good.take 8).map (2 ^ ·)).sum
        let s := ((s.wr SYS_XING.USED x used).wr SYS_XING.FAILED x bad).wr SYS_XING.SPARES x (good.length - 8)
        let s := s.wr SYS_XING.DEGRADED x (boolNat (decide (good.length < 8)))
        if good.isEmpty then s.loseXing x
        else if good.length < 8 then (s.log ⟨0x00, 0x11, 0xFF, 0xFF, 0, [], 4, x⟩).tellDevice
        else s
      s.endPhase 2)

/-- MEMORY (R406): supplies at 0.80 V but for regulators that are off (R561); fields and towers that fail their tests. -/
def execMemory (badF : BitVec 64) (badT : BitVec 256) (s : State) : Host.Outcome State Fault Refusal :=
  .next (if !s.inPhase 3 then s
    else
      let s := s.each (List.range 64) fun s f =>
        if Store.get false s.wafer.latched f then ((s.wr SYS_FSTAT.OFF f 1).wr SYS_FPACE.MV f 0).failField f 4
        else s.wr SYS_FPACE.MV f 800
      let s := s.each (List.range 256) fun s t => if bit badT.toNat t then s.failTower (t / 4) (t % 4) 2 else s
      let s := s.each (List.range 64) fun s f => if bit badF.toNat f ∨ (s.towers f).isEmpty then s.failField f 2 else s
      s.endPhase 3)

/-! ### Neighbour testing (R407-R409) -/

/-- The field and physical core of a tester: direction 0 west, 1 east, 2 north, 3 south (R407). -/
def testerOf (f c d : Nat) : Nat × Nat :=
  let x := c % 16
  let y := c / 16
  let col := f % 8
  let row := f / 8
  let ns := if row = 7 then (f - 8, c) else (f + 8, c)
  let we := if col = 7 then (f - 1, c) else (f + 1, c)
  match d with
  | 0 => if 0 < x then (f, c - 1) else if 0 < col then (f - 1, y * 16 + 15) else ns
  | 1 => if x < 15 then (f, c + 1) else if col < 7 then (f + 1, y * 16) else ns
  | 2 => if 0 < y then (f, c - 16) else if 0 < row then (f - 8, 144 + x) else we
  | _ => if y < 9 then (f, c + 16) else if row < 7 then (f + 8, x) else we

/-- Whether a list of FAIL verdicts holds one. -/
def failedBy (l : List (FieldId × Fin 160 × Fin 4)) (f c d : Nat) : Bool := l.any fun e => decide (e.1.val = f) && decide (e.2.1.val = c) && decide (e.2.2.val = d)

/-- Judged failed after round 1: at least 3 of 4 testers failed it. -/
def judgedFailed (r1 : List (FieldId × Fin 160 × Fin 4)) (f c : Nat) : Bool :=
  decide (3 ≤ ((List.range 4).filter (failedBy r1 f c)).length)

/-- Mapped out by R408 step 3. -/
def mappedOut (r1 r2 : List (FieldId × Fin 160 × Fin 4)) (f c : Nat) : Bool :=
  let valid := (List.range 4).filter fun d => !judgedFailed r1 (testerOf f c d).1 (testerOf f c d).2
  let bad := (valid.filter (failedBy r2 f c)).length
  decide (2 ≤ bad) || (decide (valid.length = 1) && decide (bad = 1)) || valid.isEmpty

/-- NTEST (R408, R409): the FAIL verdicts of both rounds, each entered in the fault log with its tester. -/
def execNtest (r1 : List (FieldId × Fin 160 × Fin 4)) (r2 : List (FieldId × Fin 160 × Fin 4)) (s : State) : Host.Outcome State Fault Refusal :=
  .next (if !s.inPhase 4 then s
    else
      let s := s.each (r1 ++ r2) fun s e =>
        let t := testerOf e.1.val e.2.1.val e.2.2.val
        s.log ⟨0x00, 0x40, e.1.val, e.2.1.val, 0, [], 5, 2 + 256 * Config.detail [e.1.val, e.2.1.val, t.1, t.2]⟩
      let s := s.onWafer fun w => { w with bad := (List.range (64 * 160)).foldl (fun m i => Store.set false m i (mappedOut r1 r2 (i / 160) (i % 160))) [] }
      s.endPhase 4)

/-- MAP (R33, R34, R44): 152 good cores of each field in ascending order; the governor starts. -/
def execMap (s : State) : Host.Outcome State Fault Refusal :=
  .next (if !s.inPhase 5 then s
    else
      let s := s.each (List.range 64) fun s f =>
        let good := (List.range 160).filter fun y => !Store.get false s.wafer.bad (f * 160 + y)
        let s := (s.wr SYS_FSTAT.GOOD f good.length).wr SYS_FSTAT.SPARES f (good.length - 152)
        let s := s.onWafer fun w => { w with cmap := (good.take 152).zipIdx.foldl (fun m x => Store.set 0 m (coreKey f x.2) (x.1 + 1)) w.cmap }
        if good.length < 152 then (s.wr SYS_FSTAT.SHORT f 1).failField f 5 else s
      (s.onWafer fun w => { w with govAt := s.now + s.rd SYS_PACE_CTL.PERIOD 0 * 10000 }).endPhase 5)

/-! ### Slot selection and fallback (R410-R413) -/

/-- The capacity of a slot's device. -/
def State.cap (s : State) (slot : Nat) : Nat := Store.get 0 s.boot.caps slot

/-- Whether a slot is a candidate that has not been refused: its device answers, and MAGIC is right. -/
def State.candidate (s : State) (slot : Nat) : Bool :=
  decide (s.cap slot ≠ 0) && decide (num (s.nvm slot 0 4) 0 4 = 0x5A48564E) && !s.boot.refused.contains slot

/-- IMAGE_SEQ of a slot. -/
def State.imageSeq (s : State) (slot : Nat) : Nat := num (s.nvm slot 8 8) 0 8

/-- The candidate tried next: the one that FORCE names, else the higher IMAGE_SEQ, slot A on a tie. -/
def State.nextSlot (s : State) : Option Nat :=
  let force := s.rd SYS_BOOT_NEXT.FORCE 0
  match s.candidate 0, s.candidate 1 with
  | true, true => if force = 2 ∨ (force ≠ 1 ∧ s.imageSeq 0 < s.imageSeq 1) then some 1 else some 0
  | true, false => some 0
  | false, true => some 1
  | false, false => none

/-- The cause of a slot's refusal. -/
def causeField (slot : Nat) : Field := if slot = 0 then SYS_BOOT_STAT.CAUSE_A else SYS_BOOT_STAT.CAUSE_B

/-- Start-up ends FAILED (R413). -/
def State.bootFailed (s : State) : State :=
  let s := (s.wr SYS_BOOT_STAT.FAILED 0 1).wr SYS_BOOT_STAT.FALLBACK 0 0
  let s := (s.log ⟨0x00, 0x21, 0x71, 0xFF, 0, [], 7, s.rd SYS_BOOT_STAT.CAUSE_A 0 + 16 * s.rd SYS_BOOT_STAT.CAUSE_B 0⟩).wr SBM_ALERT_SRC.BOOT 0 1
  s.tellDevice

/-- A slot refused (R410-R412): cause, fault log; with no candidate left start-up has FAILED, else the next is tried from phase 6. -/
def State.refuseSlot (s : State) (slot cause : Nat) : State :=
  let s := (s.wr (causeField slot) 0 cause).onBoot fun b => { b with refused := slot :: b.refused, slot := 0 }
  let s := if 3 ≤ cause ∧ cause ≤ 7 then (s.wr SEC_IMG.CODE 0 (cause - 2)).log ⟨0x0B, cause - 2, 0x71, 0xFF, 0, [], 7, slot⟩ else s
  let s := (s.log ⟨0x00, 0x22, 0x71, 0xFF, 0, [], 7, cause⟩).wr SYS_BOOT_STAT.PHASE 0 6
  if s.nextSlot.isNone then s.bootFailed else s.wr SYS_BOOT_STAT.FALLBACK 0 1

/-- A candidate's header, signature block and checks 1 to 4: 0, or the cause of its refusal. -/
def State.headCause (s : State) (slot : Nat) : Nat :=
  if !headOk (s.nvm slot 0 128) (s.nvm slot 128 256) (s.cap slot) then 2
  else match s.sigCheck slot with
    | 0 => 0
    | k + 1 => k + 3

/-- Candidates tried in order until one passes checks 1 to 4. -/
def State.trySlots : Nat → State → State
  | 0, s => s
  | k + 1, s => match s.nextSlot with
    | none => if s.rd SYS_BOOT_STAT.FAILED 0 = 1 then s else s.bootFailed
    | some x =>
      let s := s.wr SYS_BOOT_NEXT.FORCE 0 0
      match s.headCause x with
      | 0 => (s.onBoot fun b => { b with slot := x + 1 }).endPhase 6
      | c => State.trySlots k (s.refuseSlot x c)

/-- What SFDP of a device answers: its read mode (0: no answer) and capacity; a device still busy after 3 s is no candidate
(R394, R512). -/
def State.device (s : State) (slot mode cap : Nat) (busy : Bool) (fld : Field) : State :=
  let s := s.wr fld 0 (if busy then 0 else mode)
  let s := s.onBoot fun b => { b with caps := Store.set 0 b.caps slot (if busy ∨ mode = 0 then 0 else cap) }
  if s.boot.refused.contains slot then s
  else if s.rd (causeField slot) 0 ≠ 0 then s
  else if busy then (s.wr (causeField slot) 0 10).log ⟨0x00, 0x22, 0x71, 0xFF, 0, [], 7, 10⟩
  else if s.candidate slot then s
  else (s.wr (causeField slot) 0 1).log ⟨0x00, 0x22, 0x71, 0xFF, 0, [], 7, 1⟩

/-- SELECT (R410). -/
def execSelect (modeA : Fin 4) (modeB : Fin 4) (capA : BitVec 32) (capB : BitVec 32) (busyA : Bool) (busyB : Bool) (s : State) :
    Host.Outcome State Fault Refusal :=
  .next (if !s.inPhase 6 ∨ s.rd SEC_STAT.ERROR 0 = 1 then s
    else
      let s := s.device 0 modeA.val capA.toNat busyA SYS_BOOT_STAT.MODE_A
      State.trySlots 3 (s.device 1 modeB.val capB.toNat busyB SYS_BOOT_STAT.MODE_B))

/-- VERIFY (R411): the verification pass of the slot being tried. -/
def execVerify (s : State) : Host.Outcome State Fault Refusal :=
  .next (if !s.inPhase 7 then s
    else match s.boot.slot with
      | 0 => s
      | x + 1 => match s.verifyCause x with
        | 0 => s.endPhase 7
        | c => s.refuseSlot x c)

/-! ### DEVICE (R405 phase 8, R412) -/

/-- An ownership register set from a list of owners. -/
def State.putOwners (s : State) (fs : List (Field × Field)) (l : List (Option Nat)) : State :=
  s.each (fs.zip l) fun s x => match x.2 with
    | some p => (s.wr x.1.1 0 1).wr x.1.2 0 p
    | none => (s.wr x.1.1 0 0).wr x.1.2 0 0

/-- Volumes of a partition whose share binding differs from the present layout become UNBOUND; one that was LOADING or FREEING
at the reset is FREE (R125, R130). -/
def State.bindVols (s : State) (p : Nat) : State :=
  let now := ((s.shareDies p).map (2 ^ ·)).sum
  let lost := fun (v : Vol) => decide (v.st = 2) && decide (v.dies ≠ now)
  let any := s.repo.vols.any fun e => decide (e.1 / 256 = p) && lost e.2
  let s := s.onRepo fun r => { r with vols := Store.mapAll vol0 (fun k v =>
    if k / 256 ≠ p then v else if v.st = 1 ∨ v.st = 3 then vol0 else if lost v then { v with st := 4 } else v) r.vols }
  if any then (s.log ⟨0x04, 0x84, 0xFF, 0xFF, 0, [p], 4, now⟩).event REPO_EVT.UNBOUND p p else s

/-- A pin of the PINS record: function and weak pull (R534). -/
def State.putPin (s : State) (n : Nat) (x : PinRec) : State :=
  ((s.wr SBM_PIN_CFG.FUNC n x.func).wr SBM_PIN_CFG.PULL n x.pull).takePin n

/-- A port of the PORTS record: UNUSED, or it begins to train (R314, R320). -/
def State.putPort (s : State) (n : Nat) (x : PortRec) : State :=
  if x.peer.isNone then s.wr TJL_PORT.STATE n 6
  else if Store.get false s.wafer.edges (18 + n) then s.wr TJL_PORT.STATE n 4
  else (s.wr TJL_PORT.STATE n 1).setLport n { s.lport n with began := s.now }

/-- The device section applied. -/
def State.applyDevice (s : State) (slot : Nat) (d : DevSect) : State :=
  let s := { s with parts := { s.parts with dev := some d } }
  let c := fun i => d.cols.getD i 0
  let s := (((s.wr PAR_LAYOUT.COL_P0 0 (c 0)).wr PAR_LAYOUT.COL_P1 0 (c 1)).wr PAR_LAYOUT.COL_P2 0 (c 2)).wr PAR_LAYOUT.COL_P3 0 (c 3)
  let s := (s.putOwners fdOwn d.flash).putOwners ldOwn d.links
  let s := (s.each d.devset fun s x => s.setting (List.range 64) x).forced
  let s := ((s.wr TJL_CLUSTER.ID 0 d.cluster).wr TJL_ID.WAFER 0 d.wafer).wr TJL_ID.MASTER 0 (boolNat (decide (d.master = d.wafer)))
  let s := s.wr SYS_TB_STAT.FOLLOW 0 (boolNat (decide (d.master ≠ d.wafer)))
  let s := s.each (d.pins.zipIdx.take 16) fun s x => s.putPin x.2 x.1
  let s := s.each (d.ports.zipIdx.take 8) fun s x => s.putPort x.2 x.1
  let s := s.each ((List.range 64).filter fun f => (s.partOf f).isNone && decide (s.rd SYS_FSTAT.OFF f = 0)) fun s f => s.wr SYS_FPACE.MV f s.floorMv
  let s := s.each ((List.range 4).filter fun p => (s.shareDies p).isEmpty) fun s p => s.bindVols p
  let s := s.onBoot fun b => { b with table := s.table slot, deviceAt := s.now }
  ((s.wr SYS_BOOT_STAT.SLOT 0 (slot + 1)).wr SYS_IMG_ID.SEQ 0 (s.imageSeq slot)).wr SEC_IMG.SLOT 0 (num (s.nvm slot 128 1) 0 1)

/-- DEVICE (R405, R412): the device section read and checked again, and applied; phases 9 and 10 begin. -/
def execDevice (s : State) : Host.Outcome State Fault Refusal :=
  .next (if !s.inPhase 8 then s
    else match s.boot.slot with
      | 0 => s
      | x + 1 => match (s.table x).find? fun e => decide (e.typ = 1) with
        | none => s.refuseSlot x 2
        | some e =>
          if !s.digestOk x e then s.refuseSlot x 7
          else match devSection (s.nvm x e.off e.len) with
            | .inl c => s.refuseSlot x c
            | .inr d => ((s.applyDevice x d).endPhase 8).wr SYS_BOOT_STAT.PHASE 0 10)

/-! ### FLASH (R112, R113, R130, R133, R134) -/

/-- Whether phase 9 has ended for every owned flash die. -/
def State.flashAll (s : State) : Bool := (List.range 16).all fun d => (s.flashOwner d).isNone || Store.get false s.boot.flash d

/-- The channels of a die at its start: untrained FAILED; empty, or FAILED before the reset, REBUILD. -/
def State.startChans (s : State) (d trained empty : Nat) (targets : List (BitVec 8)) : State :=
  s.each (List.range 16) fun s k =>
    let c := d * 16 + k
    let st := if !bit trained k then 2 else if bit empty k || s.repo.failed.contains c then 3 else 0
    (s.wr REPO_CH.STATE c st).wr REPO_CH.TARGETS c ((targets.getD k 0).toNat)

/-- What follows the channels: the die's state, its log entry where a channel is not OK. -/
def State.startDie (s : State) (d : Nat) (mirrors : Nat) : State :=
  let bad := (List.range 16).filter fun k => decide (s.rd REPO_CH.STATE (d * 16 + k) = 2)
  let s := s.each bad fun s k => (s.logChan (d * 16 + k) 0x80 4).flashEvent REPO_EVT.CH_FAILED d
  if mirrors = 0 then
    let s := (s.dieState d).wr REPO_DIE.STATE d 2
    (s.log ⟨0x04, 0x81, flashDie d, 0xFE, 0, (s.flashOwner d).toList, 5, 0⟩).flashEvent REPO_EVT.DIE_FAILED d
  else s.dieState d

/-- The end of phase 9 for a die: volumes bound once the share's last die has ended, the phase's end tick. -/
def State.endFlash (s : State) (d : Nat) : State :=
  let s := s.onBoot fun b => { b with flash := Store.set false b.flash d true }
  let s := match s.flashOwner d with
    | some p => if (List.range 16).all fun e => decide (s.flashOwner e ≠ some p) || Store.get false s.boot.flash e then s.bindVols p else s
    | none => s
  if s.flashAll ∧ s.rd SYS_BOOT_PH.TICK 9 = 0 then
    (s.wr SYS_BOOT_PH.TICK 9 s.now).on (decide (s.phase = 9)) fun s => s.wr SYS_BOOT_STAT.PHASE 0 12
  else s

/-- FLASH (R405 phase 9): a die with a target that does not meet R112 is ABSENT. -/
def execFlash (d : FlashDie) (good : Bool) (trained : BitVec 16) (empty : BitVec 16) (mirrors : BitVec 2) (mts : BitVec 12) (targets : List (BitVec 8))
    (pages : BitVec 14) (segments : BitVec 18) (s : State) : Host.Outcome State Fault Refusal :=
  .next (
    let d := d.val
    if s.phase < 9 ∨ s.rd SYS_BOOT_STAT.FAILED 0 = 1 ∨ s.rd SYS_BOOT_STAT.DONE 0 = 1 ∨ Store.get false s.boot.flash d then s
    else if s.edgeDead (2 + d) then s.endFlash d
    else if !good ∨ pages.toNat < 1024 ∨ 8192 < pages.toNat ∨ 131072 < segments.toNat then
      ((s.each (List.range 16) fun s k => s.wr REPO_CH.STATE (d * 16 + k) 4).wr REPO_DIE.STATE d 3).endFlash d
    else
      let s := s.onRepo fun r => { r with segPages := Store.set 0 r.segPages d pages.toNat, segCount := Store.set 0 r.segCount d segments.toNat }
      (((s.wr REPO_DIE.MTS d (min 2400 mts.toNat)).startChans d trained.toNat empty.toNat targets).startDie d mirrors.toNat).endFlash d)

/-! ### LOAD (R412, R415, R80, R484) -/

/-- The partitions that the layout forms. -/
def State.formed (s : State) : List Nat := (List.range 4).filter fun p => decide (s.cols p ≠ 0)

/-- A section load at device start begins: OFF to LOADING, in order P0-P3; none while the Security Monitor is in ERROR (R372). -/
def State.firstLoad (s : State) (p : Nat) : Bool :=
  s.inPhase 10 && decide (s.rd SEC_STAT.ERROR 0 ≠ 1) && decide (s.pst p = stOff) && decide (s.cols p ≠ 0) && !s.boot.loads.contains p &&
  ((List.range p).all fun q => decide (s.cols q = 0) || s.boot.loads.contains q)

/-- The kept entry of the section table for a partition (R374). -/
def State.keptEntry (s : State) (p : Nat) : Option SectEnt := s.boot.table.find? fun e => decide (e.typ = 2) && decide (e.part = p)

/-- A section as read from the active slot, where its digest equals the kept entry; its length. -/
def State.readSection (s : State) (p : Nat) : Option (Section × SectEnt) :=
  match s.rd SYS_BOOT_STAT.SLOT 0, s.keptEntry p with
  | x + 1, some e => if s.digestOk x e then (sectionOf (s.nvm x e.off e.len)).map fun c => (c, e) else none
  | _, _ => none

/-- The section that a load gives: the copy of a guarded partition where its digest is right (R484), else the active slot's. -/
def State.loadSource (s : State) (p : Nat) (copyOk : Bool) : Option (Section × SectEnt) :=
  match Store.get none s.parts.copy p, s.keptEntry p with
  | some c, some e => if copyOk then some (c, e) else s.readSection p
  | _, _ => s.readSection p

/-- A load ends: the section verified and in place, or IMG_BAD (R402). -/
def State.endLoad (s : State) (p : Nat) (x : Option (Section × SectEnt)) : State :=
  match (if s.wafer.down ∨ s.rd SEC_STAT.ERROR 0 = 1 then none else x) with
  | none => s.stopPart p 7
  | some (c, e) =>
    if !s.sectionOk p e.len c then s.stopPart p 7
    else
      let s := { s with parts := { s.parts with sect := Store.set none s.parts.sect p (some c) } }
      (s.setPart p { s.part p with loaded := true, digest := e.digest }).initSteward p

/-- Phase 10 ends once every formed partition's load has. -/
def State.loadPhase (s : State) (p : Nat) : State :=
  let s := s.onBoot fun b => { b with loads := b.loads ++ [p] }
  if s.formed.all s.boot.loads.contains then s.endPhase 10 else s

/-- A partition's load at device start begins. -/
def State.beginLoad (s : State) (p : Nat) : State := ((s.wr PAR_STATE.STATE p stLoading).wr PAR_STATE.BUSY p 1).toFloor p

/-- LOAD (R412): at device start, or of a restart. -/
def execLoad (p : Part) (copyOk : Bool) (s : State) : Host.Outcome State Fault Refusal :=
  .next (
    let p := p.val
    if s.firstLoad p then
      let s := (s.beginLoad p).loadPhase p
      s.endLoad p (s.readSection p)
    else if s.pst p = stLoading ∧ ¬(s.part p).loaded then
      let s := if (Store.get none s.parts.copy p).isSome ∧ ¬copyOk then s.event PAR_RECOV_EVT.HW_ERROR p p else s
      s.endLoad p (s.loadSource p copyOk)
    else s)

/-- NVM_READ_TIMEOUT (R411, R412): the slot being tried is refused with NVM_ERR, or the partition being loaded is stopped. -/
def execNvmReadTimeout (p : Option Part) (s : State) : Host.Outcome State Fault Refusal :=
  .next (match p with
    | none =>
      if s.inPhase 6 then (match s.nextSlot with
        | some x => (s.wr SYS_BOOT_NEXT.FORCE 0 0).refuseSlot x 10
        | none => s)
      else if s.inPhase 7 ∨ s.inPhase 8 then (match s.boot.slot with
        | x + 1 => s.refuseSlot x 10
        | 0 => s)
      else s
    | some p =>
      if s.firstLoad p.val then ((s.beginLoad p.val).loadPhase p.val).endLoad p.val none
      else if s.pst p.val = stLoading ∧ ¬(s.part p.val).loaded then s.endLoad p.val none
      else s)

/-! ### COMPLETE (R416) -/

/-- The OTP requests of the header (R375): revocation of lower key slots, a raise of the security version counter. -/
def State.blowFuses (s : State) : State :=
  match s.rd SYS_BOOT_STAT.SLOT 0 with
  | 0 => s
  | x + 1 =>
    let h := s.nvm x 0 128
    let k := num (s.nvm x 128 1) 0 1
    let ok := s.formed.all fun p => decide (s.pst p = stAdmitted) || s.running p
    if !ok then s
    else
      let s := s.wr SEC_IMG.REVOKED 0 (s.rd SEC_IMG.REVOKED 0 ||| (num h 24 25 % 2 ^ k))
      if bit (num h 25 26) 0 then s.wr SEC_IMG.SVN 0 (max (s.rd SEC_IMG.SVN 0) (min 64 (num h 23 24))) else s

/-- COMPLETE (R416): DONE seals the device-scope RWL fields (R17). -/
def execComplete (s : State) : Host.Outcome State Fault Refusal :=
  .next (if !(s.inPhase 12 && s.flashAll && s.formed.all fun p => decide (stAdmitted ≤ s.pst p)) then s
    else
      let s := (s.wr SYS_BOOT_PH.TICK 12 s.now).blowFuses.wr SYS_BOOT_STAT.DONE 0 1
      ((s.log ⟨0x00, 0x20, 0x71, 0xFF, 0, [], 7, 0⟩).wr SBM_ALERT_SRC.BOOT 0 1).tellDevice)

end Sys2Proof.Machine
end

