-- ==== Sys2Proof/Machine/Nvm.lean ====
section
/-! DEFINITION. The slot update through PF0 (16_image_startup.md R417, 20_collisions.md R504, R511-R513), and the guard die's start
self-check (17_guard_checker.md R423). -/

namespace Sys2Proof.Machine

/-- SYS_NVM_STAT. -/
def State.nvmAnswer (s : State) (seq res : Nat) : State := (s.wr SYS_NVM_STAT.SEQ 0 seq).wr SYS_NVM_STAT.RESULT 0 res

/-- The slot and byte address that SYS_NVM_ADDR names. -/
def State.nvmSlot (s : State) : Nat := s.rd SYS_NVM_ADDR.SLOT 0
def State.nvmAddr (s : State) : Nat := s.rd SYS_NVM_ADDR.ADDR 0

/-- Why a command is not carried out: NOT_STEWARD, STARTING, ACTIVE, BAD_ADDR; 0 where it is (R417). -/
def State.nvmRefusal (s : State) (x op : Nat) : Nat :=
  let unit := if op = 1 then 65536 else 4096
  if (s.sem 4).holder ≠ x + 1 then 3
  else if s.rd SYS_BOOT_STAT.DONE 0 = 0 ∧ s.rd SYS_BOOT_STAT.FAILED 0 = 0 then 7
  else if op ≠ 3 ∧ s.nvmSlot ≠ 0 ∧ s.nvmSlot = s.rd SYS_BOOT_STAT.SLOT 0 then 4
  else if s.nvmSlot = 0 ∨ 3 ≤ s.nvmSlot ∨ s.nvmAddr % unit ≠ 0 ∨ s.cap (s.nvmSlot - 1) < s.nvmAddr + unit then 5
  else 0

/-- A command of SYS_NVM_CMD (R417, R361 with source (port, NVM)): queued behind those in progress, or answered at once. -/
def State.nvmCmd (s : State) (r : Req) (op seq : Nat) : State :=
  match r with
  | .host x 0 =>
    let x := x.val
    if !s.fnOn x 0 then s
    else if s.dupSeq (nvmSrc x) seq then (if s.rd SYS_NVM_STAT.SEQ 0 = seq then s else s.nvmAnswer seq 2)
    else
      let s := s.setSeq (nvmSrc x) seq
      match s.nvmRefusal x op with
      | 0 => (s.onBoot fun b => { b with cmd := b.cmd ++ [⟨op, s.nvmSlot - 1, s.nvmAddr, x, 0, seq⟩] }).nvmAnswer seq 1
      | k => (s.nvmAnswer seq k).vector x 0 2
  | .mgmt => if s.reqOn r then s.nvmAnswer seq 3 else s
  | _ => s

/-- NVM_ERASE (R417). -/
def execNvmErase (r : Req) (seq : BitVec 16) (s : State) : Host.Outcome State Fault Refusal := .next (s.nvmCmd r 1 seq.toNat)
/-- NVM_PROGRAM (R417). -/
def execNvmProgram (r : Req) (seq : BitVec 16) (s : State) : Host.Outcome State Fault Refusal := .next (s.nvmCmd r 2 seq.toNat)
/-- NVM_READ (R417). -/
def execNvmRead (r : Req) (seq : BitVec 16) (s : State) : Host.Outcome State Fault Refusal := .next (s.nvmCmd r 3 seq.toNat)

/-- Bytes of a slot written from an address. -/
def State.putNvm (s : State) (a : Nat) (l : List Nat) : State :=
  s.onBoot fun b => { b with bytes := l.zipIdx.foldl (fun m x => Store.set 255 m (a + x.2) x.1) b.bytes }

/-- The bytes of SYS_NVM_BUF. -/
def State.nvmBuf (s : State) : List Nat := (List.range 1024).flatMap fun i => bytesOf 4 (s.rd SYS_NVM_BUF.WORD i)

/-- What a command in progress does. -/
def State.runNvm (s : State) (c : NvmCmd) : State :=
  let a := c.slot * 2 ^ 29 + c.addr
  match c.op with
  | 1 => s.onBoot fun b => { b with bytes := b.bytes.filter fun e => !(decide (a ≤ e.1) && decide (e.1 < a + 65536)) }
  | 2 => s.putNvm a s.nvmBuf
  | _ => s.each (List.range 1024) fun s i => s.wr SYS_NVM_BUF.WORD i (ofBytes (s.nvm c.slot (c.addr + 4 * i) 4))

/-- NVM_CMD_DONE (R417): the command in progress ends; one that the device fails ends NVM_ERR, and what it was writing is
undefined. -/
def execNvmCmdDone (ok : Bool) (s : State) : Host.Outcome State Fault Refusal :=
  .next (match s.boot.cmd with
    | [] => s
    | c :: r =>
      let s := if ok then s.runNvm c else (s.onBoot fun b => { b with bytes := s.cutNvm }).used
      let s := s.onBoot fun b => { b with cmd := r }
      (if r.isEmpty && decide (s.rd SYS_NVM_STAT.SEQ 0 = c.seq) then s.wr SYS_NVM_STAT.RESULT 0 (if ok then 0 else 6) else s).vector c.port c.pf 2)

/-- CK_SELF_CHECK (R405, R423): the start self-check of a pair; a pair that fails is FAILED until the next device start. -/
def execCkSelfCheck (p : Part) (ok : Bool) (s : State) : Host.Outcome State Fault Refusal :=
  .next (if s.phase < 2 ∨ s.rd (ckField p.val) 0 ≠ 0 then s else s.wr (ckField p.val) 0 (if ok then 1 else 2))

end Sys2Proof.Machine
end

