-- ==== Sys2Proof/Machine/Tjl.lean ====
section
/-! DEFINITION. Thijolink's commands and events (13_thijolink.md): training and loss of ports, frames and their retry, tiles,
signals and resets that arrive, barrier trees, timebase alignment, RESUME. -/

namespace Sys2Proof.Machine

/-! ### Training (R320, R321, R342) -/

/-- The port record of the device section. -/
def State.portRec (s : State) (n : Nat) : Option PortRec := s.parts.dev.bind fun d => d.ports[n]?

/-- The widest group of lanes that holds only good ones (R342): lanes, WIDTH. -/
def laneGroup (good : Nat) : Option (Nat × Nat) :=
  ([(0xFFFF, 0), (0x00FF, 1), (0xFF00, 1), (0x000F, 2), (0x00F0, 2), (0x0F00, 2), (0xF000, 2)] : List (Nat × Nat)).find? fun g =>
    decide (good &&& g.1 = g.1)

/-- A port's lanes after an equalisation; NARROW where fewer than 16 carry traffic. -/
def State.setLanes (s : State) (n good : Nat) (g : Nat × Nat) : State :=
  let s := (s.wr TJL_PORT_LANES.GOOD n good).wr TJL_PORT_LANES.ACTIVE n g.1
  let s := (s.wr TJL_PORT.WIDTH n g.2).wr TJL_PORT.NARROW n (boolNat (decide (g.2 ≠ 0)))
  if g.2 = 0 then s else (s.portEvent TJL_PORT_EVT.NARROW n).boundEvent n

/-- A port direction after its sequences are initialised (R326): the credits are the receiver's buffers, and the keys are new
with epoch 0 (R340, R344, R380). -/
def State.initLink (s : State) (n : Nat) : State :=
  let p := s.lport n
  s.setLport n { p with next := 0, expect := 0, replay := [], cred := lport0.cred, quota := lport0.quota, tries := 0, since := s.now,
                        epoch := 0, built := 0, inEpoch := 0, taken := 0, bad := [] }

/-- PORT_TRAINED (R313, R314, R320, R372, R380): identity and authentication checked; a port that had been lost renegotiates first
(R344), any other is UP. `gen2` says whether gen2 training succeeded where both ends and the image allow it. -/
def execPortTrained (n : Tjl) (peerW : Fin 32) (peerP : Tjl) (cluster : BitVec 32) (gen2 : Bool) (lanes : BitVec 16)
    (flight : BitVec 8) (auth : Bool) (s : State) : Host.Outcome State Fault Refusal :=
  .next (match (if s.rd SEC_STAT.ERROR 0 = 1 then 0 else s.portSt n.val), s.portRec n.val, laneGroup lanes.toNat with
    | 1, some r, some g =>
      let s := (s.wr TJL_PORT.PEER_WAFER n.val peerW.val).wr TJL_PORT.PEER_PORT n.val peerP.val
      if r.peer ≠ some (peerW.val, peerP.val) ∨ cluster.toNat ≠ s.rd TJL_CLUSTER.ID 0 then
        (s.wr TJL_PORT.STATE n.val 5).portEvent TJL_PORT_EVT.MISWIRED n.val
      else if !auth then
        (((s.wr TJL_PORT.STATE n.val 5).portEvent TJL_PORT_EVT.MISWIRED n.val).wr SEC_EVT.PEER_AUTH 0 1).tellDevice
      else
        let was := (s.lport n.val).lost
        let s := ((s.wr TJL_PORT.GEN n.val (if gen2 && r.gen2 then 2 else 1)).wr TJL_PORT.FLIGHT n.val flight.toNat).setLanes n.val
          lanes.toNat g
        let s := s.initLink n.val
        if was then
          let ties := (s.tjl.imps.filter fun e => decide (e.2.port = n.val + 1)).flatMap fun e => [e.1 % 4096, e.2.landed, e.2.applied]
          let x : LFrame := ⟨0, 2, 1, s.waferNo, 1, peerW.val, 0, 0, [ctrlPacket 8 ((s.lport n.val).epoch :: ties)]⟩
          let s := s.emit (.frame n.val 2 (frameHdr s n.val x :: x.body))
          s.setLport n.val { s.lport n.val with next := 1, replay := [x], built := 1 }
        else (s.portIsUp n.val).onTjl fun t => { t with first := t.first && decide (r.time = 0) }
    | _, _, _ => s)

/-- NEGOTIATE (R344): the peer's key epoch, and the landed prefix and applied SSEQ of each tie on the port; the port is UP. -/
def execNegotiate (n : Tjl) (epoch : BitVec 8) (ties : List (Nat × Nat × Nat)) (s : State) : Host.Outcome State Fault Refusal :=
  .next (if s.portSt n.val ≠ 1 ∨ !(s.lport n.val).lost then s
    else
      let s := s.setLport n.val { s.lport n.val with inEpoch := epoch.toNat }
      let s := s.each ties fun s x =>
        let v := s.tie x.1
        if v.st = 0 then s
        else s.setTie x.1 { v with
          landed := max v.landed (min x.2.1 v.acc), applied := x.2.2 % 2 ^ 32
          tiles := v.tiles.filter fun y => decide (x.2.1 < y.off + tileImage) }
      ((s.portIsUp n.val).portEvent TJL_PORT_EVT.RESTORED n.val).onTjl fun t =>
        { t with first := t.first && decide (((s.portRec n.val).map (·.time)).getD 0 = 0) })

/-- TRAINING_TIMEOUT (R320): a port that has not reached UP within 100 ms stays DOWN, or LOST where it had been UP. -/
def execTrainingTimeout (n : Tjl) (s : State) : Host.Outcome State Fault Refusal :=
  .next (if s.portSt n.val ≠ 1 then s
    else
      let s := s.reach ((s.lport n.val).began + 100000000)
      (s.wr TJL_PORT.STATE n.val (if (s.lport n.val).lost then 4 else 0)).setLport n.val { s.lport n.val with began := s.now })

/-- RESTORE_TIMER (R320, R344): a port that is DOWN or LOST trains again after RESTORE_S seconds. -/
def execRestoreTimer (n : Tjl) (s : State) : Host.Outcome State Fault Refusal :=
  .next (if Store.get false s.wafer.edges (18 + n.val) ∨ (s.portSt n.val ≠ 0 ∧ s.portSt n.val ≠ 4) ∨ (s.portRec n.val).all (·.peer.isNone) then s
    else
      let s := s.reach ((s.lport n.val).began + s.rd TJL_BUDGET.RESTORE_S 0 * 1000000000)
      (s.wr TJL_PORT.STATE n.val 1).setLport n.val { s.lport n.val with began := s.now })

/-- A retrain begins (R321): frames stay in the replay buffer. -/
def State.retrain (s : State) (n : Nat) : State :=
  if s.portSt n ≠ 2 then s
  else ((((s.wr TJL_PORT.STATE n 3).setLport n { s.lport n with began := s.now }).portEvent TJL_PORT_EVT.RETRAIN n).boundEvent n)

/-- RETRAIN_DONE (R321, R342): the port is UP again, on the widest good group; without one the retrain does not complete. -/
def execRetrainDone (n : Tjl) (lanes : BitVec 16) (s : State) : Host.Outcome State Fault Refusal :=
  .next (match s.portSt n.val, laneGroup lanes.toNat with
    | 3, some g =>
      let s := (s.setLanes n.val lanes.toNat g).wr TJL_PORT.STATE n.val 2
      let p := s.lport n.val
      let s := s.setLport n.val { p with tries := 0, since := s.now }
      let s := s.each p.replay fun s x => s.emit (.frame n.val x.kind (frameHdr s n.val x :: x.body))
      let s := s.each s.tjl.ties fun s e => if e.2.port = n.val + 1 then s.pumpTie e.1 else s
      State.pumpPort n.val (p.wait.length + 1) s
    | _, _ => s)

/-- LINK_LOST (R343): the retrain exceeds its budget. -/
def execLinkLost (n : Tjl) (s : State) : Host.Outcome State Fault Refusal :=
  .next (if s.portSt n.val ≠ 3 then s
    else (s.reach ((s.lport n.val).began + s.rd TJL_BUDGET.RETRAIN_MS 0 * 1000000)).loseLink n.val)

/-! ### Frames (R324-R327, R340) -/

/-- A replay from a sequence (R327): the same frames are sent again, in order; past the budget the port retrains. -/
def State.replayFrom (s : State) (n seq : Nat) : State :=
  let p := s.lport n
  if s.portSt n ≠ 2 then s
  else if s.rd TJL_BUDGET.RETRIES 0 ≤ p.tries then s.retrain n
  else
    let s := s.setLport n { p with tries := p.tries + 1 }
    let s := s.each (p.replay.dropWhile fun x => decide (x.lseq ≠ seq)) fun s x => s.emit (.frame n x.kind (frameHdr s n x :: x.body))
    s.tally 3 0 (0x100 + n * 0x10 + 2) 1

/-- The frames that an acknowledgement covers leave the replay buffer (R326). -/
def State.ackFrames (s : State) (n ack : Nat) : State :=
  let p := s.lport n
  if p.replay.any fun x => decide (x.lseq = ack) then
    let rest := (p.replay.dropWhile fun x => decide (x.lseq ≠ ack)).drop 1
    State.pumpPort n (p.wait.length + 1) (s.setLport n { p with replay := rest, tries := 0, since := s.now })
  else s

/-- An IDLE frame (R324, R325): ACK, the credit of one freed frame of a channel, and NAK where asked. -/
def State.sendIdle (s : State) (n : Nat) (cred : Option Nat) (nak : Bool) : State :=
  let p := s.lport n
  let c := match cred with
    | some v => 2 ^ (208 + 8 * v)
    | none => 0
  s.emit (.frame n 0 [p.epoch % 256 * 2 ^ 240 + c + (if nak then p.expect * 2 ^ 192 + 2 ^ 191 else 0) + (p.expect + 65535) % 65536 * 2 ^ 160 +
    s.waferNo * 2 ^ 123 + s.rd TJL_PORT.PEER_WAFER n * 2 ^ 118])

/-- Credits returned by the peer (R325). -/
def State.addCredits (s : State) (n h : Nat) : State :=
  let p := s.lport n
  let s := s.setLport n { p with cred := p.cred.zipIdx.map fun c => c.1 + bits h (215 + 8 * c.2) (208 + 8 * c.2) }
  State.pumpPort n (p.wait.length + 1) s

/-- A frame for another wafer (R315, R336): forwarded where the transit pair is declared, URGENT going on as SYNC. -/
def State.transit (s : State) (n h body : Nat) : State :=
  let w := bits h 122 118
  let vc := bits h 113 112
  let pairs := (s.parts.dev.map (·.transit)).getD []
  match s.upRoute w with
  | some m =>
    if pairs.contains (n, m) then
      s.putFrame m ⟨0, bits h 7 0, if vc = 0 then 1 else vc, bits h 127 123, bits h 111 104, w, bits h 117 116, bits h 115 114, [body]⟩
    else s.log ⟨0x09, 1, 0x60 + n, 0xC0 + n, 0, [], 2, w⟩
  | none => s.log ⟨0x09, 1, 0x60 + n, 0xC0 + n, 0, [], 2, w⟩

/-- What the header of an IDLE frame, or of a frame accepted, does at its receiver (R324): credits, acknowledgement, retry request. -/
def State.headerActs (s : State) (n h : Nat) : State :=
  let s := (s.addCredits n h).ackFrames n (bits h 175 160)
  if bit h 191 then s.replayFrom n (bits h 207 192) else s

/-- A numbered frame accepted (R327): the next LSEQ is expected; after 2 ^ 32 frames the other end's next key epoch begins (R340). -/
def State.acceptFrame (s : State) (n : Nat) : State :=
  let p := s.lport n
  s.setLport n { p with
    expect := (p.expect + 1) % 65536, taken := (p.taken + 1) % 2 ^ 32
    inEpoch := if p.taken + 1 = 2 ^ 32 then (p.inEpoch + 1) % 256 else p.inEpoch }

/-- FRAME_RECEIVE (R327, R340): `ok` says whether the codeword was correctable, `tagOk` whether the tag or CRC passed. The
packets and tile bytes of a frame accepted for this wafer arrive as commands of their own. -/
def execFrameReceive (n : Tjl) (ok tagOk : Bool) (hdr : BitVec 256) (body : BitVec 4736) (s : State) :
    Host.Outcome State Fault Refusal :=
  .next (
    let n := n.val
    let h := hdr.toNat
    let k := 0x100 + n * 0x10
    if s.portSt n ≠ 2 ∧ !(s.portSt n = 1 && (s.lport n).lost) then s
    else if !ok then (s.tally 3 0 (k + 3) 1).sendIdle n none true
    else if !tagOk then
      let p := s.lport n
      let bad := s.now :: p.bad.filter fun t => decide (s.now < t + 1000000)
      let s := ((s.setLport n { p with bad := bad }).tally 3 0 (k + 7) 1).portEvent TJL_PORT_EVT.AUTH n
      if 16 ≤ bad.length then (s.setLport n { p with bad := [] }).retrain n else s.sendIdle n none true
    else if bits h 247 240 ≠ (s.lport n).inEpoch % 256 then s
    else
      let d := (bits h 159 144 + 65536 - (s.lport n).expect) % 65536
      if bits h 7 0 = 0 then s.headerActs n h
      else if bits h 7 0 ≠ 1 ∧ bits h 7 0 ≠ 2 then s
      else if d = 0 then
        let s := (s.acceptFrame n).headerActs n h
        let s := (s.tally 3 0 (k + 1) 1).sendIdle n (some (bits h 113 112)) false
        if bits h 122 118 = s.waferNo then s else s.transit n h body.toNat
      else if 65536 - 1024 ≤ d then (s.tally 3 0 (k + 4) 1).sendIdle n none false
      else if d < 32768 then s.sendIdle n none true
      else s.log ⟨0x09, 2, 0x60 + n, 0xC0 + n, 0, [], 2, bits h 159 144⟩)

/-- NAK (R327): the sender replays from NAKSEQ. -/
def execNak (n : Tjl) (seq : BitVec 16) (s : State) : Host.Outcome State Fault Refusal := .next (s.replayFrom n.val seq.toNat)

/-- RETRY_BUDGET_EXPIRY (R327): replays or time without ACK advancing exceed the budget. -/
def execRetryBudgetExpiry (n : Tjl) (s : State) : Host.Outcome State Fault Refusal :=
  .next (let p := s.lport n.val
    if s.portSt n.val ≠ 2 ∨ p.replay.isEmpty then s
    else if s.rd TJL_BUDGET.RETRIES 0 ≤ p.tries then s.retrain n.val
    else (s.reach (p.since + s.rd TJL_BUDGET.RETRY_US 0 * 1000)).retrain n.val)

/-! ### Ties at their target (R318, R332-R334) -/

/-- A tie frame that fails the check of R318: discarded, logged, answered BLOCKED. -/
def State.tieBlocked (s : State) (n w spart dpart t : Nat) : State :=
  (s.log ⟨0x09, 0x83, 0x60 + n, 0xC0 + n, 0, [dpart], 2, w * 4096 + t⟩).isoEvt (spart % 4) 7 |>.sendTiePkt w dpart spart 4 [t, 1]

/-- The import of an arriving tie frame, where the check of R318 passes. -/
def State.checkTie (s : State) (w spart dpart t : Nat) : Option Import :=
  match s.importOf w t with
  | some (p, i) => if p = dpart ∧ i.srcp = spart then some i else none
  | none => none

/-- The page that a tile of an import is written to (R316, R332): allocated by the import engine as writer. -/
def State.writeImport (s : State) (p k l : Nat) : Wr :=
  match s.rangeOf p l with
  | none => .fault 0xB
  | some r =>
    let f := rangeField r (l - r.lbase)
    if r.tier = 0 then (match s.current p l with | some c => .page s c | none => .fault 4)
    else if r.tier = 3 then .fault 6
    else match (s.target p l).filter fun c => (s.page c).st ≠ .free with
      | some c =>
        let g := s.page c
        if r.tier = 1 then (if g.st = .freeing then .fault 1 else .page s c)
        else match g.st with
          | .opened => if g.writer = .link k then .page s c else .fault 2
          | .invalid => .fault 5
          | _ => .fault 1
      | none =>
        let put := fun (a : State × Nat) =>
          let d := a.1.dir p l
          Wr.page (a.1.setDir p l (if r.group.isSome then { d with pend := some a.2 } else { d with cur := some a.2 })) a.2
        if r.tier = 1 then (match s.allocT1 p f l r.cls r.t1class (.link k) with | some a => put a | none => .short 0x23)
        else match s.allocT2 p f l r.cls (.link k) with | some a => put a | none => .short 0x20

/-- The answer to a signal (R334). -/
def State.sigAck (s : State) (k spart dpart sseq status : Nat) : State :=
  s.sendTiePkt (k / 4096) dpart spart 2 [k % 4096, sseq, status]

/-- A held signal applied to its object, and answered (R333, R334); at a held core it waits at the router (R457). -/
def State.applyRemote (s : State) (p k spart : Nat) (x : XSig) : State :=
  let v := s.imp k
  let ahead := (x.sseq + 2 ^ 32 - v.applied) % 2 ^ 32 < 2 ^ 31
  let s := s.setImp k { v with applied := if ahead then x.sseq else v.applied, seen := (x.sseq :: v.seen).take 1024 }
  let src : Source := ⟨p, k / 4096, k % 256, 52, false⟩
  match s.resolve src x.target false with
  | .obj o => match s.exportOf o with
    | some e => (s.crossSignal e src x.op x.value 0 none false).sigAck k spart p x.sseq 0
    | none =>
      if s.objHeld o then s.queueHeld (o / 64) (.remote k x.sseq o x.value x.op src)
      else
        let r := s.sigObj o x.value x.op src
        r.1.sigAck k spart p x.sseq r.2
  | .foreign => (s.blocked src x.target).sigAck k spart p x.sseq 3
  | _ => s.sigAck k spart p x.sseq 5

/-- Held signals of a tie whose bytes have landed, applied in arrival order (R333). -/
def State.releaseSigs (p k spart : Nat) : Nat → State → State
  | 0, s => s
  | j + 1, s =>
    match (s.imp k).held with
    | [] => s
    | x :: r =>
      if x.ac ≤ (s.imp k).landed then
        State.releaseSigs p k spart j ((s.setImp k { s.imp k with held := r }).applyRemote p k spart x)
      else s

/-- TIE_ACK after every fourth tile, and after 1 µs while the prefix advances (R332). -/
def State.tieAckDue (s : State) (p k spart : Nat) : State :=
  let v := s.imp k
  if 4 ≤ v.tiles ∨ v.toldAt + 1000 ≤ s.now then
    (s.setImp k { v with tiles := 0, told := v.landed, toldAt := s.now }).sendTiePkt (k / 4096) p spart 3 [k % 4096, v.landed]
  else s

/-- A whole tile image of an import lands on its page (R316, R332). -/
def State.landImport (s : State) (p k : Nat) (i : Import) (tix : Nat) (toSeal : Bool) (img : List Nat) : State :=
  let l := i.tbase + tix / 4
  match s.writeImport p k l with
  | .page s c =>
    let data : Store Word := ((List.range 2048).map fun w => (w, BitVec.ofNat 64 (ofBytes ((img.drop (w * 8)).take 8)))).filter fun e =>
      decide (e.2 ≠ 0)
    let s := s.landPage c (tix % 4) (ofBytes ((img.drop 16384).take 64)) data
    let s := if toSeal && pageTier c = 2 && decide ((s.page c).st = PgSt.opened) then s.sealPage c none else s
    let v := s.imp k
    let s := s.setImp k { v with landed := v.landed + tileImage, bytes := [], tiles := v.tiles + 1 }
    (State.releaseSigs p k i.srcp 64 s).tieAckDue p k i.srcp
  | .fault c => s.tierFlt p (((s.rangeOf p l).map fun r => rangeField r (l - r.lbase)).getD 0) 0x3FF c l
  | .short 0x23 => s.event PAR_EVT.T1_SHORT p p
  | .short _ => s.event PAR_EVT.T2_SHORT p p
  | _ => s

/-- TIE_DATA (R318, R330, R332): the bytes of a DATA frame reach the import engines; bytes below the landed prefix are
duplicates; a partition that is not RUNNING takes none. -/
def execTieData (n : Tjl) (srcw : Fin 32) (spart dpart : Part) (dh : BitVec 128) (bytes : List (BitVec 8)) (s : State) :
    Host.Outcome State Fault Refusal :=
  .next (
    let h := dh.toNat
    let t := bits h 11 0
    let tix := bits h 37 12
    let k := impKey srcw.val t
    match s.checkTie srcw.val spart.val dpart.val t with
    | none => s.tieBlocked n.val srcw.val spart.val dpart.val t
    | some i =>
      if i.tiles ≤ tix then s.tieBlocked n.val srcw.val spart.val dpart.val t
      else if !s.running dpart.val then s
      else
        let v := s.imp k
        let soff := bits h 127 64
        let b := (bytes.map (·.toNat)).take (bits h 62 53)
        let s := s.setImp k { v with port := n.val + 1 }
        if soff + b.length ≤ v.landed then s.tally 3 0 (0x100 + n.val * 0x10 + 4) 1
        else if v.landed + v.bytes.length < soff then s
        else
          let img := if soff < v.landed then b.drop (v.landed - soff) else v.bytes.take (soff - v.landed) ++ b
          if img.length < tileImage then s.setImp k { s.imp k with bytes := img }
          else s.landImport dpart.val k i tix (bit h 63) img)

/-- SIGNAL (R329, R333, R334): held until the landed prefix covers what it announces; a duplicate is answered DUP. -/
def execSignal (n : Tjl) (pkt : BitVec 256) (s : State) : Host.Outcome State Fault Refusal :=
  .next (
    let h := pkt.toNat
    let w := bits h 247 243
    let sp := bits h 237 236
    let p := bits h 235 234
    let t := bits h 233 222
    let k := impKey w t
    let q := bits h 191 160
    let x : XSig := ⟨q, 0, none, bits h 215 192, if bit h 220 then 2 else 0, bits h 159 128, bits h 127 64, bits h 63 58, bits h 57 50,
      bits h 49 44, bit h 221, 0⟩
    match s.checkTie w sp p t with
    | none => (s.tieBlocked n.val w sp p t).sigAck k sp p q 3
    | some _ =>
      if !s.running p then s.sigAck k sp p q 9
      else
        let v := s.imp k
        let back := (v.applied + 2 ^ 32 - q) % 2 ^ 32
        let s := s.setImp k { v with port := n.val + 1 }
        if v.seen.contains q ∨ (!v.seen.isEmpty ∧ 1024 < back ∧ back < 2 ^ 31) then
          (s.tally 3 0 (0x100 + n.val * 0x10 + 5) 1).sigAck k sp p q 7
        else State.releaseSigs p k sp 64 (s.setImp k { s.imp k with held := (s.imp k).held ++ [x] }))

/-! ### Ties at their source (R331, R334, R335, R344, R345) -/

/-- SIG_ACK (R334): the sender's signal completes with its status, and a waiting one is sent (R335). -/
def execSigAck (_n : Tjl) (tie : BitVec 12) (sseq : BitVec 32) (status : BitVec 8) (s : State) : Host.Outcome State Fault Refusal :=
  .next (
    let t := tie.toNat
    let v := s.tie t
    match v.outst.find? fun x => decide (x.sseq = sseq.toNat) with
    | none => s
    | some x =>
      let a := if status.toNat = 3 ∨ status.toNat = 9 then v.applied else x.sseq
      (((s.setTie t { v with outst := v.outst.erase x, applied := a }).sigDone x status.toNat).pumpTie t))

/-- A rerouted tie told to return goes back to its primary port once its tiles are acknowledged (R344). -/
def State.goHome (s : State) (t : Nat) : State :=
  let v := s.tie t
  match s.tieDecl t with
  | none => s
  | some d =>
    let r := s.route d.wafer
    if v.home && v.tiles.isEmpty && decide (v.st = 2) then
      match r.head? with
      | some n => if s.portSt n = 2 then (s.carryTie t n r).countTies v.part else s
      | none => s
    else s

/-- TIE_ACK (R331): the landed prefix advances and the export buffer frees. -/
def execTieAck (_n : Tjl) (tie : BitVec 12) (landed : BitVec 64) (s : State) : Host.Outcome State Fault Refusal :=
  .next (
    let t := tie.toNat
    let v := s.tie t
    if v.st = 0 ∨ v.acc < landed.toNat then s
    else (s.setTie t { v with
      landed := max v.landed landed.toNat
      tiles := v.tiles.filter fun y => decide (landed.toNat < y.off + tileImage) }).goHome t)

/-- TIE_RESET (R318, R345): reason 1 BLOCKED and 2 TARGET_RESTART concern a tie of this wafer, 3 SOURCE_RESTART an import. -/
def execTieReset (_n : Tjl) (fromW : Fin 32) (tie : BitVec 12) (reason : Fin 4) (s : State) : Host.Outcome State Fault Refusal :=
  .next (
    let t := tie.toNat
    let v := s.tie t
    if reason.val = 3 then
      match s.importOf fromW.val t with
      | none => s
      | some (p, _) =>
        let k := impKey fromW.val t
        ((s.dropImportPages k).setImp k { tieIn0 with port := (s.imp k).port }).event TJL_PEVT.TIE_RESET p p
    else if v.st = 0 ∨ (s.tieDecl t).all fun d => decide (d.wafer ≠ fromW.val) then s
    else if reason.val = 1 then ((s.setTie t { v with st := 4 }).countTies v.part).event TJL_PEVT.TIE_BLOCKED v.part v.part
    else if reason.val = 2 then
      let s := s.setTie t { v with acc := 0, landed := 0, pos := 0, tiles := [], outst := [], queue := [] }
      ((s.each (v.outst ++ v.queue) fun s x => s.sigDone x 9).goHome t).event TJL_PEVT.TIE_RESET v.part v.part
    else s)

/-- ROUTE_DOWN (R319): 100 ms after phase DEVICE a tie still waits for a port of its route. -/
def execRouteDown (p : Part) (tie : BitVec 12) (s : State) : Host.Outcome State Fault Refusal :=
  .next (
    let v := s.tie tie.toNat
    if v.st = 5 ∧ v.part = p.val then (s.reach (s.boot.deviceAt + 100000000)).event TJL_PEVT.ROUTE_DOWN p.val p.val else s)

/-- A record of TJL_PCMD_STAT. -/
def State.tjlAnswer (s : State) (p seq res : Nat) : State := (s.wr TJL_PCMD_STAT.SEQ p seq).wr TJL_PCMD_STAT.RESULT p res

/-- RESUME carried out (R344). -/
def State.tjlResume (s : State) (p : Nat) : State :=
  let s := s.wr TJL_PSTAT.HALT p 0
  s.each s.tjl.ties fun s e =>
    if e.2.part = p ∧ e.2.st = 2 then
      match (s.tieDecl e.1).bind fun d => (s.route d.wafer).head? with
      | some n => if s.portSt n = 2 then (s.setTie e.1 { s.tie e.1 with home := true }).goHome e.1 else s
      | none => s
    else s

/-- TJL_RESUME (R344): by the steward, once (R73, R504). -/
def execTjlResume (r : Req) (p : Part) (seq : BitVec 16) (s : State) : Host.Outcome State Fault Refusal :=
  .next (
    let p := p.val
    let q := seq.toNat
    match r with
    | .host x pf =>
      if (s.hostOn r p).isNone then s
      else if !s.isSteward p x.val then s.tjlAnswer p q 3
      else if s.dupSeq (tjlSrc p) q then (if s.rd TJL_PCMD_STAT.SEQ p = q then s else s.tjlAnswer p q 2)
      else
        let s := (s.setSeq (tjlSrc p) q).countTies p
        let s := if s.rd TJL_PSTAT.STALLED p = 0 ∧ (s.rd TJL_PSTAT.HALT p = 1 ∨ s.rd TJL_PSTAT.REROUTED p ≠ 0) then
            (s.tjlResume p).tjlAnswer p q 0
          else s.tjlAnswer p q 4
        s.vector x.val pf.val 2
    | _ => if s.reqOn r then s.tjlAnswer p q 3 else s)

/-! ### Barriers across wafers (R214, R337, R343) -/

/-- A barrier's tree on this wafer. -/
def State.tree (s : State) (p b : Nat) : Option BarTree := (s.treesOf p).find? fun t => decide (t.bar = b)

/-- Whether every child whose edge is not lost has reported (R337, R343). -/
def State.childrenIn (s : State) (p : Nat) (t : BarTree) : Bool :=
  t.children.all fun n => bit (s.bar p t.bar).wafers n || (s.lport n).lost

/-- BARRIER_COMPLETE (R214, R337): all arrivals and reports are in: a wafer below the root reports to its parent, the root tells
its children and completes; with a lost edge it completes with LINK_LOST (R343). -/
def execBarrierComplete (p : Part) (b : Fin 64) (s : State) : Host.Outcome State Fault Refusal :=
  .next (
    let p := p.val
    match s.barDef p b.val with
    | none => s
    | some d =>
      if !s.running p || !s.barLocal p d then s
      else match s.tree p b.val with
        | none => s.barEnd p d 0
        | some t =>
          if !s.childrenIn p t then s
          else if t.edges.any fun n => (s.lport n).lost then s.barLost p t d 8
          else
            let g := ((s.bar p b.val).gen + 1) % 65536
            match t.parent with
            | some n =>
              if (s.bar p b.val).told then s
              else (s.setBar p b.val { s.bar p b.val with told := true }).sendBar n 5 p b.val g 0
            | none => (s.each t.children fun s n => s.sendBar n 6 p b.val g 0).barEnd p d 0)

/-- A barrier packet from a port that is no edge of its tree (R337): discarded and logged. -/
def State.barStray (s : State) (n p : Nat) : State := s.log ⟨0x09, 0x80, 0x60 + n, 0xC0 + n, 0, [p], 2, n⟩

/-- BAR_UP (R337): a child has completed its part of the episode; a report of another episode changes nothing. -/
def execBarUp (n : Tjl) (p : Part) (b : Fin 64) (gen : BitVec 16) (s : State) : Host.Outcome State Fault Refusal :=
  .next (match s.tree p.val b.val with
    | some t =>
      if t.children.contains n.val then
        let v := s.bar p.val b.val
        if gen.toNat = (v.gen + 1) % 65536 then s.setBar p.val b.val { v with wafers := v.wafers ||| 2 ^ n.val } else s
      else s.barStray n.val p.val
    | none => s.barStray n.val p.val)

/-- BAR_DOWN (R337, R343): the episode completes with the status, which is told onward. -/
def execBarDown (n : Tjl) (p : Part) (b : Fin 64) (gen : BitVec 16) (lost : Bool) (s : State) : Host.Outcome State Fault Refusal :=
  .next (match s.tree p.val b.val, s.barDef p.val b.val with
    | some t, some d =>
      if t.parent ≠ some n.val ∧ !(lost && t.children.contains n.val) then s.barStray n.val p.val
      else if gen.toNat ≠ ((s.bar p.val b.val).gen + 1) % 65536 then s
      else if lost then s.barLost p.val t d n.val
      else (s.each t.children fun s m => s.sendBar m 6 p.val b.val gen.toNat 0).barEnd p.val d 0
    | _, _ => s.barStray n.val p.val)

/-! ### Timebase alignment (R338, R339) -/

/-- The offset of cluster time, signed. -/
def State.tbOfs (s : State) : Int := (BitVec.ofNat 64 (s.rd TJL_TB_OFS.OFS 0)).toInt
/-- Cluster time (R338). -/
def State.clusterTime (s : State) : Nat := ((s.now : Int) + s.tbOfs).toNat % 2 ^ 64
/-- A number of a register field from a signed value. -/
def signed (w : Nat) (v : Int) : Nat := (v % (2 ^ w : Int)).toNat

/-- The time port in use: the first declared one that is UP, else the alternative (R338). -/
def State.timePort (s : State) : Option Nat :=
  let port := fun (k : Nat) => (List.range 8).find? fun n => decide (((s.portRec n).map (·.time)).getD 0 = k) && decide (s.portSt n = 2)
  match port 1 with
  | some n => some n
  | none => port 2

/-- TS_EXCHANGE (R339): every PERIOD a follower stamps t1 and sends TS on its time port; without one it drifts. -/
def execTsExchange (s : State) : Host.Outcome State Fault Refusal :=
  .next (if s.rd SYS_TB_STAT.FOLLOW 0 = 0 then s
    else
      let s := s.reach (s.tjl.exchAt + s.rd TJL_TB_CFG.PERIOD 0 * 100000)
      match s.timePort with
      | none => ((s.wr TJL_TB_STAT.ADRIFT 0 1).wr TJL_TB_STAT.LOCKED 0 0).onTjl fun t => { t with exchAt := s.now, good := 0 }
      | some n =>
        let num := (s.tjl.exch + 1) % 2 ^ 16
        let s := ((s.wr TJL_TB_STAT.ADRIFT 0 0).wr TJL_TB_STAT.PORT 0 n).wr TJL_TB_STAT.HOPS 0
          (Config.timeHops (((s.parts.dev.map (·.master)).getD 0)) n)
        let t1 := s.clusterTime
        let s := s.onTjl fun t => { t with exch := num, exchAt := s.now, t1 := t1 }
        s.sendFrame n 2 1 (s.rd TJL_PORT.PEER_WAFER n) 0 0 [ctrlPacket 7 [num, t1]])

/-- TS (R339): a request is answered with t2 and t3; an answer gives the offset error, by which offset and trim follow. -/
def execTs (n : Tjl) (answer : Bool) (num : BitVec 16) (t1 t2 t3 : BitVec 64) (s : State) : Host.Outcome State Fault Refusal :=
  .next (if !answer then
      s.sendFrame n.val 2 2 (s.rd TJL_PORT.PEER_WAFER n.val) 0 0 [ctrlPacket 7 [num.toNat, t1.toNat, s.clusterTime, s.clusterTime]]
    else if s.rd SYS_TB_STAT.FOLLOW 0 = 0 ∨ num.toNat ≠ s.tjl.exch ∨ t1.toNat ≠ s.tjl.t1 then s
    else
      let θ : Int := (((t2.toNat : Int) - t1.toNat) - ((s.clusterTime : Int) - t3.toNat)).tdiv 2
      let most : Int := s.rd TJL_TB_CFG.PERIOD 0 * 10
      let step := if s.tjl.first then max (-most) (min most θ) else θ
      let good := if θ.natAbs ≤ 8 then s.tjl.good + 1 else 0
      let s := (s.wr TJL_TB_OFS.OFS 0 (signed 64 (s.tbOfs + step))).wr TJL_TB_ERR.THETA 0 (signed 32 θ)
      let s := s.wr SYS_TB_TRIM.PPB 0 (Config.trimSteer (s.rd SYS_TB_TRIM.PPB 0) [θ, step])
      (s.wr TJL_TB_STAT.LOCKED 0 (boolNat (decide (16 ≤ good)))).onTjl fun t => { t with good := good, first := true })

end Sys2Proof.Machine
end

