-- ==== Sys2Proof/Machine/Pins.lean ====
section
/-! DEFINITION. The sideband pins SBP0-SBP15 (22_management_sideband.md R546-R556) and the carrier's outputs
(23_carrier_electrical.md). -/

namespace Sys2Proof.Machine

/-- Whether a requester may write the SBM registers: PF0, or the management interface while MGMT_WR is 1 (R535, R556). -/
def State.sbmWriter (s : State) (r : Req) : Bool :=
  match r with
  | .host _ pf => s.reqOn r && decide (pf.val = 0)
  | .mgmt => decide (s.rd SEC_CTL.MGMT_WR 0 = 1)
  | .jtag => false

/-! ### Switching a pin (R552, R553) -/

/-- Whether a pin's function drives it. -/
def drives (f : Nat) : Bool := [2, 3, 5, 7, 8, 9].contains f

/-- Whether a value of SBM_PIN_CFG and a PERIOD fit: reserved encodings, and a TB_OUT width that is not below its period (R546, R549). -/
def pinCfgOk (func pull edge width tgt : Nat) : Bool :=
  decide (func ≤ 9) && decide (pull ≤ 2) && decide (edge ≠ 0) && decide (width ≠ 0) &&
  (decide (func ≠ 9) || decide (width * 10 < tgt % 2 ^ 24 * 1000))

/-- A write of SBM_PIN_CFG (R552, R553): a new FUNC or PULL, or any write while the pin switches, releases the driver and starts
the quiet interval. -/
def State.pinConfig (s : State) (n func pull edge width : Nat) : State :=
  let same := decide (s.rd SBM_PIN_CFG.FUNC n = func) && decide (s.rd SBM_PIN_CFG.PULL n = pull) && decide (Store.get 0 s.side.sw n = 0)
  let old := Store.get 0 s.side.act n
  let s := (((s.wr SBM_PIN_CFG.FUNC n func).wr SBM_PIN_CFG.PULL n pull).wr SBM_PIN_CFG.EDGE n edge).wr SBM_PIN_CFG.WIDTH n width
  if same then s
  else
    let s := if drives old then s.sbpOut n none else s
    let s := s.onSide fun y => { y with
      act := Store.set 0 y.act n 0
      pulse := Store.set 0 y.pulse n 0
      sw := Store.set 0 y.sw n (s.now + 1) }
    s.wr SBM_SW_STAT.SWITCHING 0 (s.rd SBM_SW_STAT.SWITCHING 0 ||| 2 ^ n)

/-- PIN_SWITCH (R552): a write of SBM_PIN_CFG. A reserved encoding discards it (R23). -/
def execPinSwitch (r : Req) (n : Sbp) (func : BitVec 4) (pull edge : BitVec 2) (width : BitVec 16) (s : State) :
    Host.Outcome State Fault Refusal :=
  .next (if !s.sbmWriter r then s
    else if !pinCfgOk func.toNat pull.toNat edge.toNat width.toNat (s.rd SBM_PIN_TGT.TGT n.val) then
      s.logAccess 3 [] (0xE00100 + n.val * 0x10)
    else s.pinConfig n.val func.toNat pull.toNat edge.toNat width.toNat)

/-- The synchronised level of a pin (R555). -/
def State.setLevel (s : State) (n : Nat) (v : Bool) : State :=
  s.onSide fun y => { y with levels := if v then y.levels ||| 2 ^ n else y.levels &&& (65535 - 2 ^ n) }

/-- SWITCH_QUIET_END (R552): the new function takes the pin, with the level sampled then as its starting level. -/
def execSwitchQuietEnd (n : Sbp) (level : Bool) (s : State) : Host.Outcome State Fault Refusal :=
  .next (match Store.get 0 s.side.sw n.val with
    | 0 => s
    | t + 1 => ((s.reach (t + s.rd SBM_QUIET.NS 0)).setLevel n.val level).takePin n.val)

/-! ### Inputs (R547, R550) -/

/-- Whether a change of a pin to a level is an edge that its function sees: the function holds the pin, and EDGE lists it. -/
def State.edgeSeen (s : State) (n func : Nat) (level : Bool) : Bool :=
  decide (Store.get 0 s.side.act n = func) && decide (bit s.side.levels n ≠ level) &&
  bit (s.rd SBM_PIN_CFG.EDGE n) (if level then 0 else 1)

/-- A SIG of SYNC_IN dropped (R547): the event, and an entry of the partition ring. -/
def State.syncDrop (s : State) (n p : Nat) : State :=
  (s.wr SBM_EVT.SYNC_DROP 0 1).log ⟨0x0E, 0x82, 0xFF, 0xFF, 0, [p], 1, n⟩

/-- SYNC_IN (R547): a level that has held for 100 ns; an accepted edge signals the target pool object. -/
def execSyncIn (n : Sbp) (level : Bool) (s : State) : Host.Outcome State Fault Refusal :=
  .next (
    let n := n.val
    let seen := s.edgeSeen n 4 level
    let s := s.setLevel n level
    if !seen then s
    else
      let s := s.wr SBM_PIN_TICK.TICK n s.now
      let p := bits (s.rd SBM_PIN_TGT.TGT n) 25 24
      let ref := 3 * 2 ^ 22 + s.rd SBM_PIN_TGT.TGT n % 2 ^ 14
      let src : Source := ⟨p, 0, 0, 53 + Config.pinUnit % 6, false⟩
      if !s.running p then s.syncDrop n p
      else match s.resolve src ref false with
        | .obj k => if (s.obj k).live then s.signalAny src ref 1 else s.syncDrop n p
        | _ => s.syncDrop n p)

/-- TRIG_IN (R550, R529): an accepted edge starts trace capture, or stops it. -/
def execTrigIn (n : Sbp) (level : Bool) (s : State) : Host.Outcome State Fault Refusal :=
  .next (
    let n := n.val
    let seen := s.edgeSeen n 6 level
    let s := s.setLevel n level
    if !seen then s
    else
      let s := s.wr SBM_PIN_TICK.TICK n s.now
      if !s.traceOk then s else if s.rd DBG_TR_STAT.ACTIVE 0 = 1 then s.stopTrace else s.startTrace)

/-! ### Outputs (R548, R549) -/

/-- PULSE_END (R548): a pulse's WIDTH expires. -/
def execPulseEnd (n : Sbp) (s : State) : Host.Outcome State Fault Refusal :=
  .next (match Store.get 0 s.side.pulse n.val with
    | 0 => s
    | t + 1 => ((s.reach t).onSide fun y => { y with pulse := Store.set 0 y.pulse n.val 0 }).sbpOut n.val (some false))

/-- TB_OUT (R549): cluster time reaches the next multiple of PERIOD. -/
def execTbOut (n : Sbp) (s : State) : Host.Outcome State Fault Refusal :=
  .next (
    let n := n.val
    let per := s.rd SBM_PIN_TGT.TGT n % 2 ^ 24 * 1000
    if !s.wafer.running || decide (s.rd SBM_PIN_CFG.FUNC n ≠ 9) || decide (per = 0) then s
    else
      let gap := (per - s.clusterTime % per) % per
      let s := s.reach (if gap = 0 ∧ s.rd SBM_PIN_TICK.TICK n = s.now ∧ s.now ≠ 0 then s.now + per else s.now + gap)
      s.pulse n)

/-! ### Carrier (R559, R561, R566) -/

/-- FEED_LOSS (R559): one feed is lost while the other is within its range: no effect on the device. -/
def execFeedLoss (s : State) : Host.Outcome State Fault Refusal := .next s

/-- REG_FAULT (R561): a field regulator switches its field off until both feeds have been cycled, and REG_FAULT_N is asserted. -/
def execRegFault (f : FieldId) (s : State) : Host.Outcome State Fault Refusal :=
  .next ((((s.onWafer fun w => { w with latched := Store.set false w.latched f.val true }).fieldOff f.val 4).emit (.pin 18 false)))

/-- COOL_FAULT (R566): COOL_FAULT_N is asserted; the device takes no action. -/
def execCoolFault (s : State) : Host.Outcome State Fault Refusal := .next (s.emit (.pin 19 false))

/-- LEAK (R566): LEAK_N is asserted; the device takes no action. -/
def execLeak (s : State) : Host.Outcome State Fault Refusal := .next (s.emit (.pin 20 false))

end Sys2Proof.Machine
end

