-- ==== Sys2Proof/Machine/Checker.lean ====
section
/-! DEFINITION. The guard die's commands: tapped items, judgements, verdicts, the fault pins (17_guard_checker.md R422-R445), and the
monitors of a frame's timing (18_guard_timing.md R449-R456, R467, R470). -/

namespace Sys2Proof.Machine

/-! ### Tapped items (R424-R428) -/

/-- A cause marked on the open frame that a TAG names; otherwise, or with `oldest`, on the oldest open frame, or on the next frame
to open, which keeps the first cause it is marked with (R428, R433). -/
def State.markFrame (s : State) (p tag cause : Nat) (oldest : Bool) : State :=
  let fs := s.frames p
  match (if oldest then none else fs.find? fun f => decide (f.num = tag)) with
  | some g => s.setFrames p (fs.map fun f => if f.num = g.num then present cause f else f)
  | none => match fs with
    | [] => s.onGuard fun y => if Store.get 0 y.marks p = 0 then { y with marks := Store.set 0 y.marks p cause } else y
    | f :: r => s.setFrames p (present cause f :: r)

/-- A tap packet taken into the frame that its TAG names, or discarded (R426-R428). -/
def State.takeItem (s : State) (p : Nat) (t : Tap) (crcOk room : Bool) : State :=
  let tag := hTag t.hdr
  if !room then
    let s := s.setFrames p ((s.frames p).map fun f => if f.num = tag then { f with dropped := min 0xFFFF (f.dropped + 1) } else f)
    (s.tally 2 p 0x25 1).event GRD_EVT.TAP_DROP p p
  else if !crcOk then (s.event GRD_EVT.TAP_ERR p p).markFrame p tag 4 false
  else if (s.frames p).any fun f => decide (f.num = tag) then
    let s := s.setFrames p ((s.frames p).map fun f => if f.num = tag then { f with items := f.items ++ [⟨t.wp, t.hdr, t.data⟩] } else f)
    (s.tally 2 p 0x24 1).callJudge p
  else (s.event GRD_EVT.TAG_ERR p p).markFrame p tag 3 true

/-- TAP_ITEM (R428): the oldest packet of a partition; a SUMMARY or RESULT copy waits while the tap buffer has no room (R427). -/
def execTapItem (p : Part) (crcOk : Bool) (room : Bool) (s : State) : Host.Outcome State Fault Refusal :=
  .next (match s.guard.taps.find? fun t => decide (t.part = p.val) with
    | none => s
    | some t =>
      let kind := (((s.checker p.val).bind fun k => k.points[t.wp]?).map (·.kind)).getD 0
      if !room && (decide (kind = 1) || decide (kind = 3)) then s
      else (s.onGuard fun y => { y with taps := y.taps.erase t }).takeItem p.val t crcOk room)

/-! ### Judgement (R429-R433) -/

/-- Whether a judgement answers within its interface (R432). -/
def judgeOk (c : Checker) (f : Frame) (j : Judged) : Bool :=
  decide (j.verdict ≤ 2) && ((f.items[j.ritem]?).any fun x => (c.points[x.wp]?).any fun w => decide (w.kind = 3)) && decide (1 ≤ j.rlen) &&
  decide (j.rlen ≤ 16384) && decide (j.susp.length ≤ 8) && j.susp.all fun i => decide (i < f.items.length)

/-- The JUDGE budget of a partition in ticks. -/
def State.judgeBudget (s : State) (p : Nat) : Nat := s.rd GRD_CK_CFG.BUDGET p * 10000

/-- JUDGE_RETURN (R430, R432): a judgement for the frame that JUDGE was called for; a late one is CHK_TIME. -/
def execJudgeReturn (p : Part) (verdict : BitVec 8) (ritem : BitVec 16) (checks : BitVec 32) (rlen : BitVec 16) (susp : List (BitVec 16)) (s : State) :
    Host.Outcome State Fault Refusal :=
  .next (
    let p := p.val
    match s.frames p, s.checker p with
    | f :: r, some c =>
      if f.called = 0 ∨ f.judged.isSome ∨ ¬s.running p then s
      else
        let j : Judged := ⟨verdict.toNat, ritem.toNat, checks.toNat, rlen.toNat, susp.map (·.toNat)⟩
        let s := (s.tally 2 p 0x26 (s.now - (f.called - 1))).wr GRD_CK_STAT.STATE p 0
        if s.judgeBudget p < s.now - (f.called - 1) then s.enterSafe p 4 true
        else if !judgeOk c f j then s.enterSafe p 3 true
        else if f.mark ≠ 0 then s
        else s.setFrames p ({ f with judged := some j } :: r)
    | _, _ => s)

/-- CHK_TIME (R432): JUDGE has not returned within its budget. -/
def execChkTime (p : Part) (s : State) : Host.Outcome State Fault Refusal :=
  .next (
    let p := p.val
    match s.frames p with
    | f :: _ =>
      if f.called = 0 ∨ f.judged.isSome ∨ s.rd GRD_CK_STAT.STATE p ≠ 1 ∨ ¬s.running p then s
      else (s.reach (f.called - 1 + s.judgeBudget p + 1)).enterSafe p 4 true
    | [] => s)

/-- VERDICT_COMMIT (R433, R434): the oldest open frame, marked with a cause or judged. -/
def execVerdictCommit (p : Part) (s : State) : Host.Outcome State Fault Refusal :=
  .next (
    let p := p.val
    match s.frames p with
    | [] => s
    | f :: _ =>
      if !(s.running p && s.guarded p) then s
      else if f.mark = 8 then s.commitVerdict p f 3 8
      else if f.mark ≠ 0 then s.commitVerdict p f 2 f.mark
      else match f.judged with
        | none => s
        | some j => s.commitVerdict p f j.verdict (if j.verdict = 0 then 0 else j.verdict))

/-! ### The pair and the pins (R423, R441-R445) -/

/-- A pair has failed (R423): SAFE with cause LOCKSTEP, no record; the pins are asserted. -/
def State.pairFails (s : State) (p : Nat) : State :=
  let s := (s.wr (ckField p) 0 2).log ⟨0x0A, 0x83, 0x70, 0xC0 + p, 0, [p], 6, 2⟩
  (s.enterSafe p 2 false).pins

/-- LOCKSTEP_MISMATCH (R423, R441). -/
def execLockstepMismatch (p : Part) (s : State) : Host.Outcome State Fault Refusal :=
  .next (if s.rd (ckField p.val) 0 = 2 then s else s.pairFails p.val)

/-- CHECKER_PAIR_FAILURE (R423): an uncorrectable memory error, or a trap. -/
def execCheckerPairFailure (p : Part) (s : State) : Host.Outcome State Fault Refusal :=
  .next (if s.rd (ckField p.val) 0 = 2 then s else s.pairFails p.val)

/-- Consecutive comparisons in which a pin read high while commanded low. -/
def State.comparePin (s : State) (i : Nat) (cmd rdb : Field) (high : Bool) : State :=
  let n := if s.rd cmd 0 = 1 ∧ high then Store.get 0 s.guard.stuck i + 1 else 0
  (s.wr rdb 0 (boolNat !high)).onGuard fun g => { g with stuck := Store.set 0 g.stuck i n }

/-- PIN_READBACK (R442): the levels of FAULT_A_N and FAULT_B_N; a pin high while commanded low for two comparisons is stuck. -/
def execPinReadback (a : Bool) (b : Bool) (s : State) : Host.Outcome State Fault Refusal :=
  .next (
    let s := (s.comparePin 0 GRD_PIN.A_CMD GRD_PIN.A_READ a).comparePin 1 GRD_PIN.B_CMD GRD_PIN.B_READ b
    if Store.get 0 s.guard.stuck 0 < 2 ∧ Store.get 0 s.guard.stuck 1 < 2 then s
    else if s.rd GRD_PIN.MISMATCH 0 = 1 then s
    else
      let s := s.wr GRD_PIN.MISMATCH 0 1
      (s.each [0, 1, 2, 3] fun s p => if s.guarded p ∧ s.running p then s.enterSafe p 6 true else s).pins)

/-- GRD_TRIP_WRITE (R445): only the steward's host sets or clears TRIP. -/
def execGrdTripWrite (r : Req) (p : Part) (v : Bool) (s : State) : Host.Outcome State Fault Refusal :=
  .next (
    let deny := s.logAccess 5 [p.val] (0xA00000 + 0x120 + p.val * 0x100)
    match r with
    | .host _ _ => match s.hostOn r p.val with
      | none => s
      | some (x, _) => if s.isSteward p.val x then (s.wr GRD_TRIP.TRIP p.val (boolNat v)).pins else deny
    | .mgmt => if s.reqOn r then deny else s
    | .jtag => s)

/-! ### Timing (R451-R456) -/

/-- AGE_EXPIRY (R451): an open frame reaches its age limit. -/
def execAgeExpiry (p : Part) (k : Fin 4) (s : State) : Host.Outcome State Fault Refusal :=
  .next (
    let p := p.val
    match (s.frames p)[k.val]? with
    | none => s
    | some f =>
      if !s.running p then s
      else
        let s := s.reach (f.ingress + s.rd GRD_AGE.LIMIT p * 10000)
        s.setFrames p ((s.frames p).set k.val (present 8 f)))

/-- A window miss (R453): FAIL WDOG presented for the frame. -/
def State.windowMiss (s : State) (p frame : Nat) : State :=
  let s := (s.tally 2 p 0x29 1).event GRD_TEVT.WDOG p p
  s.setFrames p ((s.frames p).map fun f => if f.num = frame then present 6 f else f)

/-- The busy counts of a stage's tasks start again, and an overrun ends (R455). -/
def State.restartTasks (s : State) (p stage : Nat) : State :=
  let ts := ((s.guardRec p).map fun r => (r.tasks.zipIdx.filter fun x => decide (x.1.stage = stage)).map (·.2)).getD []
  s.each ts fun s t => (s.onGuard fun g => { g with busy := Store.set 0 g.busy (p * 64 + t) 0 }).wr GRD_TASK.OVER (p * 64 + t) 0

/-- A stage kicks for a frame (R452, R453). -/
def State.kicked (s : State) (p stage frame tick : Nat) : State :=
  let i := p * 16 + stage
  let s := ((s.wr GRD_STG.LAST i frame).wr GRD_STG.KICK_TK i tick).restartTasks p stage
  let w := s.guard.windows.find? fun w => decide (w.part = p) && decide (w.stage = stage) && decide (w.frame = frame) && !w.kicked
  let live := (s.frames p).any fun f => decide (f.num = frame)
  let close := fun (x : Window) => if some x ≠ w then some x else if live then some { x with open_ := false, kicked := true } else none
  let s := s.onGuard fun g => { g with windows := g.windows.filterMap close }
  let miss := match w with
    | none => true
    | some w => w.open_ && (decide (tick < w.since + s.rd GRD_STG.MIN i) || decide (w.since + s.rd GRD_STG.MAX i < tick))
  (if miss then s.windowMiss p frame else s).openWindows p stage frame

/-- WATCH_UPDATE (R452): the oldest report of a partition; anything but the next kick is a sequence loss. -/
def execWatchUpdate (p : Part) (s : State) : Host.Outcome State Fault Refusal :=
  .next (
    let p := p.val
    match s.guard.reports.find? fun r => decide (r.part = p) with
    | none => s
    | some r =>
      let s := s.onGuard fun g => { g with reports := g.reports.erase r }
      if !s.running p then s
      else if r.kick && decide (r.count = s.rd GRD_STG.LAST (p * 16 + r.stage) + 1) then s.kicked p r.stage r.count r.tick
      else (s.event GRD_TEVT.SEQ p p).enterSafe p 7 true)

/-- WINDOW_MAX_EXPIRY (R453): the oldest window of a stage whose kick has not come by MAX. -/
def execWindowMaxExpiry (p : Part) (st : Fin 16) (s : State) : Host.Outcome State Fault Refusal :=
  .next (
    let p := p.val
    match s.guard.windows.find? fun w => decide (w.part = p) && decide (w.stage = st.val) && w.open_ with
    | none => s
    | some w =>
      if !s.running p then s
      else
        let s := s.reach (w.since + s.rd GRD_STG.MAX (p * 16 + st.val) + 1)
        let s := s.onGuard fun g => { g with windows := g.windows.map fun x => if x = w then { x with open_ := false } else x }
        s.windowMiss p w.frame)

/-- BUDGET_OVERRUN (R455): a task's busy count exceeds BUDGET; FAIL WDOG for the oldest frame that its stage has not kicked. -/
def execBudgetOverrun (p : Part) (t : Fin 64) (s : State) : Host.Outcome State Fault Refusal :=
  .next (
    let p := p.val
    let i := p * 64 + t.val
    match (s.guardRec p).bind fun g => g.tasks[t.val]? with
    | none => s
    | some x =>
      let busy := Store.get 0 s.guard.busy i
      let ready := (List.range 32).any fun j => bit x.threads j && decide ((s.thread (thrKey x.field x.core j)).st = .ready)
      if !(s.running p && s.guarded p) || decide (s.rd GRD_TASK.OVER i = 1) || (!ready && decide (busy ≤ x.budget)) then s
      else
        let s := s.reach (s.now + (x.budget + 1 - busy))
        let s := ((s.wr GRD_TASK.OVER i 1).tally 2 p 0x2A 1).event GRD_TEVT.BUDGET p p
        match (s.frames p).find? fun f => decide (s.rd GRD_STG.LAST (p * 16 + x.stage) < f.num) with
        | none => s
        | some g => s.setFrames p ((s.frames p).map fun f => if f.num = g.num then present 6 f else f))

/-! ### Timebase check, injection age (R467, R470) -/

/-- TB_CHECK (R467): the difference over 1 ms of the guard die's clock, in ppm. -/
def execTbCheck (ppm : BitVec 16) (s : State) : Host.Outcome State Fault Refusal :=
  .next (
    let s := s.wr GRD_TB_CHK.LAST_PPM 0 (min 4095 ppm.toNat)
    let n := if s.rd GRD_TB_CHK.TOL_PPM 0 < ppm.toNat then min 2 (s.guard.tbBad + 1) else 0
    let s := s.onGuard fun g => { g with tbBad := n }
    if n < 2 then s
    else (s.wr GRD_TB_CHK.BAD 0 1).each [0, 1, 2, 3] fun s p => if s.guarded p ∧ s.running p then (s.event GRD_TEVT.TB p p).enterSafe p 7 true else s)

/-- INJ_DUE (R470): MAX_H hours since the partition's last successful injection. -/
def execInjDue (p : Part) (s : State) : Host.Outcome State Fault Refusal :=
  .next (match Store.get 0 s.guard.inj p.val with
    | 0 => s
    | t + 1 =>
      if !s.guarded p.val ∨ s.rd GRD_TEVT.INJ_DUE p.val = 1 then s
      else (s.reach (t + s.rd GRD_INJ_AGE.MAX_H p.val * 3600000000000)).event GRD_TEVT.INJ_DUE p.val p.val)

end Sys2Proof.Machine
end

