-- ==== Sys2Proof/Machine/Rotation.lean ====
section
/-! DEFINITION. Tests at run time (18_guard_timing.md R457-R463) and those of a hardware error report (19_failures.md R478). -/

namespace Sys2Proof.Machine

/-! ### Testers (R458) -/

/-- The mesh neighbours of a physical core in its own field: west, east, north, south. -/
def neighbours (y : Nat) : List Nat :=
  (if 0 < y % 16 then [y - 1] else []) ++ (if y % 16 < 15 then [y + 1] else []) ++ (if 16 ≤ y then [y - 16] else []) ++ (if y < 144 then [y + 16] else [])

/-- The first good neighbour that is not in a list. -/
def State.testerFor (s : State) (c : Nat) (tried : List Nat) : Option Nat :=
  (s.phys c).bind fun y => (neighbours y).find? fun z => !Store.get false s.wafer.bad (c / 152 * 160 + z) && !tried.contains z

/-- The mapped core that a physical core of a field carries. -/
def State.mappedOn (s : State) (f y : Nat) : Option Nat := ((List.range 152).find? fun m => decide (s.phys (coreKey f m) = some y)).map (coreKey f ·)

/-! ### The scheduler (R459, R460, R462) -/

/-- Length of a segment and its gap in ticks. -/
def State.segTicks (s : State) (p : Nat) : Nat := (s.rd GRD_TEST_CFG.SEG_US p + s.rd GRD_TEST_CFG.GAP_US p) * 1000

/-- Whether a core is urgent (R460). -/
def State.urgentCore (s : State) (p c : Nat) : Bool :=
  decide ((s.ctest c).deadline ≤ s.now + (12 - (s.ctest c).pos) * s.segTicks p)

/-- The critical windows of a core's stages that are open for an open frame (R460). -/
def State.critical (s : State) (p c : Nat) : List Window :=
  let mine := fun (x : Nat) => ((s.guardRec p).bind fun g => g.stages[x]?).any fun st => bit st.fields (c / 152)
  s.guard.windows.filter fun w => decide (w.part = p) && mine w.stage && ((s.frames p).any fun f => decide (f.num = w.frame)) &&
    decide (s.now < w.since + s.rd GRD_STG.CRIT (p * 16 + w.stage))

/-- Cores of a field under test now. -/
def State.underTest (s : State) (f : Nat) : Nat := Store.count (fun k (t : CoreTest) => decide (k / 152 = f) && decide (t.seg ≠ 0)) s.guard.tests

/-- A segment of a core starts: it is held, and the critical windows of its stages have had their segment. -/
def State.holdFor (s : State) (p c seg tester : Nat) (extra : Bool) : State :=
  let ws := s.critical p c
  let s := s.onGuard fun g => { g with windows := g.windows.map fun w => if ws.contains w then { w with tested := true } else w }
  let t := s.ctest c
  ((s.setTest c { t with seg := seg + 1, tester := tester, extra := extra, due := t.due && !(extra && decide (t.step ≠ 1) && decide (t.step ≠ 2)) }).holdThreads c).tally 0 c 0x16 1

/-- The first moment at which a rotation segment may start is not yet past its gap. -/
def State.afterGap (s : State) (p c : Nat) : State :=
  let t := s.ctest c
  if t.last = 0 then s else s.reach (t.last - 1 + s.rd GRD_TEST_CFG.GAP_US p * 1000)

/-- A rotation segment, where the scheduler allows one (R459, R460). -/
def State.rotate (s : State) (p c : Nat) : State :=
  let s := s.afterGap p c
  let urgent := s.urgentCore p c
  let ws := s.critical p c
  if s.rd GRD_TEST_CFG.PAR p ≤ s.underTest (c / 152) then s
  else
    let s := if urgent && !(s.ctest c).urgent then (s.setTest c { s.ctest c with urgent := true }).event GRD_TEVT.TEST_LATE p p else s
    if !ws.isEmpty && (!urgent || ws.any (·.tested)) then s
    else match s.testerFor c [] with
      | none => s
      | some y => (s.holdFor p c (s.ctest c).pos y false).tally 2 p 0x27 1

/-- TEST_SEGMENT_START (R460): of a core the repeat of a failed segment first, then a tester's own test, a segment of a hardware
error report, an extra segment, a rotation segment. -/
def execTestSegmentStart (f : FieldId) (m : CoreId) (s : State) : Host.Outcome State Fault Refusal :=
  .next (
    let c := coreKey f.val m.val
    let t := s.ctest c
    let p := (s.partOf f.val).getD 4
    if t.seg ≠ 0 ∨ (s.phys c).all (fun y => Store.get false s.wafer.bad (f.val * 160 + y)) then s
    else if t.step = 1 then (match s.testerFor c t.tried with
      | some y => s.holdFor p c (if t.extra then 0 else t.pos) y true
      | none => s)
    else if t.step = 2 then (match s.testerFor c t.tried with
      | some y => s.holdFor p c 0 y true
      | none => s)
    else if t.report ≠ 0 then (match s.testerFor c [] with
      | some y => s.holdFor p c (12 - t.report) y false
      | none => s)
    else if !(s.running p && s.guarded p) then s
    else if t.due then
      if (s.critical p c).any (·.tested) then s
      else match s.testerFor c [] with
        | some y => (s.holdFor p c 0 y true).tally 2 p 0x28 1
        | none => s
    else s.rotate p c)

/-! ### The end of a segment (R457, R463) -/

/-- A queued request applied (R457). -/
def State.applyHeld (s : State) (q : HeldReq) : State :=
  match q.kind with
  | .readOut e n => (s.readOut (engOf e) n.val).judgeAll ((s.partOf (engField (engOf e))).getD 0)
  | .landing e n => (s.land (engOf e) n.val).judgeAll ((s.partOf (engField (engOf e))).getD 0)
  | .signal owner bell o d sem src =>
    let r := if sem then s.addObj o d src else s.sigObj o d.toNat 0 src
    let s := if owner = 0 then r.1 else r.1.pay (owner - 1) r.2
    match bell with
    | some b => s.bellDone b.1 b.2 r.2
    | none => s
  | .posted o e src => s.postSignal o e 1 tileImage src
  | .remote imp sseq o n op src =>
    let r := s.sigObj o n op src
    let sp := ((s.sect src.part).bind fun c => c.links.imports.find? fun i => decide (i.srcw = imp / 4096) && decide (i.tie = imp % 4096)).map (·.srcp)
    r.1.sigAck imp (sp.getD 0) src.part sseq r.2

/-- The requests queued at a core, applied in arrival order; the longest wait is recorded (R457). -/
def State.releaseQueue (s : State) (p c : Nat) : State :=
  let qs := s.guard.queue.filter fun q => decide (q.core = c)
  let s := s.onGuard fun g => { g with queue := g.queue.filter fun q => decide (q.core ≠ c) }
  let wait := (qs.map fun q => s.now - q.since).foldl max 0
  let s := if 4 ≤ p then s else s.wr GRD_TEST_WAIT.MAX_TK p (max (s.rd GRD_TEST_WAIT.MAX_TK p) (min wait 0xFFFFFFFF))
  s.each qs fun s q => s.applyHeld q

/-- A rotation segment has passed (R459). -/
def State.passRotation (s : State) (p c : Nat) : State :=
  let t := s.ctest c
  if t.pos + 1 < 12 then s.setTest c { t with pos := t.pos + 1 }
  else
    (s.setTest c { t with pos := 0, deadline := s.now + s.rd GRD_TCFG.TEST_MS p * 1000000, urgent := false }).inc GRD_TSTAT.ROT p

/-- A segment that passed after another had failed, or in a report: entered in the fault log, nothing else (R463, R478). -/
def State.noteTest (s : State) (c : Nat) : State :=
  s.log ⟨0x00, 0x40, c / 152, c % 152, 0, (s.partOf (c / 152)).toList, 4, 2 + 256 * Config.detail [c]⟩

/-- A segment passes; a first tester with no other good tester is not tested in its turn. -/
def State.segPass (s : State) (p c : Nat) (was : CoreTest) : State :=
  let t := s.ctest c
  if was.step = 1 then
    let first := was.tried.headD 0
    match s.mappedOn (c / 152) first with
    | some d =>
      if (s.testerFor d (s.phys c).toList).isNone then (s.setTest c { t with step := 0, tried := [] }).noteTest c
      else (s.setTest c { t with step := 0, tried := [] }).setTest d { s.ctest d with step := 2, tried := (s.phys c).toList }
    | none => s.setTest c { t with step := 3 }
  else if was.step = 2 then (s.setTest c { t with step := 0, tried := [] }).noteTest c
  else if was.report ≠ 0 then
    let s := s.setTest c { t with report := was.report - 1 }
    if was.report = 1 then s.noteTest c else s
  else if was.extra then s
  else s.passRotation p c

/-- A segment returns FAIL (R463, R478). -/
def State.segFail (s : State) (p c : Nat) (was : CoreTest) : State :=
  let t := s.ctest c
  if was.step ≠ 0 ∨ was.report ≠ 0 then (s.setTest c { t with step := 0, tried := [], report := 0 }).failCore c 2
  else
    let s := (s.failFrames p 7).event GRD_TEVT.TEST_FAIL p p
    match s.testerFor c [was.tester] with
    | some _ => s.setTest c { t with step := 1, tried := [was.tester], extra := was.extra }
    | none => s.failCore c 2

/-- TEST_SEGMENT_END (R457, R463): the core is released, the queued requests are applied, the result is acted on. Where the first
tester was a spare, the same command gives the result of that spare's own segment. -/
def execTestSegmentEnd (f : FieldId) (m : CoreId) (pass : Bool) (s : State) : Host.Outcome State Fault Refusal :=
  .next (
    let c := coreKey f.val m.val
    let t := s.ctest c
    let p := (s.partOf f.val).getD 4
    if t.step = 3 ∧ t.seg = 0 then
      let s := s.setTest c { t with step := 0, tried := [] }
      if pass then s.noteTest c
      else
        let y := t.tried.headD 0
        let s := s.onWafer fun w => { w with bad := Store.set false w.bad (f.val * 160 + y) true }
        let s := (s.wr SYS_FSTAT.GOOD f.val (s.rd SYS_FSTAT.GOOD f.val - 1)).wr SYS_FSTAT.SPARES f.val (s.rd SYS_FSTAT.SPARES f.val - 1)
        s.log ⟨0x00, 0x40, f.val, 0xFF, 0, (s.partOf f.val).toList, 5, 2 + 256 * Config.detail [y]⟩
    else if t.seg = 0 then s
    else
      let s := (s.setTest c { t with seg := 0, extra := false, last := s.now + 1 }).freeThreads c
      let s := s.releaseQueue p c
      if pass then s.segPass p c t else s.segFail p c t)

/-- ROTATION_DEADLINE (R461): a core's rotation is not complete at its deadline. -/
def execRotationDeadline (f : FieldId) (m : CoreId) (s : State) : Host.Outcome State Fault Refusal :=
  .next (
    let c := coreKey f.val m.val
    match s.partOf f.val with
    | none => s
    | some p =>
      if s.running p && s.guarded p && decide ((s.ctest c).deadline ≠ 0) then (s.reach (s.ctest c).deadline).enterSafe p 7 true else s)

end Sys2Proof.Machine
end

