-- ==== Sys2Proof/Machine/Views.lean ====
section
/-! DEFINITION. Register fields that show other state: what each reads, from the register tables of the chapters named
below. Every other field reads what is stored. -/

namespace Sys2Proof.Machine

/-- A sum of the bits of those numbers below `n` that pass a test. -/
def maskOf (n : Nat) (g : Nat → Bool) : Nat := ((List.range n).map fun i => if g i then 2 ^ i else 0).sum

/-- A fault log entry as one number (R490). -/
def logWord (e : LogEnt) : Nat :=
  e.detail % 2 ^ 64 * 2 ^ 192 + e.tick % 2 ^ 64 * 2 ^ 128 + e.dseq % 2 ^ 32 * 2 ^ 96 + e.pseq % 2 ^ 32 * 2 ^ 64 + e.block % 256 * 2 ^ 56 +
  e.code % 256 * 2 ^ 48 + e.die % 256 * 2 ^ 40 + e.unit % 256 * 2 ^ 32 + e.sunit % 64 * 2 ^ 26 + e.part % 4 * 2 ^ 24 + boolNat e.dev * 2 ^ 23 +
  e.cls % 8 * 2 ^ 20 + e.rep % 65536

/-- A Ledger entry's record (R228). -/
def entryWord (e : Entry) : Nat :=
  e.step % 2 ^ 32 * 2 ^ 320 + e.lastTk % 2 ^ 64 * 2 ^ 256 + e.needM % 65536 * 2 ^ 216 + e.needF % 65536 * 2 ^ 200 + e.spage % 2 ^ 40 * 2 ^ 160 +
  e.spages % 4096 * 2 ^ 148 + e.ctab % 256 * 2 ^ 140 + boolNat e.lost * 2 ^ 139 + boolNat e.emerg * 2 ^ 138 + boolNat e.late * 2 ^ 137 +
  boolNat e.slip * 2 ^ 136 + e.lpage % 2 ^ 40 * 2 ^ 96 + e.span % 65536 * 2 ^ 80 + e.tiles % 2 ^ 14 * 2 ^ 64 + e.deps % 256 * 2 ^ 48 +
  e.users % 256 * 2 ^ 40 + e.uses % 256 * 2 ^ 32 + e.grp % 16 * 2 ^ 24 + e.lane % 4 * 2 ^ 22 + e.cls % 64 * 2 ^ 16 + e.gen % 256 * 2 ^ 8 +
  e.action % 8 * 2 ^ 4 + e.st % 16

/-- 32-bit numbers side by side, the first lowest. -/
def row32 (l : List Nat) : Nat := l.foldr (fun x a => x % 2 ^ 32 + 2 ^ 32 * a) 0

/-- A slot's header (R275); `parts` is the number of parts of its span. -/
def slotWord (x : Slot) (parts : Nat) : Nat :=
  row32 (x.outs.take 4) * 2 ^ 640 + row32 (x.digs.take 4) * 2 ^ 512 + row32 (x.ins.take 8) * 2 ^ 256 + x.spanTk % 2 ^ 32 * 2 ^ 160 +
  x.step % 2 ^ 32 * 2 ^ 128 + x.beginTk % 2 ^ 64 * 2 ^ 64 + x.sid % 65536 * 2 ^ 48 + x.ins.length % 16 * 2 ^ 44 + x.outs.length % 8 * 2 ^ 41 +
  (parts - 1) % 16 * 2 ^ 37 + (x.runs.filter (·.ended)).length % 32 * 2 ^ 32 + x.live % 8 * 2 ^ 29 + boolNat x.broken * 2 ^ 6 +
  boolNat x.stale * 2 ^ 5 + boolNat x.wgt * 2 ^ 4 + x.st % 8

/-- A part frame (R275): s1 to s15 of the thread that began the part. -/
def frameWord (x : Slot) (part : Nat) : Nat :=
  match x.runs.find? fun r => decide (r.part = part) with
  | some r => (r.frame.take 15).foldr (fun v a => v.toNat + 2 ^ 64 * a) 0
  | none => 0

/-- The number by which CORE_THR_STATE shows a thread state. -/
def thrNum : ThrSt → Nat
  | .idle => 0
  | .ready => 1
  | .parked => 2
  | .held => 3
  | .faulted => 4
  | .done => 5

/-- The threads of a core in a state. -/
def State.thrCount (s : State) (c : Nat) (st : ThrSt) : Nat := ((List.range 32).filter fun t => decide ((s.thread (c * 32 + t)).st = st)).length

/-- PARK_KIND and PARK_ID of a thread (CORE_THR_INFO). -/
def State.parkInfo (s : State) (r : Req) (k : Nat) : Nat × Nat :=
  match s.sync.parks.find? fun pk => decide (pk.who = .thread k) with
  | none => (0, 0)
  | some pk => match pk.tgt with
    | .word w => (1, w % 65536)
    | .obj o => if o < poolBase then (2, o % 64) else (3, s.refFor r (objRef o) % 65536)
    | .fence _ g l => (4, g * 4 + l)
    | .barrier _ b _ => (5, b)
    | .accession _ => (6, 0xFFFF)
    | .entry _ n => (7, n)
    | .slot _ n => (8, n)

/-- A waiter's record as a requester sees its TARGET (R191, R524). -/
def State.recFor (s : State) (r : Req) (w : Nat) : Nat :=
  let t := bits w 103 80
  w - t * 2 ^ 80 + s.refFor r t * 2 ^ 80

/-- Whether a register copy shows an event. -/
def State.anyBit (s : State) (g : Reg) (i : Nat) : Bool := g.fields.any fun f => decide (s.rd f i ≠ 0)

/-- Whether a requester may see local memory and Ledger data of a partition (R383): a partition's function sees its own; the device
tag while PF0_DATA is 1 or debug is unlocked for the partition. -/
def State.dataSeen (s : State) (r : Req) (p : Nat) : Bool :=
  (reqPart r).isSome || decide (s.rd SEC_CTL.PF0_DATA 0 = 1) || s.debugOk 0 p

/-- The word of local memory that a requester selects (CORE_MEM_ADDR, R161), for a core's number. -/
def State.memSel (s : State) (r : Req) (c : Nat) : Nat := localWord (c / 152) (c % 152) (s.rd CORE_MEM_ADDR.WORD (c * 12 + reqKey r))

/-- Whether a requester has local memory access to a core (R161, R384). -/
def State.memSeen (s : State) (c : Nat) : Bool := (s.partOf (c / 152)).any fun p => s.debugOk 0 p

/-- The field of a partition with the fewest free declared T2 pages, and how many (PAR_T2_FREE). -/
def State.leastT2 (s : State) (p : Nat) : Nat × Nat :=
  match s.fieldsOf p with
  | [] => (0, 0)
  | f :: l => l.foldl (fun a g => if s.freeT2 p g < a.2 then (g, s.freeT2 p g) else a) (f, s.freeT2 p f)

/-- Least slack of a partition's rotations in µs, two's complement (GRD_ROT_SLACK). -/
def State.rotSlack (s : State) (p : Nat) : Nat :=
  let l := (s.guard.tests.filter fun e => s.owns p (e.1 / 152) && decide (e.2.deadline ≠ 0)).map fun e =>
    ((e.2.deadline : Int) - s.now).fdiv 1000 - ((12 - e.2.pos) * (s.rd GRD_TEST_CFG.SEG_US p + s.rd GRD_TEST_CFG.GAP_US p) : Nat)
  match l with
  | [] => 0
  | x :: r => ((r.foldl min x) % (2 ^ 32 : Int)).toNat

/-- Fields of the views by the requester and copy: 02, 03 and 16 (SYS, PAR). -/
def State.viewSys (s : State) (r : Req) : List (Field × (Nat → Nat)) :=
  [(SYS_TB.COUNT, fun _ => s.now % 2 ^ 64),
   (SYS_CMAP.MAPPED, fun i => maskOf 32 fun b => (List.range 152).any fun m =>
      decide (Store.get 0 s.wafer.cmap (coreKey (i / 5) m) = i % 5 * 32 + b + 1)),
   (PAR_T2_FREE.FIELD, fun p => (s.leastT2 p).1),
   (PAR_T2_FREE.PAGES, fun p => (s.leastT2 p).2),
   (PAR_DLOG_HEAD.DSEQ, fun _ => headSeq (·.dseq) s.logs.dev),
   (PAR_DLOG_ENT.ENTRY, fun _ => ((s.logs.dev.find? fun e => decide (e.dseq = s.rd PAR_DLOG_SEL.DSEQ (reqKey r))).map logWord).getD 0),
   (PAR_FLOG_HEAD.PSEQ, fun p => headSeq (·.pseq) (Store.get [] s.logs.par p)),
   (PAR_FLOG_ENT.ENTRY, fun p => (((Store.get [] s.logs.par p).find? fun e =>
      decide (e.pseq = s.rd PAR_FLOG_SEL.PSEQ (p * 12 + reqKey r))).map logWord).getD 0)]

/-- 04 and 05 (TIER, REPO). A function of a partition selects its own pages only. -/
def State.viewTier (s : State) (r : Req) : List (Field × (Nat → Nat)) :=
  let vol := fun (p : Nat) => s.vol p (s.rd REPO_VOL_SEL.VOL (p * 12 + reqKey r))
  [(TIER_PD_SEL.PART, fun _ => (reqPart r).getD (s.rd TIER_PD_SEL.PART (reqKey r))),
   (TIER_PD.DESC, fun _ => s.pageDesc ((reqPart r).getD (s.rd TIER_PD_SEL.PART (reqKey r))) (s.rd TIER_PD_SEL.LPAGE (reqKey r))),
   (TIER_FPOOL.T1_USED, fun f => s.mirrorsHeld f 1),
   (TIER_FPOOL_SIZE.T1_SIZE, fun f => (s.heatPool (s.entPart f) f 1).1),
   (TIER_FPOOL_T2.T2_USED, fun f => s.mirrorsHeld f 2),
   (TIER_FTOWER.T2_POOL, fun f => (s.heatPool (s.entPart f) f 2).1),
   (REPO_VOL_STATE.LOADED, fun p => (vol p).loaded),
   (REPO_VOL_STATE.THIN, fun p => boolNat (vol p).thin),
   (REPO_VOL_STATE.STATE, fun p => (vol p).st),
   (REPO_VOL_STATE.BASE, fun p => (vol p).base)]

/-- 06, 07 and 11 (CORE). A core's copy is its number; an engine's is its key. -/
def State.viewCore (s : State) (r : Req) : List (Field × (Nat → Nat)) :=
  let sel := fun (c : Nat) => c * 32 + s.rd CORE_THR_SEL.THREAD (c * 12 + reqKey r)
  let word := fun (c : Nat) => s.word (s.memSel r c)
  let span := fun (c : Nat) =>
    ((List.range 32).findSome? fun t => (s.partRun (c * 32 + t)).map fun x => (if (s.slot (c / 152) x.1).st = 3 then 2 else 1, x.1)).or
      ((List.range 32).findSome? fun t => (s.sync.parks.find? fun pk => decide (pk.who = .thread (c * 32 + t))).bind fun pk => match pk.tgt with
        | .slot _ n => if n = 0xFFFF then none else some (3, n)
        | _ => none)
  [(CORE_STAT.PHYS, fun c => Store.get 0 s.wafer.cmap c - 1),
   (CORE_STAT.READY, fun c => s.thrCount c .ready),
   (CORE_STAT.PARKED, fun c => s.thrCount c .parked),
   (CORE_STAT.TEST, fun c => boolNat (s.heldCore c)),
   (CORE_STAT.FAULT, fun c => boolNat (decide (s.thrCount c .faulted ≠ 0))),
   (CORE_STAT.QUIET, fun c => boolNat (s.quiet c)),
   (CORE_STAT.RUN, fun c => boolNat ((s.program (c / 152) (c % 152)).isSome && (s.partOf (c / 152)).any s.running)),
   (CORE_THR_STATE.STATE, fun c => ((List.range 32).map fun t => thrNum (s.thread (c * 32 + t)).st * 16 ^ t).sum),
   (CORE_THR_INFO.PARK_KIND, fun c => (s.parkInfo r (sel c)).1),
   (CORE_THR_INFO.PARK_ID, fun c => (s.parkInfo r (sel c)).2),
   (CORE_THR_INFO.PC, fun c => (s.thread (sel c)).pc % 8192),
   (CORE_MEM_DATA.DATA, fun c => if s.memSeen c && !(word c).poison then (word c).data.toNat else 0),
   (CORE_MEM_FE.POISON, fun c => boolNat (s.memSeen c && (word c).poison)),
   (CORE_MEM_FE.FE, fun c => boolNat (s.memSeen c && (word c).full)),
   (CORE_FQUIET.QUIET, fun f => maskOf 152 fun m => s.quiet (coreKey f m)),
   (CORE_SQ_STAT.STATE, fun k => bits (s.sqStat k) 31 29),
   (CORE_SQ_STAT.HALT_CAUSE, fun k => bits (s.sqStat k) 23 16),
   (CORE_SQ_STAT.KICKS, fun k => bits (s.sqStat k) 15 8),
   (CORE_SQ_STAT.INFLIGHT, fun k => bits (s.sqStat k) 7 5),
   (CORE_SQ_STAT.BATCHES, fun k => bits (s.sqStat k) 4 2),
   (CORE_SQ_CUR.LANDED, fun k => bits (s.sqCur k) 62 60),
   (CORE_SQ_CUR.SLOT, fun k => bits (s.sqCur k) 57 56),
   (CORE_SQ_CUR.TILE, fun k => bits (s.sqCur k) 55 48),
   (CORE_SQ_CUR.DESC, fun k => bits (s.sqCur k) 47 45),
   (CORE_SQ_CUR.LPAGE, fun k => bits (s.sqCur k) 39 0),
   (CORE_SPAN.STATE, fun c => ((span c).map (·.1)).getD 0),
   (CORE_SPAN.SLOT, fun c => ((span c).map (·.2)).getD 0),
   (CORE_SPAN.SID, fun c => ((span c).map fun x => (s.slot (c / 152) x.2).sid).getD 0),
   (CORE_SPAN_STEP.STEP, fun c => Store.get 0 s.replay.steps c % 2 ^ 32)]

/-- 08 (SYN). -/
def State.viewSyn (s : State) : List (Field × (Nat → Nat)) :=
  let owned := fun (p : Nat) => (s.blocksOf p).length
  [(SYN_POOL_SPLIT.P0, fun _ => owned 0),
   (SYN_POOL_SPLIT.P1, fun _ => owned 1),
   (SYN_POOL_SPLIT.P2, fun _ => owned 2),
   (SYN_POOL_SPLIT.P3, fun _ => owned 3),
   (SYN_POOL_FREE.BLOCKS, fun _ => 256 - (owned 0 + owned 1 + owned 2 + owned 3)),
   (SYN_POOL_MAP.MAP, fun i => ((List.range 8).map fun k => match Store.get 0 s.sync.blocks (8 * i + k) with
      | 0 => 0
      | o + 1 => (8 + o) * 16 ^ k).sum),
   (SYN_BAR.GEN, fun i => (s.bar (i / 64) (i % 64)).gen),
   (SYN_BAR.STATUS, fun i => (s.bar (i / 64) (i % 64)).status),
   (SYN_BAR.ARRIVED, fun i => ((s.barDef (i / 64) (i % 64)).map fun d => s.barArrived (i / 64) d).getD 0)]

/-- 09, 10, 11 and 12 (LDG, CMP). -/
def State.viewLdg (s : State) (r : Req) : List (Field × (Nat → Nat)) :=
  let k := reqKey r
  let slot := fun (f : Nat) => s.slot f (s.rd LDG_SLOT_SEL.SLOT (f * 12 + k))
  [(LDG_STAT.ENTRIES, fun f => s.entriesIn f),
   (LDG_T1.USED, fun f => s.ldgUsed f),
   (LDG_T1.BUDGET, fun f => s.ldgBudget f),
   (LDG_RSV.FREE, fun f => (s.fplan (s.entPart f) f).spages - s.rsvUsed f),
   (LDG_RSV.SIZE, fun f => (s.fplan (s.entPart f) f).spages),
   (LDG_ENT.RECORD, fun f => if s.dataSeen r (s.entPart f) then entryWord (s.entry f (s.rd LDG_ENT_SEL.ENTRY (f * 12 + k))) else 0),
   (LDG_NSTATE.COUNT, fun i => Store.count (fun key e => decide (key / 65536 = i / 9) && decide (e.st = i % 9 + 1)) s.ledger.entries),
   (LDG_SLIPQ.TILES, fun f => s.slipQ f),
   (LDG_CLS.WORD, fun f => row32 ((List.range 16).map fun w => s.clsWord f (s.rd LDG_CLS_SEL.CLASS (f * 12 + k)) w)),
   (LDG_REP_STAT.QUEUED, fun f => min 255 ((s.replay.queue.filter fun q => decide (q.1 = f)).length +
      Store.count (fun key x => decide (key / 4096 = f) && decide (x.st = 3)) s.replay.slots)),
   (LDG_REP_STAT.SLOTS, fun f => Store.count (fun key x => decide (key / 4096 = f) && decide (x.st ≠ 0)) s.replay.slots),
   (LDG_SLOT.HEADER, fun f => if (slot f).st = 0 then 0 else slotWord (slot f) (((s.spanDef f (slot f).sid).map (·.parts.length)).getD 1)),
   (LDG_SLOT_FRAME.FRAME, fun f => if s.dataSeen r (s.entPart f) then frameWord (slot f) (s.rd LDG_SLOT_SEL.PART (f * 12 + k)) else 0),
   (CMP_FSTAT.TABLES, fun f => Store.count (fun key _ => decide (key / 256 = f)) s.ledger.tables),
   (CMP_TAB.RECORD, fun f => Store.get 0 s.ledger.tables (f * 256 + s.rd CMP_TAB_SEL.SLOT (f * 12 + k)))]

/-- The tie that TJL_TIE_SEL of a requester selects, as TJL_TIE shows it: ACCEPTED, LANDED, SENT, APPLIED, OUTSTANDING, PORT, STATE.
A partition's function sees its own. -/
def State.tieView (s : State) (r : Req) : List Nat :=
  let k := reqKey r
  let t := s.rd TJL_TIE_SEL.TIE k
  if s.rd TJL_TIE_SEL.IMPORT k = 0 then
    let x := s.tie t
    if (reqPart r).all (fun p => decide (x.part = p)) then [x.acc, x.landed, x.sent, x.applied, x.outst.length, x.port - 1, x.st] else []
  else
    let w := s.rd TJL_TIE_SEL.SRCW k
    match s.importOf w t with
    | none => []
    | some (p, i) =>
      let x := s.imp (impKey w t)
      if (reqPart r).all (fun q => decide (q = p)) then
        [0, x.landed, 0, x.applied, 0, x.port - 1, if s.impStalled i then 3 else if x.port = 0 then 5 else 1]
      else []

/-- 13, 14, 15 (TJL, HPT, SEC). -/
def State.viewHost (s : State) (r : Req) : List (Field × (Nat → Nat)) :=
  let tie := fun (n : Nat) => (s.tieView r).getD n 0
  let own := fun (n : Nat) => match r with
    | .host x _ => Store.get hsemReq0 s.hosts.semReq (x.val * 16 + n)
    | _ => hsemReq0
  let fields := fun (p : Nat) (g : Reg) => (s.fieldsOf p).any fun f => s.anyBit g f
  [(TJL_TIE.ACCEPTED, fun _ => tie 0),
   (TJL_TIE.LANDED, fun _ => tie 1),
   (TJL_TIE.SENT, fun _ => tie 2),
   (TJL_TIE.APPLIED, fun _ => tie 3),
   (TJL_TIE.OUTSTANDING, fun _ => tie 4),
   (TJL_TIE.PORT, fun _ => tie 5),
   (TJL_TIE.STATE, fun _ => tie 6),
   (HPT_PEVT.GRD, fun p => boolNat (s.anyBit GRD_EVT p || s.anyBit GRD_TEVT p)),
   (HPT_PEVT.TJL, fun p => boolNat (s.anyBit TJL_PEVT p)),
   (HPT_PEVT.CMP, fun p => boolNat (s.anyBit CMP_EVT p)),
   (HPT_PEVT.LDG, fun p => boolNat (fields p LDG_EVT || fields p LDG_POL_EVT || fields p LDG_REP_EVT)),
   (HPT_PEVT.SYN, fun p => boolNat (s.anyBit SYN_EVT p)),
   (HPT_PEVT.STR, fun p => boolNat ((List.range 16).any fun g => s.anyBit STR_FG_EVT (p * 16 + g))),
   (HPT_PEVT.REPO, fun p => boolNat (s.anyBit REPO_EVT p)),
   (HPT_PEVT.TIER, fun p => boolNat (decide (s.rd TIER_FLT.VALID 0 = 1) && decide (s.rd TIER_FLT.PART 0 = p))),
   (HPT_PEVT.PAR, fun p => boolNat (s.anyBit PAR_EVT p)),
   (HSEM_STAT.SEQ, fun n => (own n).seq),
   (HSEM_STAT.GEN, fun n => (s.sem n).gen),
   (HSEM_STAT.LEFT, fun n => if (s.sem n).holder = 0 then 0 else (s.leaseOf n - s.leaseGone n) / 1000000),
   (HSEM_STAT.DUP, fun n => boolNat (own n).dup),
   (HSEM_STAT.HOLDER, fun n => (s.sem n).holder),
   (HSEM_STAT.RESULT, fun n => (own n).result),
   (SEC_DBG_LEFT.SECONDS, fun _ => if s.rd SEC_DBG_STAT.UNLOCKED 0 = 1 then (s.sec.ends - s.now) / 1000000000 else 0),
   (SEC_IDPUB.DIGEST, fun _ => Config.identity % 2 ^ 384)]

/-- 17 and 18 (GRD). -/
def State.viewGrd (s : State) : List (Field × (Nat → Nat)) :=
  [(GRD_VR.RECORD, fun i => Store.get 0 s.guard.records i),
   (GRD_TSTAT.HELD, fun p => (s.guard.tests.filter fun e => s.owns p (e.1 / 152) && decide (e.2.seg ≠ 0)).length),
   (GRD_ROT_SLACK.US, fun p => s.rotSlack p),
   (GRD_INJ_AGE.HOURS, fun p => match Store.get 0 s.guard.inj p with
      | 0 => 0
      | t + 1 => min 65535 ((s.now - t) / 3600000000000))]

/-- 21 and 22 (CNT, DBG, SBM). -/
def State.viewDbg (s : State) (r : Req) : List (Field × (Nat → Nat)) :=
  let k := reqKey r
  let bank := fun (i : Nat) => (Store.get [] s.dbg.banks k).getD i (0, false)
  let obj := (s.selObj r).map fun x => s.obj x.1
  let last := fun (g : Signaller → Nat) => ((obj.bind (·.last)).map g).getD 0
  let waits := ((s.selObj r).map fun x => (s.parkRecs [] (s.waitersOf x.1)).map (·.2.2)).getD []
  [(CNT_BANK.VALUE, fun i => (bank i).1),
   (CNT_BANK_WRAP.WRAP, fun i => maskOf 32 fun b => (bank (32 * i + b)).2),
   (DBG_WG_ENT.RECORD, fun p => s.recFor r ((Store.get [] s.dbg.graph p).getD (s.rd DBG_WG_SEL.REC (p * 12 + k)) 0)),
   (DBG_SO_VIEW.LTICK, fun _ => last (·.tick)),
   (DBG_SO_VIEW.LFIELD, fun _ => last (·.field)),
   (DBG_SO_VIEW.LCORE, fun _ => last (·.core)),
   (DBG_SO_VIEW.LUNIT, fun _ => last (·.unit)),
   (DBG_SO_VIEW.LOP, fun _ => last fun x => x.op - 1),
   (DBG_SO_VIEW.HELD, fun _ => (obj.map (·.held.length)).getD 0),
   (DBG_SO_VIEW.LANDED, fun _ => (obj.map (·.landed)).getD 0),
   (DBG_SO_VIEW.WAITERS, fun _ => waits.length),
   (DBG_SO_VIEW.LIVE, fun _ => (obj.map fun o => boolNat o.live).getD 0),
   (DBG_SO_VIEW.WORD, fun _ => (obj.map fun o => objView o % 2 ^ 34).getD 0),
   (DBG_SO_WAIT.RECORD, fun _ => s.recFor r (waits.getD (s.rd DBG_SO_SEL.WAITER k) 0)),
   (DBG_TR_ENT.RECORD, fun _ => s.dbg.trace.getD ((s.rd DBG_TR_STAT.NEXT 0 + 524287 - s.rd DBG_TR_SEL.SLOT k) % 524288) 0),
   (SBM_MGMT_STAT.DYN, fun _ => s.side.dyn),
   (SBM_MGMT_STAT.I3C, fun _ => boolNat (decide (s.side.dyn ≠ 0))),
   (SBM_MGMT_STAT.STATIC, fun _ => 0x58 + s.side.maddr),
   (SBM_ALERT_SRC.THERM, fun _ => bits s.alertSrc 4 4),
   (SBM_ALERT_SRC.FLOG, fun _ => bits s.alertSrc 3 3),
   (SBM_ALERT_SRC.SAFE, fun _ => bits s.alertSrc 1 1),
   (SBM_ALERT_SRC.DEV, fun _ => bits s.alertSrc 0 0),
   (SBM_GPIO_IN.IN, fun _ => s.side.levels),
   (SBM_DPIN.PPS, fun _ => boolNat (Config.pinLevel 16 s.now)),
   (SBM_DPIN.TAMPER_N, fun _ => boolNat (Config.pinLevel 17 s.now)),
   (SBM_DPIN.MADDR, fun _ => s.side.maddr)]

/-- The views of a block. -/
def State.viewsOf (s : State) (r : Req) : Block → List (Field × (Nat → Nat))
  | .sys => s.viewSys r
  | .par => s.viewSys r
  | .tier => s.viewTier r
  | .repo => s.viewTier r
  | .core => s.viewCore r
  | .syn => s.viewSyn
  | .ldg => s.viewLdg r
  | .cmp => s.viewLdg r
  | .tjl => s.viewHost r
  | .hpt => s.viewHost r
  | .sec => s.viewHost r
  | .grd => s.viewGrd
  | .cnt => s.viewDbg r
  | .dbg => s.viewDbg r
  | .sbm => s.viewDbg r
  | .str => []

end Sys2Proof.Machine
end

