-- ==== Sys2Proof/Machine/Bus.lean ====
section
/-! DEFINITION. Reads of the registers (00_scope.md R13-R19, 21_counters_debug.md R516) and what each requester sees
(25_register_index.md). -/

namespace Sys2Proof.Machine

/-! ### What a requester sees -/

/-- The value of the first index of a copy of a register. -/
def Reg.outer (g : Reg) (i : Nat) : Nat := i / g.inner

/-- Registers without a copy per partition or field that a partition's function reads. -/
def openRegs : List Reg :=
  [SYS_ID, SYS_TB, SYS_TB_STAT, SYS_TB_PPS, SYS_TB_PPS_SEQ, PAR_LAYOUT, PAR_FD_OWN, PAR_LD_OWN, TIER_PD_SEL, TIER_PD, REPO_CTL, REPO_RD,
   REPO_WL, REPO_TMO, HPT_PORT, SYN_POOL_SPLIT, TJL_ID, TJL_CLUSTER, TJL_TB_CFG, TJL_TB_STAT, TJL_TB_OFS, TJL_TB_ERR, TJL_TIE_SEL, TJL_TIE,
   GRD_PIN, GRD_CK_HEALTH, GRD_TB_CHK, SEC_STAT, SEC_IDPUB, CNT_SNAP_CMD, CNT_SNAP_STAT, CNT_BANK, CNT_BANK_WRAP, DBG_SO_SEL, DBG_SO_VIEW,
   DBG_SO_WAIT, DBG_SO_SET, DBG_SO_SET_STAT]

/-- Of these, the registers that a partition's function may write. -/
def openWrites : List Reg := [TIER_PD_SEL, TJL_TIE_SEL, CNT_SNAP_CMD, DBG_SO_SEL, DBG_SO_SET]

/-- Whether a register is one of a list. -/
def Reg.oneOf (g : Reg) (l : List Reg) : Bool := l.any fun x => decide (x.base = g.base)

/-- Whether a partition owns the edge die of a crossing (R58, R61). -/
def State.ownsEdge (s : State) (p x : Nat) : Bool :=
  if x < 114 then false
  else if x < 130 then decide (s.flashOwner (x - 114) = some p)
  else if x < 138 then decide (s.linkOwner (x - 130) = some p)
  else false

/-- Whether a partition's function sees a copy of a register (R58, R83, R111, R137, R224, R254, R312, R346, R370, R392, R447, R526). -/
def State.partSees (s : State) (p : Nat) (g : Reg) (i : Nat) : Bool :=
  if g.block = .sbm then false
  else match g.dims with
    | (4, _) :: _ => decide (g.outer i = p)
    | (64, _) :: _ => s.owns p (g.outer i)
    | _ =>
      if g.oneOf openRegs then true
      else if g.oneOf [TIER_FLT, TIER_FLT_LOC] then decide (s.rd TIER_FLT.VALID 0 = 1) && decide (s.rd TIER_FLT.PART 0 = p)
      else if g.oneOf [HSEM_CLAIM, HSEM_STAT] then decide (i = p)
      else if g.oneOf [SYS_XING] then (xingEnds i).any (s.owns p) || s.ownsEdge p i
      else if g.oneOf [REPO_DIE] then decide (s.flashOwner i = some p)
      else if g.oneOf [REPO_CH] then decide (s.flashOwner (i / 16) = some p)
      else if g.oneOf [TJL_PORT, TJL_PORT_LANES, TJL_PORT_EVT] then decide (s.linkOwner i = some p)
      else false

/-- Whether a partition's function may write a copy that it sees (R58, R137, R392, R447, R471). -/
def State.partWrites (s : State) (p : Nat) (g : Reg) (i : Nat) : Bool :=
  s.partSees p g i && (if g.block = .sys then g.oneOf [SYS_FTGT] else if g.dims.isEmpty then g.oneOf (TIER_FLT :: openWrites) else true)

/-- Whether a requester reads a copy of a register. CORE_MEM_* needs debug unlocked with local memory access (R161), the trace
registers trace capture of what they select (R529, R532). -/
def State.sees (s : State) (r : Req) (g : Reg) (i : Nat) : Bool :=
  (match reqPart r with
    | none => true
    | some p => s.partSees p g i) &&
  (!g.oneOf [CORE_MEM_ADDR, CORE_MEM_DATA, CORE_MEM_FE] || s.memSeen i) &&
  (!g.oneOf [DBG_TR_CTL, DBG_TR_OBJ, DBG_TR_STAT, DBG_TR_SEL, DBG_TR_ENT] || ((reqPart r).isNone && s.traceOk))

/-! ### Reads -/

/-- Where a copy's field is stored. -/
def Reg.place (g : Reg) (r : Req) (i : Nat) : Nat := if g.perReq then i * 12 + reqKey r else i

/-- What a requester reads of a field (R16): what it shows, or what is stored; a WO field reads 0. -/
def State.fieldValue (s : State) (r : Req) (g : Reg) (i : Nat) (f : Field) : Nat :=
  if f.acc = .wo then 0
  else match (s.viewsOf r g.block).find? fun v => decide (v.1.id = f.id) with
    | some v => v.2 i % 2 ^ f.width
    | none => s.rd f (g.place r i)

/-- A word of a copy of a register, as a requester reads it now. -/
def State.regWord (s : State) (r : Req) (g : Reg) (i w : Nat) : Nat :=
  if s.sees r g i then wordOf (g.fields.filter fun f => f.mask w != 0) (s.fieldValue r g i) w else 0

/-- The first word and the number of words that one snapshot takes with a word (R515, R516): the whole register; a table whose
words are registers of their own has none but where a value takes two words. -/
def Reg.span (g : Reg) (w : Nat) : Nat × Nat :=
  if g.oneOf [GRD_STG] then (if w < 6 then (w, 1) else (6, 2))
  else if g.oneOf [GRD_TASK, LDG_EST, PAR_RES, PAR_SHORT] then (w, 1)
  else (0, g.words)

/-- RC fields of a word that has been read, cleared (R16). -/
def State.readClear (s : State) (r : Req) (g : Reg) (i w : Nat) : State :=
  if s.sees r g i then s.each (g.fields.filter fun f => decide (f.acc = .rc) && f.mask w != 0) fun s f => s.wr f (g.place r i) 0 else s

/-- What a read of HPT_PEVT or of a ring head ends (R363, R489, R554): vectors 0 and 3 of the function may be sent again, and the
sources DEV and FLOG of ALERT_N are served. -/
def State.headRead (s : State) (r : Req) (g : Reg) (i : Nat) : State :=
  if !s.sees r g i then s
  else
    let let0 := fun (k : Nat) (s : State) => s.onHosts fun h => { h with inh0 := Store.set false h.inh0 k false }
    let let3 := fun (k : Nat) (s : State) => s.onHosts fun h => { h with inh3 := Store.set false h.inh3 k false }
    if g.oneOf [HPT_PEVT] then match r with
      | .host x pf => let0 (funcKey x.val pf.val) (if pf.val = 0 then s.onSide fun y => { y with dev := false } else s)
      | _ => s.onSide fun y => { y with dev := false }
    else if g.oneOf [PAR_FLOG_HEAD] then match r with
      | .host x pf => if pf.val = 0 then s else let3 (funcKey x.val pf.val) s
      | _ => s
    else if g.oneOf [PAR_DLOG_HEAD] then match r with
      | .host x _ => let3 (funcKey x.val 0) s
      | _ => s.onSide fun y => { y with seen := headSeq (·.dseq) s.logs.dev }
    else s

/-- Whether a requester's read reaches the device: the management interface always, a function of a port that is UP and in D0. -/
def State.readOn (s : State) (r : Req) : Bool :=
  match r with
  | .mgmt => true
  | _ => s.reqOn r

/-- The MSI-X table and Pending Bit Array of a function (R362, R580): four words an entry, 64 pending bits. -/
def State.msixWord (s : State) (r : Req) (off : Nat) : Nat :=
  match r with
  | .host x pf =>
    let e := fun (v : Nat) => Store.get msix0 s.hosts.msix (funcKey x.val pf.val * 64 + v)
    let o := off - 0x108000
    if o < 0x400 then (let n := e (o / 16)
      if o / 4 % 4 = 0 then n.addr % 2 ^ 32 else if o / 4 % 4 = 1 then n.addr / 2 ^ 32 else if o / 4 % 4 = 2 then n.data else n.ctrl)
    else if 0x1000 ≤ o ∧ o < 0x1008 then maskOf 32 fun b => (e ((o - 0x1000) / 4 * 32 + b)).pend
    else 0
  | _ => 0

/-- Whether an offset lies where the MSI-X table and Pending Bit Array are. -/
def inMsix (off : Nat) : Bool := decide (0x108000 ≤ off) && decide (off < 0x10A000)

/-- A 4-byte read: the new state and the data (R14-R16, R24, R516). -/
def State.readWord (s : State) (r : Req) (off : Nat) : State × Nat :=
  if inMsix off then (s, s.msixWord r off)
  else match locate off with
    | none => (s, 0)
    | some (g, i, w) =>
      let k := 2 * reqKey r
      let base := off - 4 * w + 1
      let (w0, n) := g.span w
      if 1 < n ∧ w = w0 then
        let whole := ((List.range n).map fun j => s.regWord r g i (w0 + j) * 2 ^ (32 * j)).sum
        ({ s with shadow := Store.set 0 (Store.set 0 s.shadow k (base + 4 * w0)) (k + 1) whole }, whole % 2 ^ 32)
      else if 1 < n ∧ Store.get 0 s.shadow k = base + 4 * w0 then (s, Store.get 0 s.shadow (k + 1) / 2 ^ (32 * (w - w0)) % 2 ^ 32)
      else
        let v := s.regWord r g i w
        (((s.readClear r g i w).headRead r g i).alertCheck, v)

/-- The same, its data sent to the requester. -/
def State.answerRead (s : State) (r : Req) (off : Nat) : State :=
  if s.readOn r then (let a := s.readWord r off
    a.1.emit (.read r off a.2)) else s

/-- SNAPSHOT_READ (R15, R516): a read of a register of several words. -/
def execSnapshotRead (r : Req) (off : Nat) (s : State) : Host.Outcome State Fault Refusal :=
  .next (if off % 4 = 0 then s.answerRead r off else s)

/-- RC_READ (R16, R19): a read of a register with RC fields. -/
def execRcRead (r : Req) (off : Nat) (s : State) : Host.Outcome State Fault Refusal :=
  .next (if off % 4 = 0 then s.answerRead r off else s)

/-- PEVT_READ (R363): a read of HPT_PEVT. -/
def execPevtRead (r : Req) (p : Part) (s : State) : Host.Outcome State Fault Refusal := .next (s.answerRead r (0x100100 + p.val * 0x100))

/-- FLOG_HEAD_READ (R489): a read of PAR_DLOG_HEAD, or of a partition's PAR_FLOG_HEAD. -/
def execFlogHeadRead (r : Req) (ring : Option Part) (s : State) : Host.Outcome State Fault Refusal :=
  .next (s.answerRead r (match ring with
    | none => 0x200030
    | some p => 0x20017C + p.val * 0x100))

/-- MISALIGNED_ACCESS (R14): a write is discarded, a read answered with bytes of 0xFF; ACC_SIZE either way. -/
def execMisalignedAccess (r : Req) (bar2 : Bool) (off len : Nat) (write : Bool) (s : State) : Host.Outcome State Fault Refusal :=
  .next (match r with
    | .host x pf =>
      if !s.fnOn x.val pf.val || (decide (off % 4 = 0) && decide (len = 4)) || (decide (off % 8 = 0) && decide (len = 8)) then s
      else
        let s := s.logAccess 1 (reqPart r).toList (if bar2 then 2 ^ 26 + off else off)
        if write then s else s.emit (.read r off (2 ^ (8 * len) - 1))
    | _ => s)

end Sys2Proof.Machine
end

