-- ==== Sys2Proof/Machine/BusWrite.lean ====
section
/-! DEFINITION. Writes of the registers (00_scope.md R14-R24, 20_collisions.md R506), the commands that registers start, the MSI-X
table (14_host_ports.md R362) and the doorbell slots of BAR2 (R358, R359). -/

namespace Sys2Proof.Machine

/-- The state that a meaning leads to. -/
def afterOf (s : State) : Host.Outcome State Fault Refusal → State
  | .next t => t
  | _ => s

/-- A partition from a register copy's number. -/
def partNo (i : Nat) : Part := ⟨i % 4, Nat.mod_lt _ (by decide)⟩

/-! ### Seals (R17) -/

/-- Whether the RWL fields of a copy of a register are sealed: its partition's seal; without one, the end of start-up. -/
def State.sealedAt (s : State) (g : Reg) (i : Nat) : Bool :=
  let boot := decide (s.rd SYS_BOOT_STAT.DONE 0 = 1)
  match g.dims with
  | (4, _) :: _ => (s.part (g.outer i)).isSealed || (decide (s.cols (g.outer i) = 0) && boot)
  | (64, _) :: _ => match s.partOf (g.outer i) with
    | some p => (s.part p).isSealed
    | none => boot
  | _ => boot

/-! ### Local memory through debug (R161, R150) -/

/-- Whether a requester's write reaches local memory of a core: debug is unlocked for it, and a partition's function owns it. -/
def State.memWrites (s : State) (r : Req) (c : Nat) : Bool :=
  s.reqOn r && s.memSeen c && (reqPart r).all fun p => s.owns p (c / 152)

/-- The fault log entry of a write to local memory. -/
def State.logMem (s : State) (r : Req) (c code : Nat) : State :=
  s.log ⟨0x10, Config.accessCode code % 256, c / 152, c % 152, debuggerUnit r, (s.partOf (c / 152)).toList, 1, Config.detail [c, s.memSel r c]⟩

/-- CORE_MEM_DATA_WRITE (R161, R147): the selected word stored whole, its F/E bit kept, poison cleared. -/
def execCoreMemDataWrite (r : Req) (f : FieldId) (m : CoreId) (data : BitVec 64) (s : State) : Host.Outcome State Fault Refusal :=
  .next (
    let c := coreKey f.val m.val
    if !s.memWrites r c then s
    else
      let k := s.memSel r c
      (s.setWord k ⟨data, (s.word k).full, false⟩).logMem r c 1)

/-- CORE_MEM_FE_WRITE (R161, R150): the F/E bit of the selected word; one that is set full wakes threads as a landing does. -/
def execCoreMemFeWrite (r : Req) (f : FieldId) (m : CoreId) (data : BitVec 32) (s : State) : Host.Outcome State Fault Refusal :=
  .next (
    let c := coreKey f.val m.val
    if !s.memWrites r c then s
    else
      let k := s.memSel r c
      let full := bit data.toNat 0
      let s := (s.setWord k { s.word k with full := full }).logMem r c 2
      if full then s.serveWord k else s)

/-! ### Staged words (R15) -/

/-- Where a word that a requester has written lies until its field changes. -/
def stageKey (r : Req) (off : Nat) : Nat := off * 12 + reqKey r

/-- A word kept for a requester. -/
def State.stage (s : State) (r : Req) (off v : Nat) : State := { s with staged := Store.set 0 s.staged (stageKey r off) (v + 1) }

/-- The word last kept for a requester; 0 where none is. -/
def State.stagedWord (s : State) (r : Req) (off : Nat) : Nat := Store.get 0 s.staged (stageKey r off) - 1

/-- A field whose lower bits lie in the word before has changed: nothing is staged for it any more. -/
def State.unstage (s : State) (off : Nat) : State :=
  { s with staged := Store.keep (fun k => decide (k / 12 ≠ off)) s.staged }

/-! ### Commands -/

/-- The commands of a word that holds CMD or OP and SEQ: an unlisted code is discarded and logged (R23). -/
def State.coded (s : State) (r : Req) (off : Nat) (l : List (Host.Outcome State Fault Refusal)) (c : Nat) : State :=
  match (if c = 0 then none else l[c - 1]?) with
  | some o => afterOf s o
  | none => s.logAccess 3 (reqPart r).toList off

/-- What the write of a word starts, where its register is one that acts by itself; lower words of a command are kept for the
requester. -/
def State.command (s : State) (r : Req) (g : Reg) (i w off v : Nat) : Option State :=
  let low := fun (j : Nat) => s.stagedWord r (off - 4 * w + 4 * j)
  let last := fun (t : State) => some (if w + 1 = g.words then t else s.stage r off v)
  let seq := BitVec.ofNat 16 (v / 2 ^ 16)
  let c := v % 8
  let p := partNo i
  let two := low 0 + v * 2 ^ 32
  if g.oneOf [PAR_CMD] then
    some (s.coded r off [execRun r p seq s, execSuspend r p seq s, execResume r p seq s, execStop r p seq s, execRestart r p seq (bit v 8) s] c)
  else if g.oneOf [REPO_CMD] then
    let n : Fin 256 := ⟨v / 256 % 256, Nat.mod_lt _ (by decide)⟩
    some (s.coded r off [execOpenVolume r p n seq s, execCloseVolume r p n seq s, execAbandonVolume r p n seq s, execVolumeFree r p n seq s,
      execFreeUnbound r p n seq s] c)
  else if g.oneOf [REPO_LOAD] then
    last (afterOf s (execRepoLoad r p (BitVec.ofNat 40 (low 0 + low 1 * 2 ^ 32)) (BitVec.ofNat 24 (low 1 / 256)) seq s))
  else if g.oneOf [TJL_PCMD] then some (s.coded r off [execTjlResume r p seq s] c)
  else if g.oneOf [HPT_STG_SEAL] then
    last (afterOf s (execStagingSeal r p (BitVec.ofNat 20 two) (BitVec.ofNat 20 (two / 2 ^ 24)) ⟨two / 2 ^ 44 % 16, Nat.mod_lt _ (by decide)⟩ seq s))
  else if g.oneOf [HPT_STG_FREE] then
    last (afterOf s (execStagingFree r p (BitVec.ofNat 20 two) (BitVec.ofNat 20 (two / 2 ^ 24)) seq s))
  else if g.oneOf [HSEM_CLAIM] then
    let n : Fin 16 := ⟨i % 16, Nat.mod_lt _ (by decide)⟩
    some (s.coded r off [execClaim r n seq s, execRelease r n seq s, execHandover r n seq s] c)
  else if g.oneOf [GRD_TRIP] then some (afterOf s (execGrdTripWrite r p (bit v 0) s))
  else if g.oneOf [SYS_TB_TRIM] then some (afterOf s (execTbTrimWrite r (BitVec.ofNat 32 v) s))
  else if g.oneOf [SYS_RESET] then some (if v = 0xD5E7 then afterOf s (execSysReset r s) else s.logAccess 3 [] off)
  else if g.oneOf [SYS_NVM_CMD] then some (s.coded r off [execNvmErase r seq s, execNvmProgram r seq s, execNvmRead r seq s] c)
  else if g.oneOf [SEC_ZCMD] then
    some (if v % 256 = 0xA5 then afterOf s (execArm r s) else if v % 256 = 0x5A then afterOf s (execZero r (bit v 8) s)
      else s.log ⟨0x0B, Config.accessCode 3 % 256, 0x71, 0xFF, 0, [], 1, v⟩)
  else if g.oneOf [SEC_DBG_CMD] then some (s.coded r off [execUnlock r s, execLock r s] (v % 4))
  else if g.oneOf [SEC_DBG_TOKEN] then some (if s.dbgReq r then s.wr SEC_DBG_TOKEN.WORD i v else s)
  else if g.oneOf [CNT_SNAP_CMD] then
    last (afterOf s (execCapture r ⟨two / 2 ^ 42 % 4, Nat.mod_lt _ (by decide)⟩ (partNo (two / 2 ^ 40)) ⟨two / 2 ^ 32 % 64, Nat.mod_lt _ (by decide)⟩
      (BitVec.ofNat 8 (two / 2 ^ 24)) (BitVec.ofNat 11 two) ⟨two / 2 ^ 11 % 1024, Nat.mod_lt _ (by decide)⟩ (bit two 47) seq s))
  else if g.oneOf [DBG_SO_SET] then last (afterOf s (execSoSet r (BitVec.ofNat 32 two) (bit two 32) (bit two 33) (bit two 34) seq s))
  else if g.oneOf [SBM_PIN_CFG] then
    some (afterOf s (execPinSwitch r ⟨i % 16, Nat.mod_lt _ (by decide)⟩ (BitVec.ofNat 4 v) (BitVec.ofNat 2 (v / 2 ^ 4)) (BitVec.ofNat 2 (v / 2 ^ 6))
      (BitVec.ofNat 16 (v / 2 ^ 8)) s))
  else if g.oneOf [CORE_MEM_DATA] then
    let f : FieldId := ⟨i / 152 % 64, Nat.mod_lt _ (by decide)⟩
    let m : CoreId := ⟨i % 152, Nat.mod_lt _ (by decide)⟩
    let k := Store.get 0 s.staged (stageKey r (off - 4))
    let lo := if k = 0 then (s.word (s.memSel r i)).data.toNat % 2 ^ 32 else k - 1
    last ((afterOf s (execCoreMemDataWrite r f m (BitVec.ofNat 64 (lo + v * 2 ^ 32)) s)).unstage (off - 4))
  else if g.oneOf [CORE_MEM_FE] then
    some (afterOf s (execCoreMemFeWrite r ⟨i / 152 % 64, Nat.mod_lt _ (by decide)⟩ ⟨i % 152, Nat.mod_lt _ (by decide)⟩ (BitVec.ofNat 32 v) s))
  else none

/-! ### Fields -/

/-- A field's value after the write of the word that holds its highest bit, with what its requester has staged (R15). -/
def State.newValue (s : State) (r : Req) (f : Field) (place w off v : Nat) : Nat :=
  let cur := s.rd f place
  let k := if f.lo / 32 < w then Store.get 0 s.staged (stageKey r (off - 4)) else 0
  f.merged (if k = 0 then cur else f.merged cur (w - 1) (2 ^ 32 - 1) (k - 1)) w (2 ^ 32 - 1) v

/-- The test interval that a rotation of R457 needs at least: the TEST_MS rule of R448 with the held PAR, SEG_US and GAP_US. -/
def State.testFits (s : State) (p ms : Nat) : Bool :=
  let par := max 1 (s.rd GRD_TEST_CFG.PAR p)
  decide ((152 + par - 1) / par * 12 * (s.rd GRD_TEST_CFG.SEG_US p + s.rd GRD_TEST_CFG.GAP_US p) ≤ ms * 1000)

/-- The encodings that fields of a write have together (R23): SYS_THERM, GRD_WIN, SBM_PIN_TGT, and the Limits tables of
03_partitions_admission.md (PAR_WMARK) and 18_guard_timing.md (GRD_TCFG, GRD_AGE). -/
def State.fits (s : State) (g : Reg) (i : Nat) (val : Field → Nat) : Bool :=
  if g.oneOf [SYS_THERM] then decide (val SYS_THERM.THROTTLE < val SYS_THERM.CRIT)
  else if g.oneOf [GRD_WIN] then decide (val GRD_WIN.THRESH ≤ val GRD_WIN.SPAN)
  else if g.oneOf [PAR_WMARK] then decide (val PAR_WMARK.LOW < val PAR_WMARK.HIGH)
  else if g.oneOf [GRD_TCFG] then decide (val GRD_TCFG.TEST_MS ≤ val GRD_TCFG.FTTI_MS / 2) && s.testFits i (val GRD_TCFG.TEST_MS)
  else if g.oneOf [GRD_AGE] then decide (val GRD_AGE.LIMIT ≤ s.rd GRD_TCFG.FTTI_MS i * 100)
  else if g.oneOf [SBM_PIN_TGT] then
    let f := s.rd SBM_PIN_CFG.FUNC i
    let t := val SBM_PIN_TGT.TGT
    if f = 4 ∨ f = 5 then decide (t &&& 0xFCFFC000 = 0) else if f = 9 then pinCfgOk f 0 1 (s.rd SBM_PIN_CFG.WIDTH i) t else true
  else true

/-- Whether a partition's function lacks the semaphore that a write needs: of an RWL field, and of SYS_FTGT (R367). -/
def State.needsSteward (s : State) (r : Req) (g : Reg) (fs : List Field) : Bool :=
  match r with
  | .host x pf => decide (pf.val ≠ 0) && (g.oneOf [SYS_FTGT] || fs.any fun f => decide (f.acc = .rwl)) && !s.isSteward (pf.val - 1) x.val
  | _ => false

/-- W1C bits of a field that a write of 1 clears; GRD_PIN.MISMATCH only once both pins read back as commanded (R442). -/
def State.clearBits (s : State) (f : Field) (place w v : Nat) : State :=
  let cur := s.rd f place
  let one := (f.merged 0 w (2 ^ 32 - 1) v) &&& cur
  if f.id = GRD_PIN.MISMATCH.id ∧ (s.rd GRD_PIN.A_READ 0 ≠ s.rd GRD_PIN.A_CMD 0 ∨ s.rd GRD_PIN.B_READ 0 ≠ s.rd GRD_PIN.B_CMD 0) then s
  else s.wr f place (cur - one)

/-- The fields that the write of a word gives their value: PART of TIER_PD_SEL is read-only for a partition's function (R111). -/
def wordFields (r : Req) (g : Reg) (w : Nat) : List Field :=
  g.fields.filter fun f => decide (f.hi / 32 = w) && !(decide (f.id = TIER_PD_SEL.PART.id) && (reqPart r).isSome)

/-- A GPIO output follows SBM_GPIO_OUT (R555). -/
def State.gpioAll (s : State) (old : Nat) : State :=
  s.each ((List.range 16).filter fun n => (decide (Store.get 0 s.side.act n = 2) || decide (Store.get 0 s.side.act n = 3)) &&
    (bit old n != bit (s.rd SBM_GPIO_OUT.OUT 0) n)) fun s n => s.gpioDrive n

/-- The write of a word of a register that only holds values (R15-R17, R23). -/
def State.plainWrite (s : State) (r : Req) (g : Reg) (i w off v : Nat) : State :=
  let place := g.place r i
  let fs := wordFields r g w
  let parts : List Nat := (reqPart r).toList
  if s.needsSteward r g fs then s.logAccess 5 parts off
  else
    let val := fun (f : Field) => s.newValue r f place w off v
    let shut := fs.filter fun f => decide (f.acc = .rwl) && s.sealedAt g i
    let live := fs.filter fun f => decide (f.acc = .rw) || (decide (f.acc = .rwl) && !s.sealedAt g i)
    let s := s.on (shut.any fun f => decide (val f ≠ s.rd f place)) fun s => s.logAccess 2 parts off
    if live.any (fun f => !f.lists (val f)) || (!live.isEmpty && !s.fits g i val) then s.logAccess 3 parts off
    else
      let old := s.rd SBM_GPIO_OUT.OUT 0
      let s := s.each live fun s f => (s.wr f place (val f)).on (decide (f.lo / 32 < w)) fun s => s.unstage (off - 4)
      let s := s.each (fs.filter fun f => decide (f.acc = .w1c)) fun s f => s.clearBits f place w v
      let s := s.on (g.fields.any fun f => decide (f.acc = .rw) && decide (f.lo / 32 ≤ w) && decide (w < f.hi / 32)) fun s => s.stage r off v
      ((s.on (s.rd SEC_STAT.EVAL 0 = 1) (·.forced)).on (g.oneOf [SBM_GPIO_OUT]) fun s => s.gpioAll old).alertCheck

/-- The trace registers act while debug is unlocked with TRACE (R529): START and STOP after the selection written with them. -/
def State.traceWrite (s : State) (r : Req) (g : Reg) (i w off v : Nat) : State :=
  if (s.rd SEC_DBG_STAT.UNLOCKED 0 = 1 ∧ bit (s.rd SEC_DBG_STAT.CAPS 0) 3 = true) then
    let s := s.plainWrite r g i w off v
    if g.oneOf [DBG_TR_CTL] then
      let s := if bit v 0 then afterOf s (execTraceStart r s) else s
      if bit v 1 then afterOf s (execTraceStop r s) else s
    else s
  else s

/-- A write of a function's MSI-X table (R362); a vector that is unmasked is sent if it is pending (R364). -/
def State.msixWrite (s : State) (r : Req) (off v : Nat) : State :=
  match r with
  | .host x pf =>
    let o := off - 0x108000
    if o < 0x400 then
      let k := funcKey x.val pf.val * 64 + o / 16
      let e := Store.get msix0 s.hosts.msix k
      let e := if o / 4 % 4 = 0 then { e with addr := e.addr / 2 ^ 32 * 2 ^ 32 + v } else if o / 4 % 4 = 1 then { e with addr := e.addr % 2 ^ 32 + v * 2 ^ 32 }
        else if o / 4 % 4 = 2 then { e with data := v } else { e with ctrl := v % 2 }
      (s.onHosts fun h => { h with msix := Store.set msix0 h.msix k e }).flushMsix x.val pf.val
    else s
  | _ => s

/-- A 4-byte write of BAR0. -/
def State.writeWord (s : State) (r : Req) (off v : Nat) : State :=
  if !s.reqOn r then s
  else if inMsix off then s.msixWrite r off v
  else match locate off with
    | none => s
    | some (g, i, w) =>
      if (reqPart r).any (fun p => !s.partWrites p g i) || (g.oneOf [CORE_MEM_ADDR] && !s.memSeen i) then s
      else if g.oneOf [DBG_TR_CTL, DBG_TR_OBJ, DBG_TR_SEL] then s.traceWrite r g i w off v
      else if g.oneOf [SYS_NVM_BUF] && !s.boot.cmd.isEmpty then s.log ⟨0, Config.accessCode 0 % 256, 0x71, 0xFF, 0, [], 1, off⟩
      else match s.command r g i w off v with
        | some t => t
        | none => s.plainWrite r g i w off v

/-! ### BAR2 (R358, R359) -/

/-- A 4-byte write of BAR2: DB_ARG, or DB_CMD, whose upper word starts the request. The rest is reserved or read-only. -/
def State.bellWrite (s : State) (x : Port) (pf : Fin 5) (off v : Nat) : State :=
  if !s.fnOn x.val pf.val ∨ 0x800 ≤ off then s
  else
    let slot : Fin 64 := ⟨off / 0x20 % 64, Nat.mod_lt _ (by decide)⟩
    let b := s.bell pf.val slot.val
    let w := off % 0x20 / 4
    if w = 0 then s.setBell pf.val slot.val { b with arg := b.arg / 2 ^ 32 * 2 ^ 32 + v }
    else if w = 1 then s.setBell pf.val slot.val { b with arg := b.arg % 2 ^ 32 + (v &&& 0x7F01) * 2 ^ 32 }
    else if w = 2 then s.stage (.host x pf) (2 ^ 26 + off) v
    else if w = 3 then
      let cmd := s.stagedWord (.host x pf) (2 ^ 26 + off - 4) + v * 2 ^ 32
      let c := BitVec.ofNat 64 cmd
      match bits cmd 47 45 with
      | 0 => afterOf s (execDbSig x pf slot c s)
      | 1 => afterOf s (execDbSemAdd x pf slot c s)
      | 2 => afterOf s (execDbWait x pf slot c s)
      | 3 => afterOf s (execDbCancel x pf slot c s)
      | 4 => afterOf s (execDbArrive x pf slot c s)
      | _ => s.logAccess 3 [bellPart pf.val cmd] (2 ^ 26 + off)
    else s

/-- REGISTER_WRITE (R14): an aligned 4-byte or 8-byte write of BAR0 or BAR2; an 8-byte one acts as two, the lower address first. -/
def execRegisterWrite (r : Req) (bar2 : Bool) (off : Nat) (wide : Bool) (data : BitVec 64) (s : State) : Host.Outcome State Fault Refusal :=
  let lo := data.toNat % 2 ^ 32
  let hi := data.toNat / 2 ^ 32
  if off % (if wide then 8 else 4) ≠ 0 then execMisalignedAccess r bar2 off (if wide then 8 else 4) true s
  else .next (
    if bar2 then (match r with
      | .host x pf => if wide then (s.bellWrite x pf off lo).bellWrite x pf (off + 4) hi else s.bellWrite x pf off lo
      | _ => s)
    else if wide then (s.writeWord r off lo).writeWord r (off + 4) hi else s.writeWord r off lo)

end Sys2Proof.Machine
end

