-- ==== Sys2Proof/Machine/Jtag.lean ====
section
/-! DEFINITION. The test access port and its instruments (22_management_sideband.md R543-R545). -/

namespace Sys2Proof.Machine

/-- Whether an instruction lets the boundary cells hold the pins. -/
def holdsPins (c : Nat) : Bool := decide (c = 3) || decide (c = 4) || decide (c = 5)

/-- An instruction loaded: where the one before held the pins and this one does not, the functions drive them again. -/
def State.loadTap (s : State) (c : Nat) : State :=
  let back := holdsPins s.side.instr && !holdsPins c
  let s := s.onSide fun y => { y with instr := c, sibs := if c = 0x20 then y.sibs else [] }
  if back then s.each (List.range 16) fun s n => if Store.get 0 s.side.act n = 0 then s.sbpOut n none else s.takePin n else s

/-- BYPASS loaded for an instruction that is not available; the refusal is logged (R543). -/
def State.refuseTap (s : State) (c : Nat) : State :=
  (s.log ⟨0x0E, Config.accessCode 4 % 256, 0x71, 0xFF, 59, [], 1, c⟩).loadTap 0xFF

/-- Whether the JTAG capability is there: it needs DEVICE scope (R384). -/
def State.jtagOk (s : State) : Bool := s.debugOk 2 4

/-- Whether the instructions that drive pins are available (R543). -/
def State.pinTestOk (s : State) : Bool :=
  s.jtagOk && (List.range 4).all fun p => decide (s.pst p ≠ stRunning) && decide (s.pst p ≠ stSuspended) && decide (s.pst p ≠ stSafe)

/-- BYPASS (R543). -/
def execBypass (s : State) : Host.Outcome State Fault Refusal := .next ((s.loadTap 0xFF).emit (.jtag 0xFF 0))

/-- IDCODE (R543). -/
def execIdcode (s : State) : Host.Outcome State Fault Refusal := .next ((s.loadTap 1).emit (.jtag 1 0x1046074B))

/-- MBOX (R543, R386): one scan captures SEC_DBG_NONCE and SEC_DBG_STAT, then updates SEC_DBG_TOKEN and writes SEC_DBG_CMD. -/
def execMbox (token : BitVec 2560) (cmd : BitVec 32) (s : State) : Host.Outcome State Fault Refusal :=
  .next (
    let stat := s.regWord .mgmt SEC_DBG_STAT 0 0
    let s := (s.loadTap 0x10).emit (.jtag 0x10 (s.rd SEC_DBG_NONCE.NONCE 0 + stat * 2 ^ 2592))
    let s := s.each (List.range 80) fun s i => s.wr SEC_DBG_TOKEN.WORD i (token.toNat / 2 ^ (32 * i) % 2 ^ 32)
    match cmd.toNat % 4 with
    | 0 => s
    | 1 => afterOf s (execUnlock .jtag s)
    | 2 => afterOf s (execLock .jtag s)
    | _ => s.logAccess 3 [] 0xB00060)

/-- SAMPLE_PRELOAD (R543, R544): the cells capture the pins, then take the value shifted in. -/
def execSamplePreload (cells : BitVec 16) (s : State) : Host.Outcome State Fault Refusal :=
  .next (if !s.jtagOk then s.refuseTap 2
    else
      let s := (s.loadTap 2).emit (.jtag 2 (s.side.levels % 65536 + Config.boundary s.fresh * 65536))
      (s.onSide fun y => { y with cells := cells.toNat }).used)

/-- The pins as the cells hold them: SBP0-SBP15; those of FAULT_A_N, FAULT_B_N, TAMPER_N and PWR_GOOD only observe (R544). -/
def State.driveCells (s : State) : State := s.each (List.range 16) fun s n => s.emit (.pin n (bit s.side.cells n))

/-- EXTEST (R543). -/
def execExtest (s : State) : Host.Outcome State Fault Refusal :=
  .next (if !s.pinTestOk then s.refuseTap 3
    else (((s.loadTap 3).emit (.jtag 3 (s.side.levels % 65536 + Config.boundary s.fresh * 65536))).used).driveCells)

/-- CLAMP (R543): the pins as the cells hold them, with the bypass register selected. -/
def execClamp (s : State) : Host.Outcome State Fault Refusal :=
  .next (if !s.pinTestOk then s.refuseTap 4 else ((s.loadTap 4).emit (.jtag 4 0)).driveCells)

/-- HIGHZ (R543): every driver released. -/
def execHighz (s : State) : Host.Outcome State Fault Refusal :=
  .next (if !s.pinTestOk then s.refuseTap 5
    else ((s.loadTap 5).emit (.jtag 5 0)).each (List.range 16) fun s n => s.emit (.release n))

/-- The partition of an instrument's unit: memory BIST, tower channel BIST, flash calibration, eye monitors, junction sensors. -/
def State.instPart (s : State) (inst u : Nat) : Option Nat := if inst = 2 then s.flashOwner u else s.partOf u

/-- Whether the segment of an instrument opens (R545). -/
def State.sibOpens (s : State) (inst u : Nat) : Bool :=
  if inst = 3 then decide (u < 8)
  else (decide (inst ≠ 2) || decide (u < 16)) && (s.instPart inst u).all fun p => decide (s.pst p = stOff) || decide (s.pst p = stStopped)

/-- IJTAG (R545): the segment-insertion bits asked for; those that open read back open. -/
def execIjtag (segs : List (Fin 5 × FieldId)) (s : State) : Host.Outcome State Fault Refusal :=
  .next (if !s.jtagOk then s.refuseTap 0x20
    else
      let l := ((segs.filter fun x => s.sibOpens x.1.val x.2.val).map fun x => x.1.val * 64 + x.2.val).eraseDups
      let s := (s.loadTap 0x20).onSide fun y => { y with sibs := l }
      s.emit (.jtag 0x20 (l.map (2 ^ ·)).sum))

end Sys2Proof.Machine
end

