-- ==== Sys2Proof/Machine/Mgmt.lean ====
section
/-! DEFINITION. The management interface: I2C with its SMBus subset, I3C, and the register protocol over either
(22_management_sideband.md R535-R542). -/

namespace Sys2Proof.Machine

/-! ### Addresses and PEC (R536, R537) -/

/-- The 7-bit address: the dynamic one in I3C mode, else the static one. -/
def State.mgmtAddr (s : State) : Nat := if s.side.dyn = 0 then 0x58 + s.side.maddr else s.side.dyn

/-- One bit of CRC-8 over x^8 + x^2 + x + 1. -/
def pecBit (c : Nat) : Nat := if 128 ≤ c then (c * 2 % 256) ^^^ 7 else c * 2

/-- CRC-8 as SMBus defines it. -/
def pecOf (l : List Nat) : Nat := l.foldl (fun c b => (List.range 8).foldl (fun c _ => pecBit c) (c ^^^ (b % 256))) 0

/-- Whether PEC is used. -/
def State.pecOn (s : State) : Bool := decide (s.rd SBM_MGMT_CFG.PEC_EN 0 = 1)

/-- The bytes without their PEC, and whether it matches: it closes the bytes after the address and the command (R539). -/
def State.unpec (s : State) (cmd : Nat) (l : List Nat) : List Nat × Bool :=
  if s.pecOn then (l.dropLast, decide (l.getLast? = some (pecOf ([s.mgmtAddr * 2, cmd] ++ l.dropLast)))) else (l, true)

/-- An answer: in I2C mode its PEC covers the whole transaction, in I3C mode the private read. -/
def State.mgmtSend (s : State) (sent l : List Nat) : State :=
  let own := [s.mgmtAddr * 2 + 1] ++ l
  let all := if s.side.dyn = 0 then [s.mgmtAddr * 2] ++ sent ++ own else own
  s.emit (.mgmt (if s.pecOn then l ++ [pecOf all] else l))

/-! ### The register protocol (R539-R542) -/

/-- A STATUS that is an error enters its event and the fault log. -/
def State.mgmtError (s : State) (st : Nat) : State :=
  let put := fun (f : Field) (b : Nat) => (s.wr f 0 1).log ⟨0x0E, 0x80 + b, 0x71, 0xFF, 0, [], 1, st⟩
  match st with
  | 1 => put SBM_EVT.MGMT_DENIED 0
  | 2 => put SBM_EVT.FORMAT 5
  | 3 => put SBM_EVT.MGMT_PEC 1
  | 5 => put SBM_EVT.RANGE 6
  | _ => s

/-- Whether the island of a register has been brought up (R540, R542). -/
def State.islandReady (s : State) (off : Nat) : Bool :=
  decide (s.rd SYS_BOOT_STAT.DONE 0 = 1) ||
  (match locate off with
    | some (g, _, _) => g.oneOf [SYS_ID, SYS_BOOT_STAT, SYS_PWR_NOW, SYS_FTEMP] || decide (g.block = .sbm)
    | none => false) || Config.islandUp (s.rd SYS_BOOT_STAT.PHASE 0) off

/-- ADDR and COUNT of a transaction. -/
def mgmtHead (l : List Nat) : Nat × Nat := (ofBytes (slice l 0 4), l.getD 4 0)

/-- The first error of a transaction: PEC, FORMAT, then for a WRITE DENIED, then RANGE (R540). -/
def State.mgmtCheck (s : State) (write good : Bool) (l : List Nat) : Nat :=
  let (addr, n) := mgmtHead l
  if !good then 3
  else if n = 0 ∨ 8 < n ∨ addr % 4 ≠ 0 ∨ l.length ≠ (if write then 5 + 4 * n else 5) then 2
  else if write ∧ s.rd SEC_CTL.MGMT_WR 0 = 0 then 1
  else if 0x4000000 < addr + 4 * n then 5
  else 0

/-- Writes of the words of a WRITE, in ascending order; one that names an island not up is not carried out. -/
def mgmtWrites (l : List Nat) (addr : Nat) (s : State) : List Nat → State × Bool
  | [] => (s, false)
  | i :: r =>
    let off := addr + 4 * i
    if s.islandReady off then mgmtWrites l addr (s.writeWord .mgmt off (ofBytes (slice l (5 + 4 * i) (9 + 4 * i)))) r
    else ((mgmtWrites l addr s r).1, true)

/-- Reads of the words of a READ, in ascending order. -/
def mgmtReads (addr : Nat) (s : State) : List Nat → State × List Nat × Bool
  | [] => (s, [], false)
  | i :: r =>
    let off := addr + 4 * i
    if s.islandReady off then
      let a := s.readWord .mgmt off
      let b := mgmtReads addr a.1 r
      (b.1, a.2 :: b.2.1, b.2.2)
    else
      let b := mgmtReads addr s r
      (b.1, 0xFFFFFFFF :: b.2.1, true)

/-- WRITE (R539, R540): ADDR, COUNT, data, PEC. Where it writes SYS_RESET, the reset aborts it (R542). -/
def execMgmtWrite (bytes : List (BitVec 8)) (s : State) : Host.Outcome State Fault Refusal :=
  .next (
    let a := s.unpec 2 (bytes.map (·.toNat))
    let done := fun (t : State) (st : Nat) =>
      ((t.onSide fun y => { y with status := st, seq := (y.seq + 1) % 256 }).mgmtError st).alertCheck
    match s.mgmtCheck true a.2 a.1 with
    | 0 =>
      let (addr, n) := mgmtHead a.1
      let b := mgmtWrites a.1 addr s (List.range n)
      if b.1.rd SEC_CTL.MGMT_WR 0 = 0 then b.1 else done b.1 (if b.2 then 4 else 0)
    | st => done s st)

/-- READ (R539-R541): ADDR, COUNT, PEC. -/
def execMgmtRead (bytes : List (BitVec 8)) (s : State) : Host.Outcome State Fault Refusal :=
  .next (
    let raw := bytes.map (·.toNat)
    let a := s.unpec 3 raw
    let (addr, n) := mgmtHead a.1
    match s.mgmtCheck false a.2 a.1 with
    | 0 =>
      let b := mgmtReads addr s (List.range n)
      b.1.mgmtSend (3 :: raw) ((if b.2.2 then 4 else 0) :: b.2.1.flatMap (bytesOf 4))
    | st =>
      let k := if n ≤ 8 then n else 0
      (s.mgmtError st).used.mgmtSend (3 :: raw) (st :: (List.range (4 * k)).map fun j => Config.mgmtByte s.fresh j % 256))

/-- LAST (R539): STATUS of the last WRITE, and SEQ. -/
def execMgmtLast (s : State) : Host.Outcome State Fault Refusal := .next (s.mgmtSend [4] [s.side.status, s.side.seq])

/-- SMB_TIMEOUT (R536): in I2C mode, SCL has been low for 35 ms. -/
def execSmbTimeout (s : State) : Host.Outcome State Fault Refusal :=
  .next (if s.side.dyn = 0 then s.wr SBM_EVT.SMB_TIMEOUT 0 1 else s)

/-- ALERT_RESPONSE (R536): the device answers address 0x0C with its own address while ALERT_N is asserted. -/
def execAlertResponse (s : State) : Host.Outcome State Fault Refusal :=
  .next (if s.side.dyn = 0 ∧ s.side.alert then
      s.emit (.mgmt (if s.pecOn then [s.mgmtAddr * 2, pecOf [0x19, s.mgmtAddr * 2]] else [s.mgmtAddr * 2]))
    else s)

/-! ### I3C (R538) -/

/-- The provisioned ID. -/
def State.pid (s : State) : Nat := 0x2F4A * 2 ^ 33 + 0x0460 * 2 ^ 16 + s.side.maddr % 4 * 2 ^ 12 + 0x0B0

/-- Bytes of a number, highest first. -/
def bytesBE (k n : Nat) : List Nat := (bytesOf k n).reverse

/-- A dynamic address taken. -/
def State.setDyn (s : State) (a : Nat) : State := s.onSide fun y => { y with dyn := a }

/-- An answer to a directed CCC, in I3C mode. -/
def State.ccc (s : State) (l : List Nat) : State := if s.side.dyn = 0 then s else s.emit (.mgmt l)

/-- ENTDAA: a device without a dynamic address sends its provisioned ID, BCR and DCR and takes the address it is given. -/
def execEntdaa (addr : BitVec 7) (s : State) : Host.Outcome State Fault Refusal :=
  .next (if s.side.dyn ≠ 0 ∨ addr = 0 then s else (s.emit (.mgmt (bytesBE 6 s.pid ++ [0x06, 0x00]))).setDyn addr.toNat)

/-- SETDASA: the device with the static address takes the dynamic one. -/
def execSetdasa (static dyn : BitVec 7) (s : State) : Host.Outcome State Fault Refusal :=
  .next (if s.side.dyn ≠ 0 ∨ dyn = 0 ∨ static.toNat ≠ 0x58 + s.side.maddr then s else s.setDyn dyn.toNat)

/-- RSTDAA: back to I2C mode. -/
def execRstdaa (s : State) : Host.Outcome State Fault Refusal := .next (s.setDyn 0)

/-- ENEC: in-band interrupts enabled; one is raised at once while ALERT_N is low. -/
def execEnec (s : State) : Host.Outcome State Fault Refusal :=
  .next (if s.side.dyn = 0 then s
    else
      let s := s.onSide fun y => { y with ibi := true }
      if s.side.alert then s.emit (.ibi s.alertSrc) else s)

/-- DISEC: in-band interrupts disabled. -/
def execDisec (s : State) : Host.Outcome State Fault Refusal :=
  .next (if s.side.dyn = 0 then s else s.onSide fun y => { y with ibi := false })

/-- GETPID. -/
def execGetpid (s : State) : Host.Outcome State Fault Refusal := .next (s.ccc (bytesBE 6 s.pid))

/-- GETBCR. -/
def execGetbcr (s : State) : Host.Outcome State Fault Refusal := .next (s.ccc [0x06])

/-- GETDCR. -/
def execGetdcr (s : State) : Host.Outcome State Fault Refusal := .next (s.ccc [0x00])

/-- GETSTATUS: its content is the I3C standard's, a free value here. -/
def execGetstatus (s : State) : Host.Outcome State Fault Refusal := .next ((s.ccc (bytesBE 2 (Config.i3cStatus s.fresh % 65536))).used)

/-- GETMWL. -/
def execGetmwl (s : State) : Host.Outcome State Fault Refusal := .next (s.ccc (bytesBE 2 s.side.mwl))

/-- GETMRL, with the size of the in-band interrupt's payload. -/
def execGetmrl (s : State) : Host.Outcome State Fault Refusal := .next (s.ccc (bytesBE 2 s.side.mrl ++ [1]))

/-- SETMWL: a value below 40 is ignored, 64 is the most. -/
def execSetmwl (len : BitVec 16) (s : State) : Host.Outcome State Fault Refusal :=
  .next (if s.side.dyn = 0 ∨ len.toNat < 40 then s else s.onSide fun y => { y with mwl := min 64 len.toNat })

/-- SETMRL: as SETMWL. -/
def execSetmrl (len : BitVec 16) (s : State) : Host.Outcome State Fault Refusal :=
  .next (if s.side.dyn = 0 ∨ len.toNat < 40 then s else s.onSide fun y => { y with mrl := min 64 len.toNat })

end Sys2Proof.Machine
end

