-- ==== Sys2Proof/Machine/Recovery.lean ====
section
/-! DEFINITION. Unit failures found at run time and the transfer timeout (19_failures.md R477, R486-R488, 06_cores_threads.md
R156). -/

namespace Sys2Proof.Machine

/-- ISTORE_UE (R156, R477): the core stops, all its threads HELD, and is a failed core. -/
def execIstoreUe (f : FieldId) (m : CoreId) (s : State) : Host.Outcome State Fault Refusal :=
  .next (s.failCore (coreKey f.val m.val) 1)

/-- UNIT_HANDSHAKE_TIMEOUT (R477): a field's shelf island or Residency Engine for 1 ms, or the guard die (none) for 10 µs. -/
def execUnitHandshakeTimeout (u : Option FieldId) (s : State) : Host.Outcome State Fault Refusal :=
  .next (match u with
    | some f => s.failField f.val 4
    | none => if s.edgeDead 26 then s else s.edgeFail 26 4)

/-- TOWER_CHANNEL_RETRAIN (R477): a channel that fails to retrain fails its tower. -/
def execTowerChannelRetrain (f : FieldId) (w : Fin 4) (ok : Bool) (s : State) : Host.Outcome State Fault Refusal :=
  .next (if ok then s else s.failTower f.val w.val 8)

/-- SYSTEM_DIE_FAILED (R477). -/
def execSystemDieFailed (s : State) : Host.Outcome State Fault Refusal := .next (s.systemDieFail 1)

/-! ### Transfer timeouts (R486-R488) -/

/-- The effective timeout of a partition's transfers in ticks (R486). -/
def State.effTmo (s : State) (p : Nat) : Nat := max (s.rd PAR_RECOV_CTL.XFER_MS p) (s.rd REPO_TMO.BUSY p + 10) * 1000000

/-- The number of a named unit, its DIE and UNIT in the fault log. -/
def unitKey : UnitRef → Nat × Nat × Nat
  | .core f m => (f.val * 256 + m.val, f.val, m.val)
  | .field f => (f.val * 256 + 0xFE, f.val, 0xFE)
  | .tower f w => (f.val * 256 + 0xF0 + w.val, f.val, 0xF0 + w.val)
  | .edge k => (0x10000 + k.val,
      if k.val < 2 then 0x40 + k.val else if k.val < 18 then 0x50 + (k.val - 2) else if k.val < 26 then 0x60 + (k.val - 18)
      else 0x70 + (k.val - 26), 0xFE)

/-- A unit named by two timeouts fails (R477). -/
def State.failUnit (s : State) (u : UnitRef) : State :=
  match u with
  | .core f m => s.failCore (coreKey f.val m.val) 3
  | .field f => s.failField f.val 3
  | .tower f w => s.failTower f.val w.val 3
  | .edge k => s.edgeFail k.val 3

/-- A transfer ended by a timeout (R488): no effect; its stream halts with TIMEOUT. The Residency Engine, the owner of a shelf
engine's stream, resumes it at once. -/
def State.timeOut (s : State) (k j : Nat) (x : Flight) (w : Work) : State :=
  let s := match x.rpage with | some r => s.readEnd r | none => s
  let s := match x.wpage with | some c => (if pageTier c = 2 && !isShelf k then s.invalidate c else s) | none => s
  let s := s.setFlight k j { x with st := .failed, rpage := none, data := [] }
  if isShelf k then s else s.haltEngine k 0x22 ((srcPage w.d x.tile).getD 0)

/-- TRANSFER_TIMEOUT (R487, R488): flight `n` of an engine, with the ticks for which a lower level owned the transfer; the unit
that last held it. Not while the partition is SUSPENDED or HALT is set. -/
def execTransferTimeout (e : Eng) (n : Fin 4) (u : UnitRef) (paused : BitVec 64) (s : State) : Host.Outcome State Fault Refusal :=
  let k := engOf e
  let p := (s.partOf (engField k)).getD 0
  .next (match ((s.engine k).flight[n.val]?).bind fun x => (workOf (s.engine k) x).map fun w => (x, w) with
    | none => s
    | some (x, w) =>
      if x.st = .landed ∨ x.st = .failed ∨ s.pst p = stSuspended ∨ s.rd TJL_PSTAT.HALT p = 1 then s
      else
        let s := s.reach (x.since + min (s.effTmo p + paused.toNat) (4 * s.effTmo p))
        let s := s.timeOut k n.val x w
        let y := unitKey u
        let s := (s.log ⟨0x00, 0x47, y.2.1, y.2.2, 0, [p], 2, s.now - x.since⟩).tally 2 p 0x12 1
        match Store.get 0 s.wafer.timeouts y.1 with
        | 0 => s.onWafer fun v => { v with timeouts := Store.set 0 v.timeouts y.1 (s.now + 1) }
        | t + 1 =>
          if s.now ≤ t + 1000000000 then
            ((s.onWafer fun v => { v with timeouts := Store.set 0 v.timeouts y.1 0 }).failUnit u).event PAR_RECOV_EVT.TIMEOUT p p
          else s.onWafer fun v => { v with timeouts := Store.set 0 v.timeouts y.1 (s.now + 1) })

/-- A lower level ends its present attempt as a failure (R486, R487). -/
def State.conclude (s : State) (l : Lower) : State :=
  match l with
  | .swap x => if Store.get 0 s.wafer.swap x.val = 0 then s else s.loseXing x.val
  | .retry n => s.retrain n.val
  | .retrain n => if s.portSt n.val = 3 then s.loseLink n.val else s
  | .flash p page t => s.flashGone p.val page.toNat t.val

/-- TIMEOUT_HARD_CAP (R487): four times the effective timeout after the acceptance of flight `n`, the level that owns it
concludes. -/
def execTimeoutHardCap (e : Eng) (n : Fin 4) (l : Lower) (s : State) : Host.Outcome State Fault Refusal :=
  let k := engOf e
  let p := (s.partOf (engField k)).getD 0
  .next (match (s.engine k).flight[n.val]? with
    | none => s
    | some x => if x.st = .landed ∨ x.st = .failed then s else (s.reach (x.since + 4 * s.effTmo p)).conclude l)

end Sys2Proof.Machine
end

