-- ==== Sys2Proof/Machine/Dispatch.lean ====
section
/-! DEFINITION. The meaning of each command: one arm per constructor of Instr. -/

namespace Sys2Proof.Machine

/-- The effect of a command on everything but the waiting queue. -/
def exec (i : Instr) (s : State) : Host.Outcome State Fault Refusal :=
  match i with
  | .registerWrite r bar2 off wide data => Sys2Proof.Machine.execRegisterWrite r bar2 off wide data s
  | .misalignedAccess r bar2 off len write => Sys2Proof.Machine.execMisalignedAccess r bar2 off len write s
  | .snapshotRead r off => Sys2Proof.Machine.execSnapshotRead r off s
  | .rcRead r off => Sys2Proof.Machine.execRcRead r off s
  | .pevtRead r p => Sys2Proof.Machine.execPevtRead r p s
  | .flogHeadRead r ring => Sys2Proof.Machine.execFlogHeadRead r ring s
  | .governorPeriod ms watts => Sys2Proof.Machine.execGovernorPeriod ms watts s
  | .tbBroadcast errs => Sys2Proof.Machine.execTbBroadcast errs s
  | .tbWrap => Sys2Proof.Machine.execTbWrap s
  | .tbTrimWrite r data => Sys2Proof.Machine.execTbTrimWrite r data s
  | .ppsEdge => Sys2Proof.Machine.execPpsEdge s
  | .ppsMissed => Sys2Proof.Machine.execPpsMissed s
  | .tbRefLoss => Sys2Proof.Machine.execTbRefLoss s
  | .tbRelock => Sys2Proof.Machine.execTbRelock s
  | .flitCrcError x g => Sys2Proof.Machine.execFlitCrcError x g s
  | .linkGroupTimeout x g => Sys2Proof.Machine.execLinkGroupTimeout x g s
  | .swapPauseEnd x => Sys2Proof.Machine.execSwapPauseEnd x s
  | .thermShutdown f => Sys2Proof.Machine.execThermShutdown f s
  | .paceRange p => Sys2Proof.Machine.execPaceRange p s
  | .run r p seq => Sys2Proof.Machine.execRun r p seq s
  | .suspend r p seq => Sys2Proof.Machine.execSuspend r p seq s
  | .suspendDrained p => Sys2Proof.Machine.execSuspendDrained p s
  | .suspWaitTimeout p => Sys2Proof.Machine.execSuspWaitTimeout p s
  | .contextSaveDone p ok => Sys2Proof.Machine.execContextSaveDone p ok s
  | .resume r p seq => Sys2Proof.Machine.execResume r p seq s
  | .contextRestoreDone p ok => Sys2Proof.Machine.execContextRestoreDone p ok s
  | .stop r p seq => Sys2Proof.Machine.execStop r p seq s
  | .restart r p seq keep => Sys2Proof.Machine.execRestart r p seq keep s
  | .admitPart p inj => Sys2Proof.Machine.execAdmitPart p inj s
  | .t2Exhausted p f => Sys2Proof.Machine.execT2Exhausted p f s
  | .t1Exhausted p f => Sys2Proof.Machine.execT1Exhausted p f s
  | .scalarOp t w => Sys2Proof.Machine.execScalarOp t w s
  | .vectorOp t w => Sys2Proof.Machine.execVectorOp t w s
  | .br t dest => Sys2Proof.Machine.execBr t dest s
  | .brc t w dest => Sys2Proof.Machine.execBrc t w dest s
  | .call t sd dest => Sys2Proof.Machine.execCall t sd dest s
  | .ret t sa => Sys2Proof.Machine.execRet t sa s
  | .mma t bank w => Sys2Proof.Machine.execMma t bank w s
  | .accLd t bank addr => Sys2Proof.Machine.execAccLd t bank addr s
  | .accSt t bank addr => Sys2Proof.Machine.execAccSt t bank addr s
  | .accZero t bank => Sys2Proof.Machine.execAccZero t bank s
  | .ld t lg sext sd addr => Sys2Proof.Machine.execLd t lg sext sd addr s
  | .st t lg sb addr => Sys2Proof.Machine.execSt t lg sb addr s
  | .ldV t vd addr => Sys2Proof.Machine.execLdV t vd addr s
  | .stV t vb addr => Sys2Proof.Machine.execStV t vb addr s
  | .ldHdr t vd slot => Sys2Proof.Machine.execLdHdr t vd slot s
  | .stHdr t vb slot => Sys2Proof.Machine.execStHdr t vb slot s
  | .illegalOp t => Sys2Proof.Machine.execIllegalOp t s
  | .istoreUe f m => Sys2Proof.Machine.execIstoreUe f m s
  | .thrStart t target => Sys2Proof.Machine.execThrStart t target s
  | .thrExit t => Sys2Proof.Machine.execThrExit t s
  | .thrId t sd => Sys2Proof.Machine.execThrId t sd s
  | .coreMemDataWrite r f m data => Sys2Proof.Machine.execCoreMemDataWrite r f m data s
  | .coreMemFeWrite r f m data => Sys2Proof.Machine.execCoreMemFeWrite r f m data s
  | .ldFe t ins => Sys2Proof.Machine.execLdFe t ins s
  | .stFe t ins => Sys2Proof.Machine.execStFe t ins s
  | .ldPeek t ins => Sys2Proof.Machine.execLdPeek t ins s
  | .feClr t ins => Sys2Proof.Machine.execFeClr t ins s
  | .sqPush t e addr => Sys2Proof.Machine.execSqPush t e addr s
  | .sqKick t e => Sys2Proof.Machine.execSqKick t e s
  | .sqStat t e sd => Sys2Proof.Machine.execSqStat t e sd s
  | .sqResumeReissue t e => Sys2Proof.Machine.execSqResumeReissue t e s
  | .sqResumeAbandon t e => Sys2Proof.Machine.execSqResumeAbandon t e s
  | .tileIssue e => Sys2Proof.Machine.execTileIssue e s
  | .tileReadOut e n => Sys2Proof.Machine.execTileReadOut e n s
  | .tileLanding e n => Sys2Proof.Machine.execTileLanding e n s
  | .fence t => Sys2Proof.Machine.execFence t s
  | .fenceComplete p g l => Sys2Proof.Machine.execFenceComplete p g l s
  | .sealPage t lpage => Sys2Proof.Machine.execSealPage t lpage s
  | .pageSealCommit p lpage => Sys2Proof.Machine.execPageSealCommit p lpage s
  | .freePage t lpage => Sys2Proof.Machine.execFreePage t lpage s
  | .pageFreeComplete p tier f idx => Sys2Proof.Machine.execPageFreeComplete p tier f idx s
  | .flip t g => Sys2Proof.Machine.execFlip t g s
  | .flipCommit p g => Sys2Proof.Machine.execFlipCommit p g s
  | .scrubPass f idx ue => Sys2Proof.Machine.execScrubPass f idx ue s
  | .agingBoundary p => Sys2Proof.Machine.execAgingBoundary p s
  | .mirrorCommit p lpage => Sys2Proof.Machine.execMirrorCommit p lpage s
  | .sig t ins => Sys2Proof.Machine.execSig t ins s
  | .semAdd t ins => Sys2Proof.Machine.execSemAdd t ins s
  | .wait t ins => Sys2Proof.Machine.execWait t ins s
  | .barArrive t ins => Sys2Proof.Machine.execBarArrive t ins s
  | .barWait t ins => Sys2Proof.Machine.execBarWait t ins s
  | .barrierComplete p b => Sys2Proof.Machine.execBarrierComplete p b s
  | .dbSig x pf slot cmd => Sys2Proof.Machine.execDbSig x pf slot cmd s
  | .dbSemAdd x pf slot cmd => Sys2Proof.Machine.execDbSemAdd x pf slot cmd s
  | .dbWait x pf slot cmd => Sys2Proof.Machine.execDbWait x pf slot cmd s
  | .dbCancel x pf slot cmd => Sys2Proof.Machine.execDbCancel x pf slot cmd s
  | .dbArrive x pf slot cmd => Sys2Proof.Machine.execDbArrive x pf slot cmd s
  | .ldgAcc t ins => Sys2Proof.Machine.execLdgAcc t ins s
  | .ldgUse t ins => Sys2Proof.Machine.execLdgUse t ins s
  | .ldgRel t ins => Sys2Proof.Machine.execLdgRel t ins s
  | .ldgProg t ins => Sys2Proof.Machine.execLdgProg t ins s
  | .policyInvocation f => Sys2Proof.Machine.execPolicyInvocation f s
  | .policyScan f => Sys2Proof.Machine.execPolicyScan f s
  | .ledgerMoveStart f => Sys2Proof.Machine.execLedgerMoveStart f s
  | .spillCommit f n => Sys2Proof.Machine.execSpillCommit f n s
  | .fetchCommit f n => Sys2Proof.Machine.execFetchCommit f n s
  | .pressCommit f n mismatch => Sys2Proof.Machine.execPressCommit f n mismatch s
  | .spanBegin t ins => Sys2Proof.Machine.execSpanBegin t ins s
  | .gangStart f n => Sys2Proof.Machine.execGangStart f n s
  | .spanEnd t ins => Sys2Proof.Machine.execSpanEnd t ins s
  | .rng t ins => Sys2Proof.Machine.execRng t ins s
  | .replayStart f => Sys2Proof.Machine.execReplayStart f s
  | .flashRead p page t bits fail => Sys2Proof.Machine.execFlashRead p page t bits fail s
  | .patrolRead c l bits fail => Sys2Proof.Machine.execPatrolRead c l bits fail s
  | .relocationCommit c l => Sys2Proof.Machine.execRelocationCommit c l s
  | .segmentErase c seg ok => Sys2Proof.Machine.execSegmentErase c seg ok s
  | .targetBusyTimeout c => Sys2Proof.Machine.execTargetBusyTimeout c s
  | .channelRebuildDone c => Sys2Proof.Machine.execChannelRebuildDone c s
  | .openVolume r p v seq => Sys2Proof.Machine.execOpenVolume r p v seq s
  | .closeVolume r p v seq => Sys2Proof.Machine.execCloseVolume r p v seq s
  | .volumeSealed p v => Sys2Proof.Machine.execVolumeSealed p v s
  | .abandonVolume r p v seq => Sys2Proof.Machine.execAbandonVolume r p v seq s
  | .volumeFree r p v seq => Sys2Proof.Machine.execVolumeFree r p v seq s
  | .volumeFreeingDone p v => Sys2Proof.Machine.execVolumeFreeingDone p v s
  | .freeUnbound r p v seq => Sys2Proof.Machine.execFreeUnbound r p v seq s
  | .repoLoad r p src count seq => Sys2Proof.Machine.execRepoLoad r p src count seq s
  | .loadDone p => Sys2Proof.Machine.execLoadDone p s
  | .portTrained n peerW peerP cluster gen2 lanes flight auth => Sys2Proof.Machine.execPortTrained n peerW peerP cluster gen2 lanes flight auth s
  | .trainingTimeout n => Sys2Proof.Machine.execTrainingTimeout n s
  | .restoreTimer n => Sys2Proof.Machine.execRestoreTimer n s
  | .frameReceive n ok tagOk hdr body => Sys2Proof.Machine.execFrameReceive n ok tagOk hdr body s
  | .nak n seq => Sys2Proof.Machine.execNak n seq s
  | .retryBudgetExpiry n => Sys2Proof.Machine.execRetryBudgetExpiry n s
  | .retrainDone n lanes => Sys2Proof.Machine.execRetrainDone n lanes s
  | .linkLost n => Sys2Proof.Machine.execLinkLost n s
  | .tieData n srcw spart dpart dh bytes => Sys2Proof.Machine.execTieData n srcw spart dpart dh bytes s
  | .signal n pkt => Sys2Proof.Machine.execSignal n pkt s
  | .sigAck n tie sseq status => Sys2Proof.Machine.execSigAck n tie sseq status s
  | .tieAck n tie landed => Sys2Proof.Machine.execTieAck n tie landed s
  | .tieReset n fromW tie reason => Sys2Proof.Machine.execTieReset n fromW tie reason s
  | .barUp n p b gen => Sys2Proof.Machine.execBarUp n p b gen s
  | .barDown n p b gen lost => Sys2Proof.Machine.execBarDown n p b gen lost s
  | .ts n answer num t1 t2 t3 => Sys2Proof.Machine.execTs n answer num t1 t2 t3 s
  | .negotiate n epoch ties => Sys2Proof.Machine.execNegotiate n epoch ties s
  | .tsExchange => Sys2Proof.Machine.execTsExchange s
  | .routeDown p tie => Sys2Proof.Machine.execRouteDown p tie s
  | .tjlResume r p seq => Sys2Proof.Machine.execTjlResume r p seq s
  | .perstAssert x => Sys2Proof.Machine.execPerstAssert x s
  | .perstDeassert x => Sys2Proof.Machine.execPerstDeassert x s
  | .hotReset x => Sys2Proof.Machine.execHotReset x s
  | .dlDown x => Sys2Proof.Machine.execDlDown x s
  | .portFailed x => Sys2Proof.Machine.execPortFailed x s
  | .portUp x rate width flit => Sys2Proof.Machine.execPortUp x rate width flit s
  | .hostReady x => Sys2Proof.Machine.execHostReady x s
  | .configRequest x pf q => Sys2Proof.Machine.execConfigRequest x pf q s
  | .bar4Write x pf off data => Sys2Proof.Machine.execBar4Write x pf off data s
  | .bar4Read x pf off len => Sys2Proof.Machine.execBar4Read x pf off len s
  | .stagingSeal r p first count dtype seq => Sys2Proof.Machine.execStagingSeal r p first count dtype seq s
  | .stagingFree r p first count seq => Sys2Proof.Machine.execStagingFree r p first count seq s
  | .claim r n seq => Sys2Proof.Machine.execClaim r n seq s
  | .release r n seq => Sys2Proof.Machine.execRelease r n seq s
  | .handover r n seq => Sys2Proof.Machine.execHandover r n seq s
  | .leaseLow n => Sys2Proof.Machine.execLeaseLow n s
  | .leaseExpired n => Sys2Proof.Machine.execLeaseExpired n s
  | .entropyHealthFail => Sys2Proof.Machine.execEntropyHealthFail s
  | .unlock r => Sys2Proof.Machine.execUnlock r s
  | .lock r => Sys2Proof.Machine.execLock r s
  | .debugExpiry => Sys2Proof.Machine.execDebugExpiry s
  | .arm r => Sys2Proof.Machine.execArm r s
  | .zero r permanent => Sys2Proof.Machine.execZero r permanent s
  | .tamper => Sys2Proof.Machine.execTamper s
  | .supplyTamper => Sys2Proof.Machine.execSupplyTamper s
  | .tempTamper => Sys2Proof.Machine.execTempTamper s
  | .pwrGood cold maddr => Sys2Proof.Machine.execPwrGood cold maddr s
  | .pwrGoodLow => Sys2Proof.Machine.execPwrGoodLow s
  | .sysReset r => Sys2Proof.Machine.execSysReset r s
  | .tbLock => Sys2Proof.Machine.execTbLock s
  | .tbLockTimeout => Sys2Proof.Machine.execTbLockTimeout s
  | .secmon ok => Sys2Proof.Machine.execSecmon ok s
  | .xing fails => Sys2Proof.Machine.execXing fails s
  | .memory badF badT => Sys2Proof.Machine.execMemory badF badT s
  | .ntest r1 r2 => Sys2Proof.Machine.execNtest r1 r2 s
  | .map => Sys2Proof.Machine.execMap s
  | .select modeA modeB capA capB busyA busyB => Sys2Proof.Machine.execSelect modeA modeB capA capB busyA busyB s
  | .verify => Sys2Proof.Machine.execVerify s
  | .device => Sys2Proof.Machine.execDevice s
  | .flash d good trained empty mirrors mts targets pages segments => Sys2Proof.Machine.execFlash d good trained empty mirrors mts targets pages segments s
  | .load p copyOk => Sys2Proof.Machine.execLoad p copyOk s
  | .complete => Sys2Proof.Machine.execComplete s
  | .nvmReadTimeout p => Sys2Proof.Machine.execNvmReadTimeout p s
  | .nvmErase r seq => Sys2Proof.Machine.execNvmErase r seq s
  | .nvmProgram r seq => Sys2Proof.Machine.execNvmProgram r seq s
  | .nvmRead r seq => Sys2Proof.Machine.execNvmRead r seq s
  | .nvmCmdDone ok => Sys2Proof.Machine.execNvmCmdDone ok s
  | .tapItem p crcOk room => Sys2Proof.Machine.execTapItem p crcOk room s
  | .judgeReturn p verdict ritem checks rlen susp => Sys2Proof.Machine.execJudgeReturn p verdict ritem checks rlen susp s
  | .chkTime p => Sys2Proof.Machine.execChkTime p s
  | .verdictCommit p => Sys2Proof.Machine.execVerdictCommit p s
  | .lockstepMismatch p => Sys2Proof.Machine.execLockstepMismatch p s
  | .checkerPairFailure p => Sys2Proof.Machine.execCheckerPairFailure p s
  | .pinReadback a b => Sys2Proof.Machine.execPinReadback a b s
  | .grdTripWrite r p v => Sys2Proof.Machine.execGrdTripWrite r p v s
  | .ageExpiry p k => Sys2Proof.Machine.execAgeExpiry p k s
  | .watchUpdate p => Sys2Proof.Machine.execWatchUpdate p s
  | .windowMaxExpiry p st => Sys2Proof.Machine.execWindowMaxExpiry p st s
  | .budgetOverrun p t => Sys2Proof.Machine.execBudgetOverrun p t s
  | .testSegmentStart f m => Sys2Proof.Machine.execTestSegmentStart f m s
  | .testSegmentEnd f m pass => Sys2Proof.Machine.execTestSegmentEnd f m pass s
  | .rotationDeadline f m => Sys2Proof.Machine.execRotationDeadline f m s
  | .tbCheck ppm => Sys2Proof.Machine.execTbCheck ppm s
  | .injDue p => Sys2Proof.Machine.execInjDue p s
  | .unitHandshakeTimeout u => Sys2Proof.Machine.execUnitHandshakeTimeout u s
  | .haltTimeout p => Sys2Proof.Machine.execHaltTimeout p s
  | .abortComplete p => Sys2Proof.Machine.execAbortComplete p s
  | .transferTimeout e n u paused => Sys2Proof.Machine.execTransferTimeout e n u paused s
  | .timeoutHardCap e n l => Sys2Proof.Machine.execTimeoutHardCap e n l s
  | .capture r scope p f m first count clear seq => Sys2Proof.Machine.execCapture r scope p f m first count clear seq s
  | .captureTick r => Sys2Proof.Machine.execCaptureTick r s
  | .deadlock p => Sys2Proof.Machine.execDeadlock p s
  | .waiterGraphDone p => Sys2Proof.Machine.execWaiterGraphDone p s
  | .dlRearm r p => Sys2Proof.Machine.execDlRearm r p s
  | .soSet r value live clrSat clrBroken seq => Sys2Proof.Machine.execSoSet r value live clrSat clrBroken seq s
  | .traceStart r => Sys2Proof.Machine.execTraceStart r s
  | .traceStop r => Sys2Proof.Machine.execTraceStop r s
  | .mgmtWrite bytes => Sys2Proof.Machine.execMgmtWrite bytes s
  | .mgmtRead bytes => Sys2Proof.Machine.execMgmtRead bytes s
  | .mgmtLast => Sys2Proof.Machine.execMgmtLast s
  | .smbTimeout => Sys2Proof.Machine.execSmbTimeout s
  | .alertResponse => Sys2Proof.Machine.execAlertResponse s
  | .entdaa addr => Sys2Proof.Machine.execEntdaa addr s
  | .setdasa static dyn => Sys2Proof.Machine.execSetdasa static dyn s
  | .rstdaa => Sys2Proof.Machine.execRstdaa s
  | .enec => Sys2Proof.Machine.execEnec s
  | .disec => Sys2Proof.Machine.execDisec s
  | .getpid => Sys2Proof.Machine.execGetpid s
  | .getbcr => Sys2Proof.Machine.execGetbcr s
  | .getdcr => Sys2Proof.Machine.execGetdcr s
  | .getstatus => Sys2Proof.Machine.execGetstatus s
  | .getmwl => Sys2Proof.Machine.execGetmwl s
  | .getmrl => Sys2Proof.Machine.execGetmrl s
  | .setmwl len => Sys2Proof.Machine.execSetmwl len s
  | .setmrl len => Sys2Proof.Machine.execSetmrl len s
  | .bypass => Sys2Proof.Machine.execBypass s
  | .idcode => Sys2Proof.Machine.execIdcode s
  | .mbox token cmd => Sys2Proof.Machine.execMbox token cmd s
  | .samplePreload cells => Sys2Proof.Machine.execSamplePreload cells s
  | .extest => Sys2Proof.Machine.execExtest s
  | .clamp => Sys2Proof.Machine.execClamp s
  | .highz => Sys2Proof.Machine.execHighz s
  | .ijtag segs => Sys2Proof.Machine.execIjtag segs s
  | .syncIn n level => Sys2Proof.Machine.execSyncIn n level s
  | .tbOut n => Sys2Proof.Machine.execTbOut n s
  | .trigIn n level => Sys2Proof.Machine.execTrigIn n level s
  | .pulseEnd n => Sys2Proof.Machine.execPulseEnd n s
  | .pinSwitch r n func pull edge width => Sys2Proof.Machine.execPinSwitch r n func pull edge width s
  | .switchQuietEnd n level => Sys2Proof.Machine.execSwitchQuietEnd n level s
  | .feedLoss => Sys2Proof.Machine.execFeedLoss s
  | .regFault f => Sys2Proof.Machine.execRegFault f s
  | .dlUp x => Sys2Proof.Machine.execDlUp x s
  | .targetReady c => Sys2Proof.Machine.execTargetReady c s
  | .ckSelfCheck p ok => Sys2Proof.Machine.execCkSelfCheck p ok s
  | .towerChannelRetrain f w ok => Sys2Proof.Machine.execTowerChannelRetrain f w ok s
  | .systemDieFailed => Sys2Proof.Machine.execSystemDieFailed s
  | .coolFault => Sys2Proof.Machine.execCoolFault s
  | .leak => Sys2Proof.Machine.execLeak s

end Sys2Proof.Machine
end

