-- ==== Sys2Proof/Machine/Step.lean ====
section
/-! DEFINITION. One step: the command at the front of the queue, or a tick of the timebase where none waits. -/

namespace Sys2Proof.Machine

/-- One step. With no command waiting, one tick of the timebase passes (notes/assumptions/1.md). -/
def step (s : State) : Host.Outcome State Fault Refusal :=
  match s.pending with
  | [] => .next (s.reach (s.now + 1))
  | c :: r => exec c { s with pending := r }

/-- The state with the command that a word spells at the front of its queue; the table gives no row bits. -/
def State.withFetchWord (s : State) (nbits w : Nat) : State :=
  match decodeTableWord nbits w with
  | some c => { s with pending := c :: s.pending }
  | none => s

end Sys2Proof.Machine
end

