-- ==== Sys2Proof/WellFormed.lean ====
section
/-! DEFINITION. Which commands are well formed: what the operand types leave open of the bounds the spec gives them
(00_scope.md R14, 14_host_ports.md R358, R359, 13_thijolink.md R324, 22_management_sideband.md R539). -/

namespace Sys2Proof

/-- Whether a requester is a function of a host port. -/
def isHost : Req → Bool
  | .host _ _ => true
  | _ => false

/-- Whether no element of a list comes twice. -/
def noRepeat {α : Type} [DecidableEq α] : List α → Bool
  | [] => true
  | x :: r => !r.contains x && noRepeat r

/-- Whether a command's operands lie within the bounds of the spec. -/
def wellFormed : Instr → Bool
  | .registerWrite r bar2 off wide data => (!bar2 || isHost r) && decide (off < (if bar2 then 2 ^ 18 else 2 ^ 26)) && decide (off % (if wide then 8 else 4) = 0) &&
    (wide || decide (data.toNat < 2 ^ 32))
  | .misalignedAccess r bar2 off len _ => isHost r && decide (0 < len) && decide (len ≤ 4096) && decide (off + len ≤ (if bar2 then 2 ^ 18 else 2 ^ 26)) &&
    !(decide (off % 4 = 0) && decide (len = 4)) && !(decide (off % 8 = 0) && decide (len = 8))
  | .snapshotRead _ off => decide (off < 2 ^ 26) && decide (off % 4 = 0)
  | .rcRead _ off => decide (off < 2 ^ 26) && decide (off % 4 = 0)
  | .pevtRead _ _ => true
  | .flogHeadRead _ _ => true
  | .governorPeriod ms watts => decide (ms.length = 64) && decide (watts < 2 ^ 16)
  | .tbBroadcast errs => noRepeat (errs.map (·.1))
  | .tbWrap => true
  | .tbTrimWrite _ _ => true
  | .ppsEdge => true
  | .ppsMissed => true
  | .tbRefLoss => true
  | .tbRelock => true
  | .flitCrcError _ _ => true
  | .linkGroupTimeout _ _ => true
  | .swapPauseEnd _ => true
  | .thermShutdown _ => true
  | .paceRange _ => true
  | .run _ _ _ => true
  | .suspend _ _ _ => true
  | .suspendDrained _ => true
  | .suspWaitTimeout _ => true
  | .contextSaveDone _ _ => true
  | .resume _ _ _ => true
  | .contextRestoreDone _ _ => true
  | .stop _ _ _ => true
  | .restart _ _ _ _ => true
  | .admitPart _ _ => true
  | .t2Exhausted _ _ => true
  | .t1Exhausted _ _ => true
  | .scalarOp _ _ => true
  | .vectorOp _ _ => true
  | .br _ _ => true
  | .brc _ _ _ => true
  | .call _ _ _ => true
  | .ret _ _ => true
  | .mma _ _ _ => true
  | .accLd _ _ _ => true
  | .accSt _ _ _ => true
  | .accZero _ _ => true
  | .ld _ _ _ _ _ => true
  | .st _ _ _ _ => true
  | .ldV _ _ _ => true
  | .stV _ _ _ => true
  | .ldHdr _ _ _ => true
  | .stHdr _ _ _ => true
  | .illegalOp _ => true
  | .istoreUe _ _ => true
  | .thrStart _ _ => true
  | .thrExit _ => true
  | .thrId _ _ => true
  | .coreMemDataWrite _ _ _ _ => true
  | .coreMemFeWrite _ _ _ _ => true
  | .ldFe _ _ => true
  | .stFe _ _ => true
  | .ldPeek _ _ => true
  | .feClr _ _ => true
  | .sqPush _ _ _ => true
  | .sqKick _ _ => true
  | .sqStat _ _ _ => true
  | .sqResumeReissue _ _ => true
  | .sqResumeAbandon _ _ => true
  | .tileIssue _ => true
  | .tileReadOut _ _ => true
  | .tileLanding _ _ => true
  | .fence _ => true
  | .fenceComplete _ _ _ => true
  | .sealPage _ _ => true
  | .pageSealCommit _ _ => true
  | .freePage _ _ => true
  | .pageFreeComplete _ _ _ _ => true
  | .flip _ _ => true
  | .flipCommit _ _ => true
  | .scrubPass _ _ _ => true
  | .agingBoundary _ => true
  | .mirrorCommit _ _ => true
  | .sig _ _ => true
  | .semAdd _ _ => true
  | .wait _ _ => true
  | .barArrive _ _ => true
  | .barWait _ _ => true
  | .barrierComplete _ _ => true
  | .dbSig _ _ _ cmd => decide (bits cmd.toNat 47 45 = 0)
  | .dbSemAdd _ _ _ cmd => decide (bits cmd.toNat 47 45 = 1)
  | .dbWait _ _ _ cmd => decide (bits cmd.toNat 47 45 = 2)
  | .dbCancel _ _ _ cmd => decide (bits cmd.toNat 47 45 = 3)
  | .dbArrive _ _ _ cmd => decide (bits cmd.toNat 47 45 = 4)
  | .ldgAcc _ _ => true
  | .ldgUse _ _ => true
  | .ldgRel _ _ => true
  | .ldgProg _ _ => true
  | .policyInvocation _ => true
  | .policyScan _ => true
  | .ledgerMoveStart _ => true
  | .spillCommit _ _ => true
  | .fetchCommit _ _ => true
  | .pressCommit _ _ _ => true
  | .spanBegin _ _ => true
  | .gangStart _ _ => true
  | .spanEnd _ _ => true
  | .rng _ _ => true
  | .replayStart _ => true
  | .flashRead _ _ _ _ _ => true
  | .patrolRead _ _ _ _ => true
  | .relocationCommit _ _ => true
  | .segmentErase _ _ _ => true
  | .targetBusyTimeout _ => true
  | .channelRebuildDone _ => true
  | .openVolume _ _ _ _ => true
  | .closeVolume _ _ _ _ => true
  | .volumeSealed _ _ => true
  | .abandonVolume _ _ _ _ => true
  | .volumeFree _ _ _ _ => true
  | .volumeFreeingDone _ _ => true
  | .freeUnbound _ _ _ _ => true
  | .repoLoad _ _ _ _ _ => true
  | .loadDone _ => true
  | .portTrained _ _ _ _ _ _ _ _ => true
  | .trainingTimeout _ => true
  | .restoreTimer _ => true
  | .frameReceive _ _ _ _ _ => true
  | .nak _ _ => true
  | .retryBudgetExpiry _ => true
  | .retrainDone _ _ => true
  | .linkLost _ => true
  | .tieData _ _ _ _ _ bytes => decide (bytes.length ≤ 576)
  | .signal _ _ => true
  | .sigAck _ _ _ _ => true
  | .tieAck _ _ _ => true
  | .tieReset _ _ _ _ => true
  | .barUp _ _ _ _ => true
  | .barDown _ _ _ _ _ => true
  | .ts _ _ _ _ _ _ => true
  | .negotiate _ _ ties => ties.all fun x => decide (x.1 < 4096) && decide (x.2.1 < 2 ^ 64) && decide (x.2.2 < 2 ^ 32)
  | .tsExchange => true
  | .routeDown _ _ => true
  | .tjlResume _ _ _ => true
  | .perstAssert _ => true
  | .perstDeassert _ => true
  | .hotReset _ => true
  | .dlDown _ => true
  | .portFailed _ => true
  | .portUp _ _ _ _ => true
  | .hostReady _ => true
  | .configRequest _ _ _ => true
  | .bar4Write _ _ off data => decide (0 < data.length) && decide (data.length ≤ 4096) && decide (off.toNat + data.length ≤ 2 ^ 36)
  | .bar4Read _ _ off len => decide (0 < len.val) && decide (off.toNat + len.val ≤ 2 ^ 36)
  | .stagingSeal _ _ _ _ _ _ => true
  | .stagingFree _ _ _ _ _ => true
  | .claim _ _ _ => true
  | .release _ _ _ => true
  | .handover _ _ _ => true
  | .leaseLow _ => true
  | .leaseExpired _ => true
  | .entropyHealthFail => true
  | .unlock _ => true
  | .lock _ => true
  | .debugExpiry => true
  | .arm _ => true
  | .zero _ _ => true
  | .tamper => true
  | .supplyTamper => true
  | .tempTamper => true
  | .pwrGood _ _ => true
  | .pwrGoodLow => true
  | .sysReset _ => true
  | .tbLock => true
  | .tbLockTimeout => true
  | .secmon _ => true
  | .xing fails => noRepeat (fails.map (·.1))
  | .memory _ _ => true
  | .ntest r1 r2 => noRepeat (r1.map fun x => (x.1, x.2.1)) && noRepeat (r2.map fun x => (x.1, x.2.1))
  | .map => true
  | .select _ _ _ _ _ _ => true
  | .verify => true
  | .device => true
  | .flash _ _ _ _ _ _ targets _ _ => decide (targets.length = 16)
  | .load _ _ => true
  | .complete => true
  | .nvmReadTimeout _ => true
  | .nvmErase _ _ => true
  | .nvmProgram _ _ => true
  | .nvmRead _ _ => true
  | .nvmCmdDone _ => true
  | .tapItem _ _ _ => true
  | .judgeReturn _ _ _ _ _ _ => true
  | .chkTime _ => true
  | .verdictCommit _ => true
  | .lockstepMismatch _ => true
  | .checkerPairFailure _ => true
  | .pinReadback _ _ => true
  | .grdTripWrite _ _ _ => true
  | .ageExpiry _ _ => true
  | .watchUpdate _ => true
  | .windowMaxExpiry _ _ => true
  | .budgetOverrun _ _ => true
  | .testSegmentStart _ _ => true
  | .testSegmentEnd _ _ _ => true
  | .rotationDeadline _ _ => true
  | .tbCheck _ => true
  | .injDue _ => true
  | .unitHandshakeTimeout _ => true
  | .haltTimeout _ => true
  | .abortComplete _ => true
  | .transferTimeout _ _ _ _ => true
  | .timeoutHardCap _ _ _ => true
  | .capture _ _ _ _ _ _ _ _ _ => true
  | .captureTick _ => true
  | .deadlock _ => true
  | .waiterGraphDone _ => true
  | .dlRearm _ _ => true
  | .soSet _ _ _ _ _ _ => true
  | .traceStart _ => true
  | .traceStop _ => true
  | .mgmtWrite bytes => decide (bytes.length ≤ 64)
  | .mgmtRead bytes => decide (bytes.length ≤ 64)
  | .mgmtLast => true
  | .smbTimeout => true
  | .alertResponse => true
  | .entdaa _ => true
  | .setdasa _ _ => true
  | .rstdaa => true
  | .enec => true
  | .disec => true
  | .getpid => true
  | .getbcr => true
  | .getdcr => true
  | .getstatus => true
  | .getmwl => true
  | .getmrl => true
  | .setmwl _ => true
  | .setmrl _ => true
  | .bypass => true
  | .idcode => true
  | .mbox _ _ => true
  | .samplePreload _ => true
  | .extest => true
  | .clamp => true
  | .highz => true
  | .ijtag segs => noRepeat segs
  | .syncIn _ _ => true
  | .tbOut _ => true
  | .trigIn _ _ => true
  | .pulseEnd _ => true
  | .pinSwitch _ _ _ _ _ _ => true
  | .switchQuietEnd _ _ => true
  | .feedLoss => true
  | .regFault _ => true
  | .dlUp _ => true
  | .targetReady _ => true
  | .ckSelfCheck _ _ => true
  | .towerChannelRetrain _ _ _ => true
  | .systemDieFailed => true
  | .coolFault => true
  | .leak => true

end Sys2Proof
end

