-- ==== Sys2Proof/Safety.lean ====
section
/-! DEFINITION. What claims are stated in: that a command completes, which parts of the state it leaves alone, the canonical form of
the memory, and the values that the state of the management interface and of the TAP can hold. -/

namespace Sys2Proof.Machine

/-- The command completes: `exec` answers a next state, and `P` holds of it. -/
def Completes (c : Instr) (s : State) (P : State → Prop) : Prop := ∃ t, exec c s = .next t ∧ P t

/-! ### Frames -/

/-- The components of the state that a frame names. -/
inductive Comp where
  | pending | out | fresh | now | regs | staged | shadow | wafer
  | words | hdrs | pages | dir | ckpts | flips | ages
  | threads | owed | sregs | vregs | accs | engines
  | sync | ledger | replay | tjl | hosts | logs | guard | parts | dbg | sec | boot | repo | side
deriving DecidableEq, Repr

/-- A component has the same value in two states. -/
def Same (s t : State) : Comp → Prop
  | .pending => t.pending = s.pending
  | .out => t.out = s.out
  | .fresh => t.fresh = s.fresh
  | .now => t.now = s.now
  | .regs => t.regs = s.regs
  | .staged => t.staged = s.staged
  | .shadow => t.shadow = s.shadow
  | .wafer => t.wafer = s.wafer
  | .words => t.mem.words = s.mem.words
  | .hdrs => t.mem.hdrs = s.mem.hdrs
  | .pages => t.mem.pages = s.mem.pages
  | .dir => t.mem.dir = s.mem.dir
  | .ckpts => t.mem.ckpts = s.mem.ckpts
  | .flips => t.mem.flips = s.mem.flips
  | .ages => t.mem.ages = s.mem.ages
  | .threads => t.cores.threads = s.cores.threads
  | .owed => t.cores.owed = s.cores.owed
  | .sregs => t.cores.sregs = s.cores.sregs
  | .vregs => t.cores.vregs = s.cores.vregs
  | .accs => t.cores.accs = s.cores.accs
  | .engines => t.cores.engines = s.cores.engines
  | .sync => t.sync = s.sync
  | .ledger => t.ledger = s.ledger
  | .replay => t.replay = s.replay
  | .tjl => t.tjl = s.tjl
  | .hosts => t.hosts = s.hosts
  | .logs => t.logs = s.logs
  | .guard => t.guard = s.guard
  | .parts => t.parts = s.parts
  | .dbg => t.dbg = s.dbg
  | .sec => t.sec = s.sec
  | .boot => t.boot = s.boot
  | .repo => t.repo = s.repo
  | .side => t.side = s.side

/-- The second state is the first but for the components listed: every register field, every word of memory, every thread
and every other piece of state in a component that is not listed is unchanged. -/
def SameBut (l : List Comp) (s t : State) : Prop := ∀ q, q ∉ l → Same s t q

/-- Every copy of every register field but those listed reads as before. -/
def RegsBut (l : List (Field × Nat)) (s t : State) : Prop :=
  ∀ f i, (∀ x ∈ l, regKey f i ≠ regKey x.1 x.2) → t.rd f i = s.rd f i

/-- The newest entry of the device ring has a block and a code (R489, R490). -/
def NewestLog (block code : Nat) (u : State) : Prop := ∃ e, u.logs.dev.head? = some e ∧ e.block = block ∧ e.code = code

/-- What left the device last. -/
def Sent (o : Out) (u : State) : Prop := u.out.head? = some o

/-- The tick that the count shows once a tick that is due has been reached: it stands still while the timebase does not run. -/
def State.after (s : State) (t : Nat) : Nat := if s.wafer.running = true ∧ s.now < t then t else s.now

/-! ### Commands of hosts -/

/-- A requester's command to a partition is carried out: it came through function `pf` of host port `x`, PF0 or the partition's own,
which takes requests; the port's host holds the partition's semaphore; and its sequence is no duplicate (R73, R361). -/
abbrev Ordered (s : State) (r : Req) (p x pf src seq : Nat) : Prop :=
  s.hostOn r p = some (x, pf) ∧ s.isSteward p x = true ∧ s.dupSeq src seq = false

/-- PAR_CMD_STAT shows a command's sequence, its port and its result (R74). -/
def ParAnswered (p seq x res : Nat) (u : State) : Prop :=
  u.rd PAR_CMD_STAT.SEQ p = seq ∧ u.rd PAR_CMD_STAT.PORT p = x + 1 ∧ u.rd PAR_CMD_STAT.RESULT p = res

/-- No poll is parked and the Ledgers hold nothing: a change of a partition brings no further one. -/
abbrev State.calm (s : State) : Prop := s.sync.parks = [] ∧ s.ledger.entries = [] ∧ s.ledger.moves = [] ∧ s.replay.queue = []

/-- No partition is formed: no column of the wafer belongs to one (R59). -/
abbrev State.unformed (s : State) : Prop := ∀ q, q < 4 → s.cols q = 0

/-! ### Threads -/

/-- An instruction of a thread can issue and go on to a next word: the thread is READY in a partition that runs, its program
counter is not the last word, and no status is still owed to it (R140, R146, R197). -/
abbrev Issuable (s : State) (t : Thr) : Prop :=
  s.canIssue (thrOf t) = true ∧ (s.thread (thrOf t)).pc ≠ 8191 ∧ s.owed (thrOf t) = []

/-- An instruction of thread `k` has issued and goes on at word `pc`; but for the components listed, nothing else has changed
than the thread's own context and its core's count of issued instructions (R141, R519). -/
def IssuedTo (k pc : Nat) (l : List Comp) (s u : State) : Prop :=
  u.thread k = { s.thread k with pc := pc, issued := s.now } ∧ (∀ j, j ≠ k → u.thread j = s.thread j) ∧
  u.dbg = (s.tally 0 (k / 32) 0x10 1).dbg ∧ SameBut (.threads :: .dbg :: l) s u

/-- The same for a matrix instruction, which is also counted as one (R519). -/
def IssuedMatrix (k : Nat) (l : List Comp) (s u : State) : Prop :=
  u.thread k = { s.thread k with pc := (s.thread k).pc + 1, issued := s.now } ∧ (∀ j, j ≠ k → u.thread j = s.thread j) ∧
  u.dbg = ((s.tally 0 (k / 32) 0x10 1).tally 0 (k / 32) 0x11 1).dbg ∧ SameBut (.threads :: .dbg :: l) s u

/-- Every scalar register but one reads as before. -/
def SregsBut (k r : Nat) (s u : State) : Prop := ∀ j q, q < 32 → (j ≠ k ∨ q ≠ r) → u.sreg j q = s.sreg j q
/-- Every vector register but one reads as before. -/
def VregsBut (k r : Nat) (s u : State) : Prop := ∀ j q, q < 8 → (j ≠ k ∨ q ≠ r) → u.vreg j q = s.vreg j q
/-- Every accumulator bank but one holds what it held. -/
def BanksBut (c b : Nat) (s u : State) : Prop := ∀ d a i, a < 4 → i < 128 → (d ≠ c ∨ a ≠ b) → u.acc d a i = s.acc d a i
/-- Every memory word outside the `n` words from local word `w` of a core reads as before. -/
def WordsBut (f m w n : Nat) (s u : State) : Prop := ∀ k, (∀ i, i < n → k ≠ localWord f m (w + i)) → u.word k = s.word k

/-! ### The canonical form of the memory -/

/-- The words, the tile headers, the page records and the page directories are listed in their one canonical form: keys strictly rising, nothing
listed that reads as an unlisted one does. -/
def Memory.wf (m : Mem) : Bool := Store.wf word0 m.words && Store.wf 0 m.hdrs && Store.wf page0 m.pages && Store.wf dir0 m.dir

/-! ### Legal values -/

/-- The TAP instructions that the spec lists (R543). -/
def tapCodes : List Nat := [0x01, 0x02, 0x03, 0x04, 0x05, 0x10, 0x20, 0xFF]

/-- The management interface and the TAP hold values they can hold: a strap of two bits, a dynamic address of 7 bits, a SEQ of
a byte, MWL and MRL from 40 to 64, a listed TAP instruction (R537-R539, R543). -/
def SideU.legal (y : SideU) : Bool :=
  decide (y.maddr < 4) && decide (y.dyn < 128) && decide (y.seq < 256) && decide (40 ≤ y.mwl) && decide (y.mwl ≤ 64) &&
  decide (40 ≤ y.mrl) && decide (y.mrl ≤ 64) && tapCodes.contains y.instr

/-- Every command that waits is well formed. -/
def State.queueOk (s : State) : Bool := s.pending.all wellFormed

end Sys2Proof.Machine
end

