-- ==== Sys2Proof/Certificates/Slice0/Obligations.lean ====
section
/-! DEFINITION. The statements for the provers: what each command does where it completes, by the rules of spec/, and what it leaves
alone. -/

open Sys2Proof Sys2Proof.Machine

/-! ### Threads (06_cores_threads.md) -/

/-- R142, R152: a scalar instruction writes one scalar register, a vector instruction one vector register (or a scalar one where it
reduces), THR.ID its destination register; each goes on to the next word and leaves everything else alone. Which register and what value
are free values of the instruction's bits and operands, since the manual leaves the encodings to Yalust (notes/assumptions/3.md). -/
def Obligations.ComputeWritesOneRegister : Prop :=
  ∀ (s : State) (t : Thr) (w : BitVec 59) (sd : SReg), Issuable s t →
    Completes (.scalarOp t w) s (fun u =>
      IssuedTo (thrOf t) ((s.thread (thrOf t)).pc + 1) [.sregs] s u ∧
      u.sreg (thrOf t) (Config.scalarDest w.toNat % 32) = Config.scalarValue w.toNat (s.sregs (thrOf t)) ∧
      SregsBut (thrOf t) (Config.scalarDest w.toNat % 32) s u) ∧
    Completes (.vectorOp t w) s (fun u => let d := Config.vectorDest w.toNat % 40
      let v := Config.vectorValue w.toNat (s.vregs (thrOf t)) (s.sregs (thrOf t))
      IssuedTo (thrOf t) ((s.thread (thrOf t)).pc + 1) [if d < 8 then .vregs else .sregs] s u ∧
      (d < 8 → u.vreg (thrOf t) d = v ∧ VregsBut (thrOf t) d s u) ∧
      (8 ≤ d → u.sreg (thrOf t) (d - 8) = v.setWidth 64 ∧ SregsBut (thrOf t) (d - 8) s u)) ∧
    Completes (.thrId t sd) s (fun u =>
      IssuedTo (thrOf t) ((s.thread (thrOf t)).pc + 1) [.sregs] s u ∧
      u.sreg (thrOf t) sd.val = Config.threadIdent t.f.val t.m.val t.t.val ∧ SregsBut (thrOf t) sd.val s u)

/-- R152: BR goes on at its target; BRC goes there or on to the next word; CALL leaves the next word's number in its register and goes
to its target; RET goes on at the word its register holds, where there is one (R146). Nothing else changes. That CALL and RET use a
scalar register is the model's choice (notes/assumptions/3.md). -/
def Obligations.ControlMovesProgramCounter : Prop :=
  ∀ (s : State) (t : Thr) (w : BitVec 59) (dest : BitVec 13) (r : SReg), Issuable s t →
    Completes (.br t dest) s (IssuedTo (thrOf t) dest.toNat [] s) ∧
    Completes (.brc t w dest) s (IssuedTo (thrOf t)
      (if Config.branchTaken w.toNat (s.sregs (thrOf t)) then dest.toNat else (s.thread (thrOf t)).pc + 1) [] s) ∧
    Completes (.call t r dest) s (fun u => IssuedTo (thrOf t) dest.toNat [.sregs] s u ∧
      u.sreg (thrOf t) r.val = BitVec.ofNat 64 ((s.thread (thrOf t)).pc + 1) ∧ SregsBut (thrOf t) r.val s u) ∧
    ((s.sreg (thrOf t) r.val).toNat ≤ 8191 → Completes (.ret t r) s (IssuedTo (thrOf t) (s.sreg (thrOf t) r.val).toNat [] s))

/-- R138, R142, R152: the matrix instructions on a bank that the thread has claimed. ACC.ZERO clears its 128 words, ACC.LD fills them from 1 KiB
of local memory, ACC.ST stores them there with the F/E bits kept and no poison, MMA gives each word a free value of the bank, the operands
and the instruction's bits. No other bank changes, and no word of memory but those stored. -/
def Obligations.MatrixOnClaimedBank : Prop :=
  ∀ (s : State) (t : Thr) (b : Fin 4) (w : BitVec 59) (a : BitVec 64), Issuable s t → bit (s.banksOf t) b.val = true →
    Completes (.accZero t b) s (fun u => IssuedMatrix (thrOf t) [.accs] s u ∧
      (∀ i, i < 128 → u.acc (thrOf t / 32) b.val i = 0) ∧ BanksBut (thrOf t / 32) b.val s u) ∧
    Completes (.mma t b w) s (fun u => IssuedMatrix (thrOf t) [.accs] s u ∧
      (∀ i, i < 128 → u.acc (thrOf t / 32) b.val i =
        Config.mmaWord w.toNat i (s.bank (thrOf t / 32) b.val) (s.vregs (thrOf t))) ∧ BanksBut (thrOf t / 32) b.val s u) ∧
    (a.toNat % 8 = 0 → a.toNat + 1024 ≤ 0x80000 → s.scrOk (thrOf t) a.toNat 1024 = true →
      ((∀ i, i < 128 → (s.lword t (a.toNat / 8 + i)).poison = false) →
        Completes (.accLd t b a) s fun u => IssuedMatrix (thrOf t) [.accs] s u ∧
          (∀ i, i < 128 → u.acc (thrOf t / 32) b.val i = (s.lword t (a.toNat / 8 + i)).data) ∧ BanksBut (thrOf t / 32) b.val s u) ∧
      Completes (.accSt t b a) s fun u => IssuedMatrix (thrOf t) [.words] s u ∧
        (∀ i, i < 128 → u.lword t (a.toNat / 8 + i) =
          ⟨s.acc (thrOf t / 32) b.val i, (s.lword t (a.toNat / 8 + i)).full, false⟩) ∧
        WordsBut t.f.val t.m.val (a.toNat / 8) 128 s u)

/-- R143, R144, R147: LD of 1, 2, 4 or 8 aligned bytes zero- or sign-extends them into its register; LD.V takes 8 words, LD.HDR a header
slot. Memory, the F/E bits among it, does not change. -/
def Obligations.LoadsReadLocalMemory : Prop :=
  ∀ (s : State) (t : Thr) (lg : Fin 4) (sx : Bool) (sd : SReg) (vd : VReg) (slot : Fin 32) (a : BitVec 64), Issuable s t →
    (a.toNat % 2 ^ lg.val = 0 → a.toNat + 2 ^ lg.val ≤ 0x80000 → s.scrOk (thrOf t) a.toNat (2 ^ lg.val) = true →
      (s.lword t (a.toNat / 8)).poison = false → Completes (.ld t lg sx sd a) s fun u =>
        IssuedTo (thrOf t) ((s.thread (thrOf t)).pc + 1) [.sregs] s u ∧ SregsBut (thrOf t) sd.val s u ∧
        u.sreg (thrOf t) sd.val =
          (let v := ((s.lword t (a.toNat / 8)).data >>> (8 * (a.toNat % 8))).setWidth (8 * 2 ^ lg.val)
           if sx then v.signExtend 64 else v.setWidth 64)) ∧
    (a.toNat % 8 = 0 → a.toNat + 64 ≤ 0x80000 → s.scrOk (thrOf t) a.toNat 64 = true →
      (∀ i, i < 8 → (s.lword t (a.toNat / 8 + i)).poison = false) → Completes (.ldV t vd a) s fun u =>
        IssuedTo (thrOf t) ((s.thread (thrOf t)).pc + 1) [.vregs] s u ∧ VregsBut (thrOf t) vd.val s u ∧
        ∀ i, i < 8 → (u.vreg (thrOf t) vd.val >>> (64 * i)).setWidth 64 = (s.lword t (a.toNat / 8 + i)).data) ∧
    Completes (.ldHdr t vd slot) s (fun u =>
      IssuedTo (thrOf t) ((s.thread (thrOf t)).pc + 1) [.vregs] s u ∧ VregsBut (thrOf t) vd.val s u ∧
      u.vreg (thrOf t) vd.val = BitVec.ofNat 512 (s.hdr (localTile t.f.val t.m.val slot.val)))

/-- R143, R147: ST of 1, 2, 4 or 8 aligned bytes stores the low bytes of its register at the address and leaves the word's other bytes and its F/E
bit alone; a whole word loses its poison. ST.V stores 8 words. Every word outside reads as before, and no register changes. -/
def Obligations.StoresWriteLocalMemory : Prop :=
  ∀ (s : State) (t : Thr) (lg : Fin 4) (sb : SReg) (vb : VReg) (a : BitVec 64), Issuable s t →
    (a.toNat % 2 ^ lg.val = 0 → a.toNat + 2 ^ lg.val ≤ 0x80000 → s.scrOk (thrOf t) a.toNat (2 ^ lg.val) = true →
      ((s.lword t (a.toNat / 8)).poison = false ∨ lg = 3) → Completes (.st t lg sb a) s fun u =>
        IssuedTo (thrOf t) ((s.thread (thrOf t)).pc + 1) [.words] s u ∧ WordsBut t.f.val t.m.val (a.toNat / 8) 1 s u ∧
        (u.lword t (a.toNat / 8)).full = (s.lword t (a.toNat / 8)).full ∧ (u.lword t (a.toNat / 8)).poison = false ∧
        ∀ j, j < 8 → ((u.lword t (a.toNat / 8)).data >>> (8 * j)).setWidth 8 =
          if a.toNat % 8 ≤ j ∧ j < a.toNat % 8 + 2 ^ lg.val then ((s.sreg (thrOf t) sb.val) >>> (8 * (j - a.toNat % 8))).setWidth 8
          else ((s.lword t (a.toNat / 8)).data >>> (8 * j)).setWidth 8) ∧
    (a.toNat % 8 = 0 → a.toNat + 64 ≤ 0x80000 → s.scrOk (thrOf t) a.toNat 64 = true → Completes (.stV t vb a) s fun u =>
        IssuedTo (thrOf t) ((s.thread (thrOf t)).pc + 1) [.words] s u ∧ WordsBut t.f.val t.m.val (a.toNat / 8) 8 s u ∧
        ∀ i, i < 8 → u.lword t (a.toNat / 8 + i) =
          ⟨(s.vreg (thrOf t) vb.val >>> (64 * i)).setWidth 64, (s.lword t (a.toNat / 8 + i)).full, false⟩)

/-- R143, R146, R147, R155: where a load or store faults. A misaligned address, or one past 0x7_FFFF, gives code 2; a poisoned word code 3; the last
word of the instruction store code 1, as an instruction of an unlisted class does. The thread is FAULTED and CORE_FLT records the
thread, its program counter and the code; memory does not change. For a thread that runs no span part, on a core without a fault
handler. -/
def Obligations.ThreadFaultsAreRecorded : Prop :=
  ∀ (s : State) (t : Thr) (lg : Fin 4) (sx : Bool) (sd : SReg) (a : BitVec 64), Issuable s t → s.partRun (thrOf t) = none →
    (s.program t.f.val t.m.val).bind (·.handler) = none →
    let faulted : Nat → State → Prop := fun code u =>
      (u.thread (thrOf t)).st = .faulted ∧ (u.thread (thrOf t)).pc = (s.thread (thrOf t)).pc ∧
      u.rd CORE_FLT.VALID (thrOf t / 32) = 1 ∧ u.rd CORE_FLT.THREAD (thrOf t / 32) = t.t.val ∧
      u.rd CORE_FLT.PC (thrOf t / 32) = (s.thread (thrOf t)).pc % 2 ^ 13 ∧ u.rd CORE_FLT.CODE (thrOf t / 32) = code ∧
      (s.rd CORE_FLT.VALID (thrOf t / 32) = 1 → u.rd CORE_FLT.OVER (thrOf t / 32) = 1) ∧
      SameBut [.threads, .dbg, .regs, .out, .hosts, .side, .logs] s u
    Completes (.illegalOp t) s (faulted 1) ∧
    (a.toNat % 2 ^ lg.val ≠ 0 ∨ 0x80000 < a.toNat + 2 ^ lg.val →
      Completes (.ld t lg sx sd a) s (faulted 2) ∧ Completes (.st t lg sd a) s (faulted 2)) ∧
    (a.toNat % 2 ^ lg.val = 0 → a.toNat + 2 ^ lg.val ≤ 0x80000 → (s.lword t (a.toNat / 8)).poison = true →
      Completes (.ld t lg sx sd a) s (faulted 3) ∧ (lg ≠ 3 → Completes (.st t lg sd a) s (faulted 3)))

/-! ### Register accesses (00_scope.md) -/

/-- R14-R17, R23: a write of a word through a requester of the device tag. An RW field takes a listed value (SYS_PWR_CAP.WATTS), and no other
register changes; a value that its table does not list is discarded whole and logged CFG_RSVD. An RWL field (TIER_SCRUB.HOURS) is
written before start-up completes and sealed after it, and a write that differs is logged ACC_SEALED. A 1 clears a W1C bit
(PAR_EVT.T2_LOW). A read-only word takes nothing (SYS_ID). -/
def Obligations.RegisterWriteFollowsAccessCode : Prop :=
  ∀ (s : State) (r : Req) (d : BitVec 64), s.reqOn r = true → reqPart r = none → s.rd SEC_STAT.EVAL 0 = 0 → d.toNat < 2 ^ 32 →
    (4000 ≤ d.toNat % 65536 → d.toNat % 65536 ≤ 18500 → Completes (.registerWrite r false 0x204 false d) s fun u =>
      u.rd SYS_PWR_CAP.WATTS 0 = d.toNat % 65536 ∧ RegsBut [(SYS_PWR_CAP.WATTS, 0)] s u ∧ SameBut [.regs, .out, .side] s u) ∧
    (d.toNat % 65536 < 4000 ∨ 18500 < d.toNat % 65536 → Completes (.registerWrite r false 0x204 false d) s fun u =>
      NewestLog 0 3 u ∧ SameBut [.logs, .out, .hosts, .side] s u) ∧
    (s.rd SYS_BOOT_STAT.DONE 0 = 0 → 1 ≤ d.toNat % 256 → d.toNat % 256 ≤ 168 →
      Completes (.registerWrite r false 0x300004 false d) s fun u =>
        u.rd TIER_SCRUB.HOURS 0 = d.toNat % 256 ∧ RegsBut [(TIER_SCRUB.HOURS, 0)] s u ∧ SameBut [.regs, .out, .side] s u) ∧
    (s.rd SYS_BOOT_STAT.DONE 0 = 1 → d.toNat % 256 ≠ s.rd TIER_SCRUB.HOURS 0 → s.rd TIER_SCRUB.HOURS 0 < 256 →
      Completes (.registerWrite r false 0x300004 false d) s fun u => NewestLog 0 2 u ∧ SameBut [.logs, .out, .hosts, .side] s u) ∧
    (∀ p : Part, Completes (.registerWrite r false (0x20010C + p.val * 0x100) false d) s fun u =>
      (bit d.toNat 1 = true → s.rd PAR_EVT.T2_LOW p.val < 2 → u.rd PAR_EVT.T2_LOW p.val = 0) ∧
      (bit d.toNat 1 = false → s.rd PAR_EVT.T2_LOW p.val < 2 → u.rd PAR_EVT.T2_LOW p.val = s.rd PAR_EVT.T2_LOW p.val) ∧
      SameBut [.regs, .out, .side] s u) ∧
    Completes (.registerWrite r false 0 false d) s (SameBut [.out, .side] s)

/-- R14: an aligned 8-byte write is two 4-byte ones, the lower address first; a misaligned write is a MISALIGNED_ACCESS, which is logged ACC_SIZE
and, where it reads, answered with bytes of 0xFF. BAR2: a word of DB_ARG keeps its bits for the slot (R359). -/
def Obligations.AccessesAreSplitOrRefused : Prop :=
  ∀ (s : State) (r : Req) (off : Nat) (d : BitVec 64) (x : Port) (pf : Fin 5) (slot : Fin 64) (len : Nat),
    (off % 8 = 0 → Completes (.registerWrite r false off true d) s fun u => ∃ m,
      exec (.registerWrite r false off false (d &&& 0xFFFFFFFF)) s = .next m ∧ exec (.registerWrite r false (off + 4) false (d >>> 32)) m = .next u) ∧
    (off % 4 ≠ 0 → ∀ b, exec (.registerWrite r b off false d) s = exec (.misalignedAccess r b off 4 true) s) ∧
    (s.fnOn x.val pf.val = true → ¬(off % 4 = 0 ∧ len = 4) → ¬(off % 8 = 0 ∧ len = 8) →
      Completes (.misalignedAccess (.host x pf) false off len true) s (fun u => NewestLog 0 1 u ∧ SameBut [.logs, .out, .hosts, .side] s u) ∧
      Completes (.misalignedAccess (.host x pf) false off len false) s (fun u => NewestLog 0 1 u ∧
        Sent (.read (.host x pf) off (2 ^ (8 * len) - 1)) u ∧ SameBut [.logs, .out, .hosts, .side] s u)) ∧
    (s.fnOn x.val pf.val = true → d.toNat < 2 ^ 32 → Completes (.registerWrite (.host x pf) true (slot.val * 0x20) false d) s fun u =>
      (u.bell pf.val slot.val).arg % 2 ^ 32 = d.toNat ∧ (u.bell pf.val slot.val).arg / 2 ^ 32 = (s.bell pf.val slot.val).arg / 2 ^ 32 ∧
      SameBut [.hosts] s u)

/-- R16, R363, R489, R516: reads of a requester of the device tag. A read of an RC field gives its value and clears it (GRD_TEST_WAIT); the first word of
SYS_TB gives the low half of the count and holds the whole of it for the next word; a read of HPT_PEVT lets vector 0 of the function
be sent again, and one of a ring head vector 3. Memory and the cores do not change. -/
def Obligations.ReadsAnswerAndClear : Prop :=
  ∀ (s : State) (x : Port) (p : Part), s.reqOn (.host x 0) = true →
    Completes (.rcRead (.host x 0) (0xA00158 + p.val * 0x100)) s (fun u =>
      Sent (.read (.host x 0) (0xA00158 + p.val * 0x100) (s.rd GRD_TEST_WAIT.MAX_TK p.val % 2 ^ 32)) u ∧
      u.rd GRD_TEST_WAIT.MAX_TK p.val = 0 ∧ RegsBut [(GRD_TEST_WAIT.MAX_TK, p.val)] s u ∧ SameBut [.regs, .out, .side] s u) ∧
    Completes (.snapshotRead (.host x 0) 0x100) s (fun u =>
      Sent (.read (.host x 0) 0x100 (s.now % 2 ^ 32)) u ∧ SameBut [.shadow, .out] s u ∧
      ∀ n, Completes (.snapshotRead (.host x 0) 0x104) { u with now := n } (Sent (.read (.host x 0) 0x104 (s.now / 2 ^ 32 % 2 ^ 32)))) ∧
    Completes (.pevtRead (.host x 0) p) s (fun u =>
      Store.get false u.hosts.inh0 (funcKey x.val 0) = false ∧ u.side.dev = false ∧ SameBut [.hosts, .out, .side] s u) ∧
    Completes (.flogHeadRead (.host x 0) none) s (fun u =>
      Store.get false u.hosts.inh3 (funcKey x.val 0) = false ∧ SameBut [.hosts, .out, .side] s u)

/-! ### The timebase, the governor and crossings (02_wafer_fields_pace.md) -/

/-- R48-R51, R54: the timebase's commands. A write of SYS_TB_TRIM in range takes effect unless the timebase follows another wafer, where it is logged
TB_OWNED; a pulse per second is captured and counted, or flagged as a glitch within 0.9 s of the last; one that has been missed is
flagged; the loss of the reference enters holdover and sets REF_BAD, and a relock clears HOLDOVER alone; each leaf takes its error, or 0 where
it reloads; the 64-bit count wraps to 0. -/
def Obligations.TimebaseEventsSetTheirFlags : Prop :=
  ∀ (s : State) (r : Req) (d : BitVec 32) (t : Nat) (errs : List (Fin 92 × Int)),
    (s.devWriter r = true → d.toInt.natAbs ≤ 100000 → s.rd SYS_TB_STAT.FOLLOW 0 = 0 → Completes (.tbTrimWrite r d) s fun u =>
      u.rd SYS_TB_TRIM.PPB 0 = d.toNat ∧ RegsBut [(SYS_TB_TRIM.PPB, 0)] s u ∧ SameBut [.regs] s u) ∧
    (s.devWriter r = true → d.toInt.natAbs ≤ 100000 → s.rd SYS_TB_STAT.FOLLOW 0 = 1 → Completes (.tbTrimWrite r d) s fun u =>
      NewestLog 0 4 u ∧ SameBut [.logs, .out, .hosts, .side] s u) ∧
    ((∀ t ∈ s.wafer.pps, t + 900000000 ≤ s.now) → Completes .ppsEdge s fun u =>
      u.rd SYS_TB_PPS.CAPTURE 0 = s.now % 2 ^ 64 ∧ u.rd SYS_TB_PPS_SEQ.COUNT 0 = (s.rd SYS_TB_PPS_SEQ.COUNT 0 + 1) % 2 ^ 16 ∧
      u.wafer.pps = some s.now ∧ RegsBut [(SYS_TB_PPS.CAPTURE, 0), (SYS_TB_PPS_SEQ.COUNT, 0)] s u ∧ SameBut [.regs, .wafer] s u) ∧
    (s.wafer.pps = some t → s.now < t + 900000000 → Completes .ppsEdge s fun u =>
      u.rd SYS_TB_PPS_SEQ.GLITCH 0 = 1 ∧ RegsBut [(SYS_TB_PPS_SEQ.GLITCH, 0)] s u ∧ SameBut [.regs] s u) ∧
    (s.wafer.pps = some t → s.wafer.running = true → Completes .ppsMissed s fun u =>
      u.rd SYS_TB_PPS_SEQ.MISSED 0 = 1 ∧ u.now = max s.now (t + 1100000000) ∧ u.wafer = s.wafer) ∧
    (s.wafer.running = true → s.rd SYS_TB_STAT.HOLDOVER 0 = 0 → Completes .tbRefLoss s fun u =>
      u.rd SYS_TB_STAT.HOLDOVER 0 = 1 ∧ u.rd SYS_TB_STAT.REF_BAD 0 = 1 ∧ NewestLog 0 0x13 u ∧
      RegsBut [(SYS_TB_STAT.HOLDOVER, 0), (SYS_TB_STAT.REF_BAD, 0)] s u ∧ SameBut [.regs, .logs, .out, .hosts, .side] s u) ∧
    Completes .tbRelock s (fun u => u.rd SYS_TB_STAT.HOLDOVER 0 = 0 ∧ RegsBut [(SYS_TB_STAT.HOLDOVER, 0)] s u ∧ SameBut [.regs] s u) ∧
    (noRepeat (errs.map (·.1)) = true → s.wafer.running = true → Completes (.tbBroadcast errs) s fun u =>
      (∀ e ∈ errs, Store.get 0 u.wafer.leaf e.1.val = if 8 < e.2.natAbs then 0 else e.2) ∧
      (∀ i, i ∉ errs.map (·.1.val) → Store.get 0 u.wafer.leaf i = Store.get 0 s.wafer.leaf i) ∧
      u.now = (s.now / 4096 + 1) * 4096) ∧
    (s.wafer.running = true → Completes .tbWrap s fun u => u.now % 2 ^ 64 = 0 ∧ s.now < u.now ∧ u.rd SYS_TB_STAT.WRAP 0 = 1)

/-- R44, R45, R57: once phase SELECT has begun, a governor period records the power and each powered field's pace and junction temperature, and
sets when the next one ends. With the governor off and every field below THROTTLE, no supply changes. -/
def Obligations.GovernorPeriodRecordsMeasurements : Prop :=
  ∀ (s : State) (ms : List FieldMeas) (watts : Nat), 6 ≤ s.rd SYS_BOOT_STAT.PHASE 0 → ms.length = 64 → watts < 2 ^ 16 →
    Completes (.governorPeriod ms watts) s fun u =>
      u.rd SYS_PWR_NOW.WATTS 0 = watts ∧
      (∀ f (h : f < ms.length), s.rd SYS_FSTAT.OFF f = 0 → u.rd SYS_FPACE.PACE f = ms[f].pace % 2 ^ 16 ∧
        u.rd SYS_FTEMP.JUNCTION f = min 255 ms[f].junction) ∧
      (s.rd SYS_PACE_CTL.GOV_EN 0 = 0 → (∀ m ∈ ms, m.junction < s.rd SYS_THERM.THROTTLE 0 ∧ m.junction < s.rd SYS_THERM.CRIT 0) →
        ∀ f, u.rd SYS_FPACE.MV f = s.rd SYS_FPACE.MV f) ∧
      u.wafer.govAt = u.now + s.rd SYS_PACE_CTL.PERIOD 0 * 10000

/-- R52: link groups of a crossing. A CRC error of a group in use is counted against it while fewer than three fall within 1 ms; a group that fails while a spare
stands by is replaced by the lowest-numbered one and the crossing pauses; the end of the pause is logged as XING_SWAP. -/
def Obligations.LinkGroupsSwapInSpares : Prop :=
  ∀ (s : State) (x : Crossing) (g k : Fin 10), bit (s.rd SYS_XING.USED x.val) g.val = true →
    (((Store.get [] s.wafer.crc (x.val * 10 + g.val)).filter fun t => decide (s.now < t + 1000000)).length < 2 →
      Completes (.flitCrcError x g) s fun u =>
        Store.get [] u.wafer.crc (x.val * 10 + g.val) =
          ((Store.get [] s.wafer.crc (x.val * 10 + g.val)).filter fun t => decide (s.now < t + 1000000)) ++ [s.now] ∧
        SameBut [.wafer, .dbg] s u) ∧
    (s.rd SYS_XING.USED x.val < 2 ^ 10 → s.rd SYS_XING.FAILED x.val < 2 ^ 10 → bit (s.rd SYS_XING.FAILED x.val) g.val = false → s.rd SYS_XING.LOST x.val ≠ 1 →
      bit (s.rd SYS_XING.USED x.val) k.val = false → bit (s.rd SYS_XING.FAILED x.val) k.val = false →
      (∀ j : Fin 10, j < k → bit (s.rd SYS_XING.USED x.val) j.val = true ∨ bit (s.rd SYS_XING.FAILED x.val) j.val = true) → k ≠ g →
      Completes (.linkGroupTimeout x g) s fun u =>
        bit (u.rd SYS_XING.USED x.val) g.val = false ∧ bit (u.rd SYS_XING.USED x.val) k.val = true ∧
        bit (u.rd SYS_XING.FAILED x.val) g.val = true ∧ Store.get 0 u.wafer.swap x.val = s.now + 1 ∧
        (∀ y, y ≠ x.val → u.rd SYS_XING.USED y = s.rd SYS_XING.USED y) ∧ SameBut [.regs, .wafer] s u) ∧
    (Store.get 0 s.wafer.swap x.val ≠ 0 → (∀ p, s.frames p = []) → Completes (.swapPauseEnd x) s fun u =>
      Store.get 0 u.wafer.swap x.val = 0 ∧ NewestLog 0 0x10 u ∧ SameBut [.wafer, .dbg, .logs, .out, .hosts, .side] s u)

/-! ### Partitions (03_partitions_admission.md, 19_failures.md) -/

/-- R73, R74, R361: partition commands from the steward with a fresh sequence, in the states they are valid in. RUN enters RUNNING; SUSPEND and
RESUME begin a save or a restore; STOP enters STOPPED with cause STOP; RESTART begins the abort. Each is answered with its sequence and port, in
another state with BAD_STATE, from a host that is no steward with NOT_STEWARD, and a duplicate with DUP; these three change nothing
else. The other partitions keep their states. -/
def Obligations.PartitionCommandsAnswer : Prop :=
  ∀ (s : State) (r : Req) (p : Part) (seq : BitVec 16) (keep : Bool) (x pf : Nat),
    let others : State → Prop := fun u => ∀ q, q < 4 → q ≠ p.val → u.pst q = s.pst q
    let st := [(PAR_CMD_STAT.SEQ, p.val), (PAR_CMD_STAT.PORT, p.val), (PAR_CMD_STAT.RESULT, p.val)]
    let told : Nat → State → Prop := fun res u => ParAnswered p.val seq.toNat x res u ∧ RegsBut st s u ∧ SameBut [.regs, .hosts, .out] s u
    (Ordered s r p.val x pf (parSrc p.val) seq.toNat →
      (s.pst p.val = stAdmitted → s.rd PAR_STATE.BUSY p.val = 0 → (s.part p.val).next = 0 → s.startBarred p.val = false →
        Completes (.run r p seq) s fun u => u.pst p.val = stRunning ∧ others u ∧ ParAnswered p.val seq.toNat x 0 u ∧
          SameBut [.regs, .parts, .words, .hdrs, .pages, .dir, .ckpts, .ages, .threads, .engines, .sync, .ledger, .tjl, .guard, .hosts, .out,
            .side] s u) ∧
      (s.pst p.val = stRunning → s.guarded p.val = false → (s.part p.val).halting = false → (s.part p.val).next = 0 →
        (s.part p.val).save = 0 → Completes (.suspend r p seq) s fun u => (u.part p.val).save = 1 ∧ (u.part p.val).began = s.now ∧
          u.rd PAR_STATE.BUSY p.val = 1 ∧ ParAnswered p.val seq.toNat x 1 u ∧ RegsBut ((PAR_STATE.BUSY, p.val) :: st) s u ∧
          SameBut [.regs, .parts, .hosts] s u) ∧
      (s.pst p.val = stSuspended → (s.part p.val).next = 0 → (s.part p.val).save = 0 → (s.part p.val).recover = false →
        Completes (.resume r p seq) s fun u => (u.part p.val).save = 3 ∧ u.rd PAR_STATE.BUSY p.val = 1 ∧
          ParAnswered p.val seq.toNat x 1 u ∧ RegsBut ((PAR_STATE.BUSY, p.val) :: st) s u ∧ SameBut [.regs, .parts, .hosts] s u) ∧
      (stAdmitted ≤ s.pst p.val → s.pst p.val ≤ stSafe → (s.part p.val).next ≠ 2 → Completes (.stop r p seq) s fun u =>
        u.pst p.val = stStopped ∧ u.rd PAR_STATE.CAUSE p.val = 0x0B ∧ others u ∧ ParAnswered p.val seq.toNat x 0 u) ∧
      (stAdmitted ≤ s.pst p.val → Completes (.restart r p seq keep) s fun u => (u.part p.val).next = 2 ∧ (u.part p.val).keep = keep ∧
        (u.part p.val).frozen = true ∧ u.rd PAR_STATE.BUSY p.val = 1 ∧ u.pst p.val = s.pst p.val ∧ others u ∧ ParAnswered p.val seq.toNat x 1 u) ∧
      (s.pst p.val ≠ stAdmitted → Completes (.run r p seq) s (told 4)) ∧
      (s.pst p.val ≠ stRunning → Completes (.suspend r p seq) s (told 4)) ∧
      (s.pst p.val ≠ stSuspended → Completes (.resume r p seq) s (told 4)) ∧
      (s.pst p.val < stAdmitted → Completes (.stop r p seq) s (told 4)) ∧
      (s.pst p.val = stOff → Completes (.restart r p seq keep) s (told 4))) ∧
    (s.hostOn r p.val = some (x, pf) → s.isSteward p.val x = false → ∀ c, c = .run r p seq ∨ c = .suspend r p seq ∨ c = .resume r p seq ∨
      c = .stop r p seq ∨ c = .restart r p seq keep → Completes c s (told 3)) ∧
    (s.hostOn r p.val = some (x, pf) → s.isSteward p.val x = true → s.dupSeq (parSrc p.val) seq.toNat = true →
      s.rd PAR_CMD_STAT.SEQ p.val ≠ seq.toNat → ∀ c, c = .run r p seq ∨ c = .suspend r p seq ∨ c = .resume r p seq ∨
      c = .stop r p seq ∨ c = .restart r p seq keep → Completes c s (told 2))

/-- R75, R77, R78, R479, R80: the steps of a save, a restore and an abort. At the drain, or at SUSP_WAIT, every stream halts and every thread is held; once
all has landed the partition is SUSPENDED; a restore enters RUNNING; a save or restore that cannot complete stops the partition; a halt that
takes too long goes on to its abort; an abort that has decided for a RESTART enters LOADING with every thread of the partition IDLE. -/
def Obligations.SaveRestoreAndAbortProgress : Prop :=
  ∀ (s : State) (p : Part),
    let saving : State → Prop := fun u => (u.part p.val).save = 2 ∧ (u.part p.val).frozen = true ∧
      (∀ k, s.owns p.val (k / 32 / 152) = true → (u.thread k).st ≠ .ready ∧ (u.thread k).st ≠ .parked) ∧
      (∀ k ∈ s.enginesOf p.val, (s.engine k).work ≠ [] → (u.engine k).halt.isSome = true)
    (s.pst p.val = stRunning → (s.part p.val).save = 1 →
      (s.drained p.val = true → Completes (.suspendDrained p) s fun u => saving u ∧ SameBut [.threads, .engines, .parts] s u) ∧
      Completes (.suspWaitTimeout p) s fun u => saving u ∧
        u.now = s.after ((s.part p.val).began + s.rd PAR_TMO.SUSP_WAIT p.val * 1000000) ∧
        SameBut [.now, .threads, .engines, .parts, .regs, .guard, .dbg, .out, .side] s u) ∧
    (s.pst p.val = stRunning → (s.part p.val).save = 2 → s.landed p.val = true → Completes (.contextSaveDone p true) s fun u =>
      u.pst p.val = stSuspended ∧ u.rd PAR_STATE.BUSY p.val = 0 ∧ (u.part p.val).save = 0 ∧ (u.part p.val).began = s.now ∧
      ((s.part p.val).cmd ≠ 0 → u.rd PAR_CMD_STAT.RESULT p.val = 0) ∧ SameBut [.engines, .regs, .parts, .hosts, .out] s u) ∧
    (s.pst p.val = stRunning → (s.part p.val).save = 2 → Completes (.contextSaveDone p false) s fun u =>
      u.pst p.val = stStopped ∧ u.rd PAR_STATE.CAUSE p.val = 9) ∧
    (s.pst p.val = stSuspended → (s.part p.val).save = 3 → s.calm → Completes (.contextRestoreDone p true) s fun u =>
      u.pst p.val = stRunning ∧ u.rd PAR_STATE.BUSY p.val = 0 ∧ (u.part p.val).save = 0 ∧ (u.part p.val).frozen = false ∧
      ((s.part p.val).cmd ≠ 0 → u.rd PAR_CMD_STAT.RESULT p.val = 0)) ∧
    (s.pst p.val = stSuspended → (s.part p.val).save = 3 → Completes (.contextRestoreDone p false) s fun u =>
      u.pst p.val = stStopped ∧ u.rd PAR_STATE.CAUSE p.val = 0x0A) ∧
    ((s.part p.val).halting = true → Completes (.haltTimeout p) s fun u =>
      (u.part p.val).next = 1 ∧ (u.part p.val).halting = false ∧ (u.part p.val).frozen = true ∧
      u.now = s.after ((s.part p.val).began + s.rd PAR_RECOV_CTL.HALT_MS p.val * 1000000)) ∧
    ((s.part p.val).next = 2 → (s.part p.val).keep = false → Completes (.abortComplete p) s fun u =>
      u.pst p.val = stLoading ∧ u.rd PAR_STATE.BUSY p.val = 1 ∧ (u.part p.val).next = 0 ∧
      (u.part p.val).epoch = ((s.part p.val).epoch + 1) % 256 ∧ ∀ k, s.owns p.val (k / 32 / 152) = true → u.thread k = thread0)

/-- R66, R69, R71: admission grants what the plan reserves and enters ADMITTED, or stops the partition with ADM_LAYOUT where its columns are not the
layout's; a section that sets registers of its own is left to the register statements. Pages that have run out for PAR_TMO.T2_WAIT stop a running
partition with T2_EXHAUSTED or T1_EXHAUSTED. -/
def Obligations.AdmissionAndExhaustion : Prop :=
  ∀ (s : State) (p : Part) (f : FieldId) (c : Section) (i plan : Nat) (pl : Plan) (inj : Option (Fin 11)) (h : Halt) (l : List Halt),
    (s.sect p.val = some c → s.pst p.val = stLoading → (s.part p.val).loaded = true → s.turn p.val = true →
      (∀ d ∈ s.flashDies p.val, Store.get false s.boot.flash d = true) → (s.part p.val).recovering = false →
      (c.columns = s.columnsOf p.val → s.edgesOk p.val = true → c.mode ≠ 2 → c.regset = [] → c.auto = false → (s.part p.val).after = 0 →
        s.pick p.val c = .inl (i, plan, pl) → Completes (.admitPart p inj) s fun u =>
          u.pst p.val = stAdmitted ∧ u.rd PAR_STATE.BUSY p.val = 0 ∧ u.rd PAR_STATE.VARIANT p.val = i % 2 ^ PAR_STATE.VARIANT.width ∧
          u.rd PAR_STATE.PLAN p.val = plan % 4 ∧ u.rd PAR_RES.T3 p.val = pl.t3 % 2 ^ 32 ∧ u.rd PAR_RES.SYNC p.val = pl.syncBlocks % 2 ^ 32) ∧
      (c.columns ≠ s.columnsOf p.val → Completes (.admitPart p inj) s fun u =>
        u.pst p.val = stStopped ∧ u.rd PAR_STATE.CAUSE p.val = 2 ∧ u.rd PAR_EVT.ADM_REFUSED p.val = 1)) ∧
    (s.pst p.val = stRunning → s.shortEngines p.val f.val 0x20 = h :: l → Completes (.t2Exhausted p f) s fun u =>
      u.pst p.val = stStopped ∧ u.rd PAR_STATE.CAUSE p.val = 8 ∧ u.rd PAR_EVT.T2_EXHAUSTED p.val = 1) ∧
    (s.pst p.val = stRunning → s.shortEngines p.val f.val 0x23 = h :: l → Completes (.t1Exhausted p f) s fun u =>
      u.pst p.val = stStopped ∧ u.rd PAR_STATE.CAUSE p.val = 0x0D ∧ u.rd PAR_EVT.T1_EXHAUSTED p.val = 1)

/-- R154, R585: ST.HDR writes its header slot as the device lays a header out, from the register's TAG, TILE, ROWS, COLS, LAYOUT and DTYPE; THR.START
starts an IDLE or DONE thread that the program declares at its entry point, with status OK; THR.EXIT leaves its thread DONE. No memory word changes. -/
def Obligations.HeadersAndThreadStart : Prop :=
  ∀ (s : State) (t : Thr) (vb : VReg) (slot : Fin 32) (j : ThreadId) (g : Program) (d : ThreadDecl), Issuable s t →
    (let h := (s.vreg (thrOf t) vb.val).toNat
     Completes (.stHdr t vb slot) s fun u => IssuedTo (thrOf t) ((s.thread (thrOf t)).pc + 1) [.hdrs] s u ∧
      u.hdr (localTile t.f.val t.m.val slot.val) = hdrWord
        ⟨hTag h, 0, 0, 0, 0, 0, (s.partOf t.f.val).getD 0, t.m.val, t.f.val, 0xFFFF, 0, hTile h, 0, hCols h, hRows h, hLayout h, hDtype h⟩ 0 % 2 ^ 512 ∧
      ∀ k, k ≠ localTile t.f.val t.m.val slot.val → u.hdr k = s.hdr k) ∧
    (s.partRun (thrOf t) = none → s.program t.f.val t.m.val = some g → g.threads.find? (·.t = j.val) = some d → g.spans.contains j.val = false →
      (s.thread (thrKey t.f.val t.m.val j.val)).st = .idle ∨ (s.thread (thrKey t.f.val t.m.val j.val)).st = .done →
      Completes (.thrStart t j) s fun u =>
        (u.thread (thrKey t.f.val t.m.val j.val)).st = .ready ∧ (u.thread (thrKey t.f.val t.m.val j.val)).pc = d.entry % 8192 ∧
        (u.thread (thrOf t)).pc = (s.thread (thrOf t)).pc + 1 ∧ u.sreg (thrOf t) 0 = 0 ∧ SregsBut (thrOf t) 0 s u ∧
        (∀ q, q ≠ thrOf t → q ≠ thrKey t.f.val t.m.val j.val → u.thread q = s.thread q) ∧ SameBut [.threads, .dbg, .sregs] s u) ∧
    Completes (.thrExit t) s (fun u => (u.thread (thrOf t)).st = .done ∧ (u.thread (thrOf t)).pc = (s.thread (thrOf t)).pc ∧
      (∀ q, q ≠ thrOf t → u.thread q = s.thread q) ∧ SameBut [.threads, .dbg] s u)

/-- R194, R195, R196, R203: the F/E instructions on a word that nothing is poisoned in and no other poll waits on. LD.FE of a full word takes its data and,
in consume mode, empties it; of an empty one it parks. ST.FE writes the word and sets it full; a consumer that waits takes it at once and the word is
empty again. LD.PEEK and FE.CLR leave the word's data as it is. -/
def Obligations.FullEmptyInstructions : Prop :=
  ∀ (s : State) (t : Thr) (i : SyncIns) (a j tag since sd : Nat), Issuable s t → i.rsv = 0 → (s.sreg (thrOf t) i.sa.val).toNat = a * 8 → a < 0x10000 →
    s.scrOk (thrOf t) (a * 8) 8 = true → (s.lword t a).poison = false →
    let w := localWord t.f.val t.m.val a
    let next := (s.thread (thrOf t)).pc + 1
    ((∀ pk ∈ s.sync.parks, pk.tgt ≠ .word w) →
      ((s.lword t a).full = true → Completes (.ldFe t i) s fun u => IssuedTo (thrOf t) next [.sregs, .words] s u ∧
        u.sreg (thrOf t) i.sd.val = (s.lword t a).data ∧ SregsBut (thrOf t) i.sd.val s u ∧
        u.lword t a = ⟨(s.lword t a).data, !i.f, false⟩ ∧ WordsBut t.f.val t.m.val a 1 s u) ∧
      ((s.lword t a).full = false → Completes (.ldFe t i) s fun u => (u.thread (thrOf t)).st = .parked ∧
        (u.thread (thrOf t)).pc = (s.thread (thrOf t)).pc ∧
        u.sync.parks = s.sync.parks ++ [⟨.thread (thrOf t), .word w, i.f, 0, i.tag.val, s.now, i.sd.val⟩] ∧ SameBut [.threads, .dbg, .sync] s u) ∧
      ((s.lword t a).full = false ∨ i.f = true → Completes (.stFe t i) s fun u => IssuedTo (thrOf t) next [.words] s u ∧
        u.lword t a = ⟨s.sreg (thrOf t) i.sb.val, true, false⟩ ∧ WordsBut t.f.val t.m.val a 1 s u)) ∧
    (s.sync.parks = [⟨.thread j, .word w, true, 0, tag, since, sd⟩] → (s.thread j).st = .parked → j ≠ thrOf t → sd < 32 → (s.lword t a).full = false →
      Completes (.stFe t i) s fun u => u.lword t a = ⟨s.sreg (thrOf t) i.sb.val, false, false⟩ ∧ u.sync.parks = [] ∧
        (u.thread j).st = .ready ∧ (u.thread j).pc = (s.thread j).pc + 1 ∧ u.sreg j sd = s.sreg (thrOf t) i.sb.val ∧
        (u.thread (thrOf t)).pc = next ∧ WordsBut t.f.val t.m.val a 1 s u ∧ SameBut [.threads, .dbg, .sregs, .words, .sync] s u) ∧
    (i.f = false → Completes (.ldPeek t i) s fun u => IssuedTo (thrOf t) next [.sregs] s u ∧
      u.sreg (thrOf t) 0 = (if (s.lword t a).full then 0 else 8) ∧ (i.sd ≠ 0 → u.sreg (thrOf t) i.sd.val = (s.lword t a).data) ∧
      ∀ k q, q < 32 → (k ≠ thrOf t ∨ (q ≠ 0 ∧ q ≠ i.sd.val)) → u.sreg k q = s.sreg k q) ∧
    (i.f = false → Completes (.feClr t i) s fun u => IssuedTo (thrOf t) next [.words] s u ∧
      u.lword t a = ⟨(s.lword t a).data, false, false⟩ ∧ WordsBut t.f.val t.m.val a 1 s u)

/-- R161, R147, R150: a write of local memory through the windows of a core by a requester that may: the selected word takes the data, its F/E bit
kept and its poison cleared; or its F/E bit alone, which wakes nobody where it is set empty or nobody waits. Each is logged. -/
def Obligations.CoreMemoryWindowWrites : Prop :=
  ∀ (s : State) (r : Req) (f : FieldId) (m : CoreId) (data : BitVec 64) (fe : BitVec 32), s.memWrites r (coreKey f.val m.val) = true →
    let k := s.memSel r (coreKey f.val m.val)
    Completes (.coreMemDataWrite r f m data) s (fun u => u.word k = ⟨data, (s.word k).full, false⟩ ∧ (∀ j, j ≠ k → u.word j = s.word j) ∧
      (∃ e, u.logs.dev.head? = some e ∧ e.block = 0x10) ∧ SameBut [.words, .logs, .out, .hosts, .side] s u) ∧
    (fe.getLsbD 0 = false ∨ (∀ pk ∈ s.sync.parks, pk.tgt ≠ .word k) → Completes (.coreMemFeWrite r f m fe) s fun u =>
      u.word k = { s.word k with full := fe.getLsbD 0 } ∧ (∀ j, j ≠ k → u.word j = s.word j) ∧ SameBut [.words, .logs, .out, .hosts, .side] s u)

/-! ### Streams (07_streams_fences.md) -/

/-- R163, R164, R174, R185: the stream instructions of a core's engine. SQ.PUSH refuses a fifth batch as FULL, and puts the descriptors of a batch that passes
every check at the end of the engine's list; SQ.KICK raises the kick count, to 255 at most; SQ.STAT reads the status word; SQ.RESUME on an engine
that is not halted changes nothing, else it ends the halt, and with mode 1 the rest of the halted stream leaves the engine. -/
def Obligations.StreamInstructions : Prop :=
  ∀ (s : State) (t : Thr) (e : Fin 4) (a : BitVec 64) (sd : SReg) (sl : Nat), Issuable s t → s.sync.parks = [] →
    let k := thrOf t
    let q := ownEng k e.val
    let next := (s.thread k).pc + 1
    let told : Nat → State → Prop := fun v u => IssuedTo k next [.sregs] s u ∧ u.sreg k 0 = BitVec.ofNat 64 v ∧ SregsBut k 0 s u
    let acted : State → Prop := fun u => IssuedTo k next [.sregs, .engines] s u ∧ u.sreg k 0 = 0 ∧ SregsBut k 0 s u ∧
      ∀ j, j ≠ q → u.engine j = s.engine j
    let l := (s.batch t a.toNat).zipIdx.filter fun x => decide (bits x.1 3 0 ≠ 0)
    (a.toNat % 256 = 0 → a.toNat + 256 ≤ 524288 →
      (freeBatch (s.engine q) = none → Completes (.sqPush t e a) s (told 0x12)) ∧
      (freeBatch (s.engine q) = some sl → (∀ i, i < 32 → (s.lword t (a.toNat / 8 + i)).poison = false) → s.partRun k = none →
        (∀ x ∈ l, s.descOk (s.thrSource k).part t.f.val t.m.val x.1 = true) → Completes (.sqPush t e a) s fun u => acted u ∧
          u.engine q = { s.engine q with work := (s.engine q).work ++ l.map fun x => ⟨sl, x.2, descOfBits x.1, 0, 0, false, false, false, 0⟩ })) ∧
    ((s.engine q).kicks < 255 → Completes (.sqKick t e) s fun u => acted u ∧ u.engine q = { s.engine q with kicks := (s.engine q).kicks + 1 }) ∧
    (255 ≤ (s.engine q).kicks → Completes (.sqKick t e) s (told 1)) ∧
    Completes (.sqStat t e sd) s (fun u => IssuedTo k next [.sregs] s u ∧ u.sreg k sd.val = BitVec.ofNat 64 (s.sqStat q) ∧
      (sd ≠ 0 → u.sreg k 0 = 0)) ∧
    ((s.engine q).halt = none → Completes (.sqResumeReissue t e) s (told 0x14) ∧ Completes (.sqResumeAbandon t e) s (told 0x14)) ∧
    ((s.engine q).halt ≠ none →
      Completes (.sqResumeReissue t e) s (fun u => acted u ∧ u.engine q = { s.engine q with halt := none, wait := .none }) ∧
      Completes (.sqResumeAbandon t e) s (fun u =>
        let skip := (s.engine q).work.takeWhile fun w => decide (w.retired = w.d.tiles)
        (u.engine q).halt = none ∧ (u.engine q).work = skip ++ (toEnd ((s.engine q).work.drop skip.length)).2 ∧
        u.sreg k 0 = (if (s.engine q).work.all fun w => decide (w.retired = w.d.tiles) then 8 else 0) ∧
        (u.thread k).pc = next ∧ (∀ j, j ≠ q → u.engine j = s.engine j) ∧ SameBut [.threads, .dbg, .sregs, .engines, .pages, .sync] s u))

/-- R170, R171, R177: a tile of a core engine's descriptor without takes or signals, between two places of its own local memory. Issue puts it in flight; read-out takes
the payload and the header that R585 gives it; landing writes every word of the destination full and retires the tile, and after its last tile the
descriptor leaves the engine. A tile read from a page is counted among the page's reads from its issue. -/
def Obligations.TilesMoveThroughAnEngine : Prop :=
  ∀ (s : State) (f : FieldId) (m : CoreId) (e : Fin 4) (w : Work) (x : Flight) (l t c : Nat), s.sync.parks = [] →
    let k := engOf (.core f m e)
    let q := s.engine k
    let p := (s.partOf f.val).getD 0
    w.d.takeSrc = 0 → w.d.takeDst = 0 → w.d.sigSrc = 0 → w.d.sigDst = 0 → w.d.gate = false → aSpace w.d.dst = 0 →
    (s.engReady k = true → inFlight q < 4 → (∀ y ∈ q.flight, y.st ≠ .failed) → nextWork q = some w →
      let issued : Option Nat → Engine := fun r => { q with
        work := q.work.map fun v => if v.slot = w.slot ∧ v.idx = w.idx then
          { v with issued := v.issued + 1, gotSrc := false, gotDst := false, first := if v.issued = 0 then s.now else v.first } else v
        flight := q.flight ++ [⟨w.slot, w.idx, w.issued, .issued, false, r, none, s.now, 0, []⟩]
        wait := .none }
      (aSpace w.d.src = 0 → Completes (.tileIssue (.core f m e)) s fun u => u.engine k = issued none ∧
        (∀ j, j ≠ k → u.engine j = s.engine j) ∧ SameBut [.engines] s u) ∧
      (srcPlace k w.d w.issued = .page l t → s.readLog p k l = .page c → s.groupOf p l = none → Completes (.tileIssue (.core f m e)) s fun u =>
        u.engine k = issued (some c) ∧ (u.page c).readers = (s.page c).readers + 1 ∧ (∀ j, j ≠ c → u.page j = s.page j) ∧
        SameBut [.engines, .pages, .dir, .replay] s u)) ∧
    (aSpace w.d.src = 0 → s.heldCore (coreKey f.val m.val) = false → q.work = [w] → q.flight = [x] → x.slot = w.slot → x.idx = w.idx →
      let src := localTile f.val m.val (aByte w.d.src / 16384 + x.tile % (w.d.sbufs + 1))
      let dst := localTile f.val m.val (aByte w.d.dst / 16384 + x.tile % (w.d.dbufs + 1))
      (x.st = .issued → s.readCheck src false = 0 → Completes (.tileReadOut (.core f m e) 0) s fun u =>
        u.engine k = { q with flight := [{ x with st := .out, sig := true, hdr := s.localHdr k src x.tile, data := s.payload src }] } ∧
        (∀ j, j ≠ k → u.engine j = s.engine j) ∧ SameBut [.engines] s u) ∧
      (x.st = .out → x.sig = true → x.rpage = none → x.wpage = none → w.d.seals = false → w.d.fin = false → Completes (.tileLanding (.core f m e) 0) s fun u =>
        u.engine k = { q with flight := [], work := if w.retired + 1 = w.d.tiles then [] else [{ w with retired := w.retired + 1 }] } ∧
        (∀ i, i < 2048 → u.word (tileWord dst i) = ⟨Store.get 0 x.data i, true, false⟩) ∧ u.hdr dst = x.hdr % 2 ^ 512 ∧
        (∀ j, j / 2048 ≠ dst → u.word j = s.word j) ∧ SameBut [.engines, .words, .hdrs, .dbg, .guard] s u))

/-- R176-R178: a thread that takes part in a fence group arrives at FENCE and parks; once every thread of its lane has arrived or is DONE and the lane's
descriptors are finished, the fence completes: the lane's count rises by one, its arrivals clear, and the thread goes on with status OK. -/
def Obligations.FencesParkAndComplete : Prop :=
  ∀ (s : State) (t : Thr) (p : Part) (g : Fin 16) (l : Fin 4) (r : Group) (rest : List (Nat × Nat)) (k since tag sd : Nat),
    (Issuable s t → s.partRun (thrOf t) = none → s.partOf t.f.val = some p.val → s.lanesOf (thrOf t) = (g.val, l.val) :: rest →
      Completes (.fence t) s fun u => (u.thread (thrOf t)).st = .parked ∧ (u.thread (thrOf t)).pc = (s.thread (thrOf t)).pc ∧
        (u.lane p.val g.val l.val).arrived = (s.lane p.val g.val l.val).arrived ++ [thrOf t] ∧
        u.sync.parks = s.sync.parks ++ [⟨.thread (thrOf t), .fence p.val g.val l.val, false, 0, 0, s.now, 0⟩] ∧
        SameBut [.threads, .dbg, .sync] s u) ∧
    (s.group p.val g.val = some r → s.running p.val = true → (s.part p.val).frozen = false → l.val < r.lanes →
      s.rd TJL_PSTAT.HALT p.val = 0 → (s.part p.val).stopped.contains g.val = false → s.fenceDone p.val r l.val = true → r.g = g.val →
      (s.part p.val).halting = false → s.suspending p.val = false → s.ledger.entries = [] → s.ledger.moves = [] → s.ledger.invoc = [] →
      s.replay.queue = [] → s.sync.parks = [⟨.thread k, .fence p.val g.val l.val, false, 0, tag, since, sd⟩] → (s.thread k).st = .parked →
      s.owed k = [] → Completes (.fenceComplete p g l) s fun u =>
        u.rd STR_FG_LANE.FENCE (laneKey p.val g.val l.val) = (s.rd STR_FG_LANE.FENCE (laneKey p.val g.val l.val) + 1) % 65536 ∧
        (u.lane p.val g.val l.val).arrived = [] ∧ u.sync.parks = [] ∧ (u.thread k).st = .ready ∧
        (u.thread k).pc = (s.thread k).pc + 1 ∧ u.sreg k 0 = 0)

/-! ### Pages (04_memory_tiers.md) -/

/-- R93, R95, R97, R584, R583: SEAL of an OPEN page that the core writes asks for the seal and owes its status; FREE of a page that is not OPEN puts it in FREEING and
drops its mirror (for a flip group the pending page is freed and the mirror of the current one stays), of an OPEN one answers BUSY; FLIP of a group whose pending pages are sealed waits for its commit and owes its status. -/
def Obligations.PageInstructions : Prop :=
  ∀ (s : State) (t : Thr) (lp : BitVec 40) (g : BitVec 16) (r : Range) (f c : Nat), Issuable s t →
    let k := thrOf t
    let p := (s.partOf t.f.val).getD 0
    let next := (s.thread k).pc + 1
    (s.lpage p lp.toNat = .range r f → r.tier = 1 ∨ r.tier = 2 → s.target p lp.toNat = some c →
      ((s.page c).st = .opened → pageTier c ≠ 1 → ownEngine (s.page c) k = true → Completes (.sealPage t lp) s fun u =>
        IssuedTo k next [.pages, .owed] s u ∧ u.page c = { s.page c with sealReq := true, sealer := k + 1 } ∧
        (∀ j, j ≠ c → u.page j = s.page j) ∧ u.owed k = [none]) ∧
      (s.partRun k = none → (s.page c).st = .sealed ∨ (s.page c).st = .invalid → Completes (.freePage t lp) s fun u =>
        (u.page c).st = .freeing ∧ (r.group = none → (u.dir p lp.toNat).mirror = none ∧ (u.dir p lp.toNat).copy = none) ∧
        (r.group ≠ none → u.dir p lp.toNat = s.dir p lp.toNat) ∧ u.sreg k 0 = 0 ∧
        (u.thread k).pc = next ∧ SameBut [.threads, .dbg, .sregs, .pages, .dir] s u) ∧
      (s.partRun k = none → (s.page c).st = .opened → Completes (.freePage t lp) s fun u =>
        IssuedTo k next [.sregs] s u ∧ u.sreg k 0 = 0x11 ∧ SregsBut k 0 s u)) ∧
    (s.partRun k = none → s.flipRefusal p g.toNat = 0 → Completes (.flip t g) s fun u => IssuedTo k next [.flips, .owed] s u ∧
      u.mem.flips = s.mem.flips ++ [⟨p, g.toNat, k⟩] ∧ u.owed k = [none]) ∧
    (s.partRun k = none → s.flipRefusal p g.toNat ≠ 0 → s.flipRefusal p g.toNat ≠ 0x25 → Completes (.flip t g) s fun u =>
      IssuedTo k next [.sregs] s u ∧ u.sreg k 0 = BitVec.ofNat 64 (s.flipRefusal p g.toNat) ∧ SregsBut k 0 s u)

/-- R92, R93, R95, R97: the commits. A page whose seal is asked for and to which no write is in flight is SEALED, each tile that was written keeps its payload and has a
header with its check values, and the thread that asked has its status. A FREEING page that nothing reads is FREE, and its logical page has no page. A flip makes every
pending page current. -/
def Obligations.PageCommits : Prop :=
  ∀ (s : State) (p : Part) (lp idx : BitVec 40) (tier : Fin 4) (f : FieldId) (g : BitVec 16) (r : FlipReq) (c k : Nat),
    (s.target p.val lp.toNat = some c → (s.page c).st = .opened → (s.page c).sealReq = true →
      (∀ e ∈ s.cores.engines, ∀ x ∈ e.2.flight, x.wpage = some c → x.st = .landed) → (s.page c).sealer = k + 1 → s.owed k = [none] →
      (∀ e, (s.page c).writer = .engine e → (s.engine e).work = []) → Completes (.pageSealCommit p lp) s fun u =>
        u.page c = { s.page c with st := .sealed, sealReq := false, sealer := 0 } ∧ (∀ j, j ≠ c → u.page j = s.page j) ∧
        u.sreg k 0 = 0 ∧ u.owed k = [] ∧
        (∀ t, t < 4 → bit (s.page c).written t = true →
          u.hdr (tileKey c t) = hdrWord { hdrOf (s.hdr (tileKey c t)) with flags := 1 + 2 * (hFlags (s.hdr (tileKey c t)) / 2) }
            (crc32c (payloadBytes (s.payload (tileKey c t)))) % 2 ^ 512 ∧
          ∀ i, i < 2048 → u.word (tileWord (tileKey c t) i) = s.word (tileWord (tileKey c t) i)) ∧
        SameBut [.pages, .hdrs, .words, .sregs, .owed] s u) ∧
    (let x := pageKey tier.val (if tier.val = 3 then p.val else f.val) idx.toNat
     (s.page x).st = .freeing → (s.page x).readers = 0 → (s.page x).part = p.val → Completes (.pageFreeComplete p tier f idx) s fun u =>
      u.page x = page0 ∧ ((s.dir p.val (s.page x).lpage).cur = some x → (u.dir p.val (s.page x).lpage).cur = none) ∧
      (∀ j, j ≠ x → u.page j = s.page j) ∧ SameBut [.pages, .dir, .engines, .parts, .regs, .out, .hosts, .side] s u) ∧
    ((s.mem.flips.find? fun q => decide (q.part = p.val) && decide (q.group = g.toNat)) = some r → s.flipRefusal p.val g.toNat = 0 →
      s.groupHeld p.val g.toNat = false → (s.groupPages p.val g.toNat).Nodup → s.replay.slots = [] → s.owed r.thr = [none] →
      Completes (.flipCommit p g) s fun u =>
        (∀ l ∈ s.groupPages p.val g.toNat, (u.dir p.val l).cur = (s.dir p.val l).pend ∧ (u.dir p.val l).pend = none) ∧
        r ∉ u.mem.flips ∧ u.sreg r.thr 0 = 0 ∧ u.owed r.thr = [])

/-- R85, R101, R104, R109: what the tiers do by themselves. A scrub pass without an uncorrectable error changes nothing; with one in a tile, the tile is poisoned with its
data kept, and a tier fault ECC_UE is recorded. At an aging boundary every heat counter of the partition is halved. A mirror copy that passes its checks becomes
the page's mirror with the source's payload. -/
def Obligations.ScrubAgingAndMirrors : Prop :=
  ∀ (s : State) (p : Part) (f : FieldId) (idx lp : BitVec 40) (ue : Fin 16) (k src : Nat), Memory.wf s.mem = true →
    (Completes (.scrubPass f idx 0) s (SameBut [] s)) ∧
    (s.rd TIER_CTL.SCRUB_EN 0 = 1 → (s.page (pageKey 2 f.val idx.toNat)).st ≠ .free → ue ≠ 0 → Completes (.scrubPass f idx ue) s fun u =>
      (∀ t, t < 4 → (u.word (tileWord (tileKey (pageKey 2 f.val idx.toNat) t) 0)).poison =
        (bit ue.val t || (s.word (tileWord (tileKey (pageKey 2 f.val idx.toNat) t) 0)).poison)) ∧
      (∀ w, (u.word w).data = (s.word w).data ∧ (u.word w).full = (s.word w).full) ∧
      u.rd TIER_FLT.VALID 0 = 1 ∧ u.rd TIER_FLT.CODE 0 = 8 ∧ SameBut [.words, .regs, .logs, .dbg, .out, .hosts, .side] s u) ∧
    (s.running p.val = true → s.rd TIER_CTL.HEAT_EN 0 = 1 → Completes (.agingBoundary p) s fun u =>
      (∀ l, l < 2 ^ 40 → (u.dir p.val l).heat = (s.dir p.val l).heat / 2) ∧
      (∀ q l, q < 4 → q ≠ p.val → l < 2 ^ 40 → (u.dir q l).heat = (s.dir q l).heat) ∧
      u.now = s.after (Store.get 0 s.mem.ages p.val)) ∧
    ((s.dir p.val lp.toNat).copy = some (k, src) → (s.dir p.val lp.toNat).mirror = none → s.pageCheck src = 0 → k ≠ src →
      Completes (.mirrorCommit p lp) s fun u =>
        (u.dir p.val lp.toNat).mirror = some k ∧ (u.dir p.val lp.toNat).copy = none ∧ (u.page k).st = .sealed ∧
        (∀ t i, t < 4 → i < 2048 → (u.word (tileWord (tileKey k t) i)).data = (s.word (tileWord (tileKey src t) i)).data ∧
          (u.word (tileWord (tileKey k t) i)).poison = false) ∧ SameBut [.words, .hdrs, .pages, .dir, .dbg] s u)

/-! ### Synchronisation (08_synchronisation.md, 14_host_ports.md) -/

/-- R198-R200: SIG, SEM.ADD and WAIT on a live object that no other poll waits on. A signal raises COUNT, to 0xFFFF_FFFF at most, where it sets SAT and answers 1; a negative
delta lowers it, or answers 2 and leaves it where it is too low; WAIT goes on where COUNT is large enough, subtracting with take, and else parks. -/
def Obligations.SignalsAndWaits : Prop :=
  ∀ (s : State) (t : Thr) (i : SyncIns) (o : Nat), Issuable s t → i.rsv = 0 → s.partRun (thrOf t) = none →
    s.resolve (s.thrSource (thrOf t)) ((s.sreg (thrOf t) i.sa.val).toNat % 2 ^ 24) false = .obj o → (s.obj o).live = true → (s.obj o).broken = false →
    s.exportOf o = none → s.objHeld o = false → s.urgentBusy t.f.val t.m.val = false → (∀ pk ∈ s.sync.parks, pk.tgt ≠ .obj o) →
    let k := thrOf t
    let d := (BitVec.ofNat 32 (s.sreg k i.sb.val).toNat).toInt
    let n := (s.obj o).count
    let told : Nat → Nat → State → Prop := fun v c u => u.sreg k 0 = BitVec.ofNat 64 v ∧ SregsBut k 0 s u ∧ (u.obj o).count = c ∧
      (∀ j, j ≠ o → u.obj j = s.obj j) ∧ u.sync.parks = s.sync.parks ∧ (u.thread k).st = .ready ∧ (u.thread k).pc = (s.thread k).pc + 1 ∧
      SameBut [.threads, .dbg, .sregs, .sync, .guard, .regs, .logs, .hosts, .out, .side] s u
    (i.imm ≠ 0 → n + i.imm.toNat ≤ countMax → Completes (.sig t i) s (told 0 (n + i.imm.toNat))) ∧
    (i.imm ≠ 0 → n ≤ countMax → countMax < n + i.imm.toNat → Completes (.sig t i) s fun u => told 1 countMax u ∧ (u.obj o).sat = true) ∧
    (i.f = false → 0 ≤ d → n + d.toNat ≤ countMax → Completes (.semAdd t i) s (told 0 (n + d.toNat))) ∧
    (i.f = false → d < 0 → d.natAbs ≤ n → Completes (.semAdd t i) s (told 0 (n - d.natAbs))) ∧
    (i.f = false → d < 0 → n < d.natAbs → Completes (.semAdd t i) s (told 2 n)) ∧
    (bits (s.sreg k i.sa.val).toNat 23 22 ≠ 2 → i.imm ≠ 0 → i.imm.toNat ≤ n → Completes (.wait t i) s (told 0 (if i.f then n - i.imm.toNat else n))) ∧
    (bits (s.sreg k i.sa.val).toNat 23 22 ≠ 2 → n < i.imm.toNat → Completes (.wait t i) s fun u => (u.thread k).st = .parked ∧
      (u.thread k).pc = (s.thread k).pc ∧ u.obj o = s.obj o ∧
      u.sync.parks = s.sync.parks ++ [⟨.thread k, .obj o, i.f, i.imm.toNat, i.tag.val, s.now, 0⟩] ∧ SameBut [.threads, .dbg, .sync, .dir] s u)

/-- R213-R215: barriers. BAR.ARRIVE by a participant counts one arrival of its core toward GEN + 1, or GEN + 2 where those are complete, and leaves that generation in its
register; BAR.WAIT goes on where its generation has been reached and else parks; once every arrival is in, the episode completes and a waiter goes on. -/
def Obligations.BarrierEpisodes : Prop :=
  ∀ (s : State) (t : Thr) (p : Part) (b : Fin 64) (i : SyncIns) (d : BarDef) (j tag since sd : Nat), s.barDef p.val b.val = some d → d.num = b.val →
    let k := thrOf t
    let v := s.bar p.val b.val
    let next := (s.thread k).pc + 1
    (Issuable s t → i.rsv = 0 → i.f = false → i.imm.toNat = b.val → s.partRun k = none → s.partOf t.f.val = some p.val →
      (participates d t.f.val t.m.val = true → Store.get 0 v.arr (k / 32) < 2 * d.percore → Completes (.barArrive t i) s fun u =>
        IssuedTo k next [.sregs, .sync] s u ∧ u.sreg k 0 = 0 ∧
        u.bar p.val b.val = { v with arr := Store.set 0 v.arr (k / 32) (Store.get 0 v.arr (k / 32) + 1) } ∧ u.sync.parks = s.sync.parks ∧
        (i.sd ≠ 0 → u.sreg k i.sd.val = BitVec.ofNat 64 ((v.gen + (if Store.get 0 v.arr (k / 32) < d.percore then 1 else 2)) % 65536))) ∧
      (genReached v.gen ((s.sreg k i.sa.val).toNat % 65536) = true → Completes (.barWait t i) s fun u =>
        IssuedTo k next [.sregs] s u ∧ u.sreg k 0 = BitVec.ofNat 64 (barStatus v ((s.sreg k i.sa.val).toNat % 65536)) ∧ SregsBut k 0 s u) ∧
      (genReached v.gen ((s.sreg k i.sa.val).toNat % 65536) = false → Completes (.barWait t i) s fun u => (u.thread k).st = .parked ∧
        (u.thread k).pc = (s.thread k).pc ∧
        u.sync.parks = s.sync.parks ++ [⟨.thread k, .barrier p.val b.val ((s.sreg k i.sa.val).toNat % 65536), false, 0, i.tag.val, s.now, 0⟩] ∧
        SameBut [.threads, .dbg, .sync] s u)) ∧
    (s.running p.val = true → s.barLocal p.val d = true → s.tree p.val b.val = none →
      s.sync.parks = [⟨.thread j, .barrier p.val b.val ((v.gen + 1) % 65536), false, 0, tag, since, sd⟩] → (s.thread j).st = .parked → s.owed j = [] →
      Completes (.barrierComplete p b) s fun u => (u.bar p.val b.val).gen = (v.gen + 1) % 65536 ∧ u.sync.parks = [] ∧
        (u.thread j).st = .ready ∧ (u.thread j).pc = (s.thread j).pc + 1 ∧ u.sreg j 0 = 0 ∧ SameBut [.threads, .sregs, .sync] s u)

/-- R359-R361, R211, R213, R500: doorbell requests that a slot takes. A signal or delta changes its object and ends with its status; a wait ends at once where COUNT is
large enough, and else stays PENDING with its poll armed; a cancel ends the slot's PENDING wait CANCELLED and takes its poll away; an arrival counts one host
arrival. -/
def Obligations.DoorbellRequests : Prop :=
  ∀ (s : State) (x : Port) (pf : Fin 5) (slot : Fin 64) (cmd : BitVec 64) (o : Nat) (d : BarDef), s.fnOn x.val pf.val = true →
    s.dupSeq (bellSrc pf.val slot.val) (bits cmd.toNat 63 48) = false →
    let b := s.bell pf.val slot.val
    let p := bellPart pf.val cmd.toNat
    let ended : Nat → State → Prop := fun v u => (u.bell pf.val slot.val).state = 2 ∧ (u.bell pf.val slot.val).status = v ∧
      (u.bell pf.val slot.val).seq = bits cmd.toNat 63 48
    let delta := (BitVec.ofNat 32 b.arg).toInt
    (b.waits = false → (argNotify b.arg = true → 8 ≤ argVec b.arg) → (pf.val = 0 → s.rd SEC_CTL.PF0_DATA 0 = 1) → s.open_ p = true →
      (s.resolve ⟨p, 0, 0, 62 + x.val, false⟩ (cmd.toNat % 2 ^ 24) (decide (pf.val = 0)) = .obj o → s.exportOf o = none → s.objHeld o = false →
        (s.obj o).live = true → (s.obj o).broken = false → (∀ pk ∈ s.sync.parks, pk.tgt ≠ .obj o) →
        (s.isIngress pf.val slot.val p = false → b.arg % 65536 ≠ 0 → (s.obj o).count + b.arg % 65536 ≤ countMax → Completes (.dbSig x pf slot cmd) s fun u =>
          (u.obj o).count = (s.obj o).count + b.arg % 65536 ∧ ended 0 u ∧ SameBut [.sync, .hosts, .guard, .regs, .dbg, .out, .side] s u) ∧
        (0 ≤ delta → (s.obj o).count + delta.toNat ≤ countMax → Completes (.dbSemAdd x pf slot cmd) s fun u =>
          (u.obj o).count = (s.obj o).count + delta.toNat ∧ ended 0 u ∧ SameBut [.sync, .hosts, .guard, .regs, .dbg, .out, .side] s u) ∧
        (delta < 0 → delta.natAbs ≤ (s.obj o).count → Completes (.dbSemAdd x pf slot cmd) s fun u =>
          (u.obj o).count = (s.obj o).count - delta.natAbs ∧ ended 0 u ∧ SameBut [.sync, .hosts, .guard, .regs, .dbg, .out, .side] s u) ∧
        (8 ≤ argVec b.arg → b.arg % 65536 ≠ 0 → b.arg % 65536 ≤ (s.obj o).count → Completes (.dbWait x pf slot cmd) s fun u => ended 0 u ∧
          (u.obj o).count = (s.obj o).count - (if argTake b.arg then b.arg % 65536 else 0) ∧ u.sync.parks = s.sync.parks ∧
          SameBut [.sync, .hosts, .guard, .out] s u) ∧
        (8 ≤ argVec b.arg → (s.obj o).count < b.arg % 65536 → Completes (.dbWait x pf slot cmd) s fun u => (u.bell pf.val slot.val).state = 1 ∧
          u.sync.parks = s.sync.parks ++ [⟨.host pf.val slot.val, .obj o, argTake b.arg, b.arg % 65536, 3, s.now, 0⟩] ∧ SameBut [.sync, .hosts] s u)) ∧
      (s.barDef p (b.arg % 64) = some d → d.host = true → (s.bar p d.num).host < 2 → Completes (.dbArrive x pf slot cmd) s fun u => ended 0 u ∧
        (u.bar p d.num).host = (s.bar p d.num).host + 1 ∧ SameBut [.sync, .hosts, .out] s u)) ∧
    (b.waits = true → Completes (.dbCancel x pf slot cmd) s fun u => ended 0x19 u ∧
      (∀ pk ∈ u.sync.parks, pk.who ≠ .host pf.val slot.val) ∧ SameBut [.sync, .hosts, .out] s u)

/-! ### Failures of units (02_wafer_fields_pace.md, 19_failures.md) -/

/-- R55, R475, R477, R561: a field that is powered down, by THERM_SHUTDOWN 10 ms after it stood at CRIT at its floor or by its regulator, is OFF with
supply 0 and failed; REG_FAULT_N is driven low and the regulator stays latched. A shelf island or Residency Engine that does not answer fails its
field, which keeps its supply. With no partition formed no other unit fails with it. -/
def Obligations.FieldsFailAndPowerDown : Prop :=
  ∀ (s : State) (f : FieldId) (t : Nat), s.unformed → s.fieldFailed f.val = false →
    let failed : State → Prop := fun u => NewestLog 0 0x41 u ∧ ∀ g, g < 64 → u.fieldFailed g = (decide (g = f.val) || s.fieldFailed g)
    let off : State → Prop := fun u => u.rd SYS_FSTAT.OFF f.val = 1 ∧ u.rd SYS_FPACE.MV f.val = 0
    (Store.get 0 s.wafer.crit f.val = t + 1 → Completes (.thermShutdown f) s fun u => failed u ∧ off u ∧ u.now = s.after (t + 10000000) ∧
      SameBut [.now, .regs, .wafer, .guard, .dbg, .logs, .hosts, .out, .side] s u) ∧
    Completes (.regFault f) s (fun u => failed u ∧ off u ∧ Store.get false u.wafer.latched f.val = true ∧ Sent (.pin 18 false) u ∧
      RegsBut [(PAR_FFAIL.FIELDS, 0), (SYS_FSTAT.OFF, f.val), (SYS_FPACE.MV, f.val)] s u ∧
      SameBut [.regs, .wafer, .logs, .hosts, .out, .side] s u) ∧
    Completes (.unitHandshakeTimeout (some f)) s fun u => failed u ∧ RegsBut [(PAR_FFAIL.FIELDS, 0)] s u ∧
      SameBut [.regs, .logs, .hosts, .out, .side] s u

/-- R156, R477, R479, R480: an uncorrectable error in an instruction store makes its core bad and holds its READY and PARKED threads (here of a core of no partition,
without transfers); its mapped number moves to the lowest-numbered spare, and a field without one becomes SHORT and is failed. A tower that does not retrain fails: the tile that each of its field's T2 pages has on it is poisoned with its data
kept, and its running partition, with a fence group that has not stopped, begins a halt. -/
def Obligations.CoresAndTowersFail : Prop :=
  ∀ (s : State) (f : FieldId) (m : CoreId) (w : Fin 4) (p : Part) (y z : Nat) (c : Section) (g : Group),
    let k := coreKey f.val m.val
    (s.partOf f.val = none → s.phys k = some y → Store.get false s.wafer.bad (f.val * 160 + y) = false →
      (∀ e, e < 4 → (s.engine (k * 4 + e)).flight = []) →
      let stopped : State → Prop := fun u => Store.get false u.wafer.bad (f.val * 160 + y) = true ∧
        u.rd SYS_FSTAT.GOOD f.val = (s.rd SYS_FSTAT.GOOD f.val - 1) % 2 ^ SYS_FSTAT.GOOD.width ∧
        (∀ j, j < 32 → u.thread (k * 32 + j) =
          if (s.thread (k * 32 + j)).st = .ready ∨ (s.thread (k * 32 + j)).st = .parked then
            { s.thread (k * 32 + j) with st := .held, prev := (s.thread (k * 32 + j)).st } else s.thread (k * 32 + j)) ∧
        (∀ j, j / 32 ≠ k → u.thread j = s.thread j) ∧ SameBut [.regs, .wafer, .threads, .logs, .hosts, .out, .side] s u
      ((List.range 160).find? (s.isSpare f.val) = some z → Completes (.istoreUe f m) s fun u => stopped u ∧ u.phys k = some z ∧ NewestLog 0 0x45 u ∧
        u.rd SYS_FSTAT.SPARES f.val = (s.rd SYS_FSTAT.SPARES f.val - 1) % 2 ^ SYS_FSTAT.SPARES.width ∧
        RegsBut [(SYS_FSTAT.GOOD, f.val), (SYS_FSTAT.SPARES, f.val)] s u) ∧
      ((List.range 160).find? (s.isSpare f.val) = none → s.fieldFailed f.val = false → Completes (.istoreUe f m) s fun u => stopped u ∧
        u.rd SYS_FSTAT.SHORT f.val = 1 ∧ u.fieldFailed f.val = true ∧ NewestLog 0 0x41 u ∧
        RegsBut [(SYS_FSTAT.GOOD, f.val), (SYS_FSTAT.SHORT, f.val), (PAR_FFAIL.FIELDS, 0)] s u)) ∧
    Completes (.towerChannelRetrain f w true) s (SameBut [] s) ∧
    (s.towerFailed f.val w.val = false → s.partOf f.val = some p.val → s.running p.val = true → s.guarded p.val = false → (s.part p.val).next = 0 →
      (s.part p.val).halting = false → s.sect p.val = some c → g ∈ c.fence → (s.part p.val).stopped.contains g.g = false →
      Completes (.towerChannelRetrain f w false) s fun u => u.towerFailed f.val w.val = true ∧
        (∀ i t, i < 2 ^ 40 → (s.page (pageKey 2 f.val i)).st ≠ .free → t ∈ tileOn (s.towers f.val) i w.val →
          (u.word (tileWord (tileKey (pageKey 2 f.val i) t) 0)).poison = true) ∧
        (∀ j, (u.word j).data = (s.word j).data ∧ (u.word j).full = (s.word j).full) ∧
        u.rd PAR_RECOV_EVT.UNIT_FAIL p.val = 1 ∧ u.rd PAR_RECOV_STAT.LAST p.val = 3 ∧ u.rd PAR_RECOV_STAT.PHASE p.val = 1 ∧
        u.rd PAR_STATE.BUSY p.val = 1 ∧ (u.part p.val).halting = true ∧ (u.part p.val).began = s.now ∧
        SameBut [.words, .regs, .parts, .logs, .hosts, .out, .side] s u)

/-- R56, R439, R440, R477: what makes a guarded partition SAFE here, and what stops every partition. PACE_RANGE 100 µs after the field left its range, with no frame
open: SAFE, cause 5. The failure of the guard die: every pair has FAILED and every running guarded partition is SAFE. The failure of the system die: every partition
that is neither OFF nor STOPPED enters STOPPED with cause UNIT_FAIL. -/
def Obligations.SafetyFailuresStopPartitions : Prop :=
  ∀ (s : State) (p : Part) (f t : Nat),
    (s.guarded p.val = true → s.running p.val = true → s.frames p.val = [] → f < 64 → s.owns p.val f = true → Store.get 0 s.wafer.range f = t + 1 →
      (∀ g, g < 64 → s.owns p.val g = true → Store.get 0 s.wafer.range g = 0 ∨ g = f) → Completes (.paceRange p) s fun u =>
        u.pst p.val = stSafe ∧ bit (u.rd GRD_SAFE.CAUSES p.val) 5 = true ∧ (u.part p.val).frozen = true ∧ u.rd GRD_EVT.SAFE p.val = 1 ∧
        NewestLog 0x0A 0x83 u ∧ u.now = s.after (t + 100000) ∧ ∀ q, q < 4 → q ≠ p.val → u.pst q = s.pst q) ∧
    (s.edgeDead 26 = false → Completes (.unitHandshakeTimeout none) s fun u => u.edgeDead 26 = true ∧
      ∀ q, q < 4 → u.rd (ckField q) 0 = 2 ∧ u.pst q = if s.guarded q = true ∧ s.running q = true then stSafe else s.pst q) ∧
    (s.wafer.down = false → Completes .systemDieFailed s fun u => u.wafer.down = true ∧
      ∀ q, q < 4 → if s.pst q = stOff ∨ s.pst q = stStopped then u.pst q = s.pst q else u.pst q = stStopped ∧ u.rd PAR_STATE.CAUSE q = 0x0C)

/-- R486-R488: a transfer's timeout, for a tile in flight that reads and writes no page and a unit that no timeout has named. The tile ends without an effect, its stream halts
with TIMEOUT, the unit is logged CONTAINED and remembered. At the hard cap, four times the effective timeout after the tile's acceptance, the
level that owns it concludes: a link that retries begins to retrain. -/
def Obligations.TransferTimeouts : Prop :=
  ∀ (s : State) (e : Eng) (n : Fin 4) (y : UnitRef) (paused : BitVec 64) (l : Tjl) (x : Flight) (w : Work) (p : Part),
    let k := engOf e
    s.partOf (engField k) = some p.val → (s.engine k).flight[n.val]? = some x → x.st = .issued ∨ x.st = .out →
      (workOf (s.engine k) x = some w → isShelf k = false → x.rpage = none → x.wpage = none → s.pst p.val ≠ stSuspended →
        s.rd TJL_PSTAT.HALT p.val ≠ 1 → Store.get 0 s.wafer.timeouts (unitKey y).1 = 0 → Completes (.transferTimeout e n y paused) s fun u =>
          u.now = s.after (x.since + min (s.effTmo p.val + paused.toNat) (4 * s.effTmo p.val)) ∧
          (u.engine k).flight = (s.engine k).flight.set n.val { x with st := .failed, rpage := none, data := [] } ∧
          (u.engine k).halt = some ⟨0x22, u.now, (srcPage w.d x.tile).getD 0⟩ ∧ (u.engine k).work = (s.engine k).work ∧
          (∀ j, j ≠ k → u.engine j = s.engine j) ∧ NewestLog 0 0x47 u ∧ Store.get 0 u.wafer.timeouts (unitKey y).1 = u.now + 1 ∧
          SameBut [.now, .regs, .guard, .dbg, .out, .side, .engines, .logs, .hosts, .wafer] s u) ∧
      (s.portSt l.val = 2 → Completes (.timeoutHardCap e n (.retry l)) s fun u => u.portSt l.val = 3 ∧
        u.now = s.after (x.since + 4 * s.effTmo p.val) ∧ u.rd TJL_PORT_EVT.RETRAIN l.val = 1 ∧
        SameBut [.now, .regs, .guard, .dbg, .out, .side, .tjl, .hosts, .logs] s u)

/-! ### The Ledger and its policies (09_ledger.md, 10_policy_fetchback.md, 12_compression.md)

What a change brings for other entries of the partition's Ledgers (parked accessions, slips and replays that wait for pages, emergency spill: R235,
R247, R248) is the shared operation `State.settle`: these statements say in full the state `m` that it is applied to. -/

/-- R233-R235, R244, R246, R268, R269: the LEDGER instructions outside a span. LDG.ACC with valid operands, room and no older accession waiting makes the lowest RETIRED
entry WRITING with a new generation, gives every page of its plain form a Ledger T1 page, and returns the handle; without room it parks; invalid operands
return RANGE. LDG.USE raises USERS, and of a SPILLED entry whose use waits it marks LATE, queues a demand slip and parks; LDG.REL lowers USES
and USERS; more than USES is UNDERFLOW; another generation is OLD_GEN. -/
def Obligations.LedgerInstructions : Prop :=
  ∀ (s : State) (t : Thr) (i : SyncIns) (n : Nat), Issuable s t → i.rsv = 0 → s.partRun (thrOf t) = none →
    let k := thrOf t
    let f := t.f.val
    let p := s.entPart f
    let next := (s.thread k).pc + 1
    let a := s.accOps k i.sa.val i.sb.val i.imm.toNat i.sd.val
    let h := (s.sreg k i.sa.val).toNat % 2 ^ 32
    let g := hndField h
    let x := hndEntry h
    let e := s.entry g x
    let others : Nat → Nat → State → Prop := fun f n m => ∀ j, j ≠ entKey f n → Store.get entry0 m.ledger.entries j = Store.get entry0 s.ledger.entries j
    let parked : Target → Nat → State → Prop := fun tgt sd m => (m.thread k).st = .parked ∧ (m.thread k).pc = (s.thread k).pc ∧
      m.sync.parks = s.sync.parks ++ [⟨.thread k, tgt, false, if sd = 0 then 0 else i.imm.toNat, i.tag.val, s.now, if sd = 0 then 0 else
        i.sd.val + 32 * i.sa.val + 1024 * i.sb.val⟩]
    (i.f = false → bits i.imm.toNat 15 12 = 0 →
      (s.accOk f a = true → (∀ pk ∈ s.sync.parks, pk.tgt ≠ .accession f) →
        (((s.mark k).accTry f (k / 32) a).isSome = true → s.lowEntry f = some n → Completes (.ldgAcc t i) s fun u => ∃ m : State, u = m.settle p ∧
          (let gen := if (s.entry f n).gen = 255 then 1 else (s.entry f n).gen + 1
           m.entry f n = { entry0 with st := 1, gen := gen, cls := a.cls, lane := a.lane, grp := a.grp, uses := a.uses, tiles := a.tiles, span := a.span, lpage := a.lpage, needF := 0xFFFF, step := Store.get 0 s.replay.steps (k / 32), lastTk := s.now % 2 ^ 64 } ∧
           (i.sd ≠ 0 → m.sreg k i.sd.val = BitVec.ofNat 64 (handleOf p f n gen))) ∧ others f n m ∧
          (∀ j, j < pagesFor a.tiles → ∃ c, (m.dir p (a.lpage + j)).cur = some c ∧ (m.page c).st = .sealed ∧ (m.page c).pool = poolLedger) ∧
          m.sreg k 0 = 0 ∧ (m.thread k).pc = next ∧ (m.thread k).st = .ready ∧
          SameBut [.threads, .dbg, .sregs, .ledger, .pages, .dir, .fresh, .regs, .out, .side] s m) ∧
        ((s.mark k).accTry f (k / 32) a = none → Completes (.ldgAcc t i) s fun u => parked (.accession f) 1 u ∧
          u.ledger.entries = s.ledger.entries ∧ SameBut [.threads, .dbg, .sync, .ledger, .regs, .hosts, .out, .side] s u)) ∧
      (s.accOk f a = false → Completes (.ldgAcc t i) s fun u => IssuedTo k next [.sregs] s u ∧ u.sreg k 0 = 5 ∧ SregsBut k 0 s u)) ∧
    (hndPart h = p → s.owns p g = true → s.partOf f = some p →
      (e.gen = hndGen h → hndGen h ≠ 0 → e.st ≠ 0 →
        (e.users ≠ 255 → i.f = false ∨ e.st = 9 ∨ e.st = 2 → Completes (.ldgUse t i) s fun u => IssuedTo k next [.sregs, .ledger] s u ∧
          u.sreg k 0 = 0 ∧ SregsBut k 0 s u ∧ u.entry g x = { e with users := e.users + 1 } ∧ others g x u) ∧
        (e.users ≠ 255 → i.f = true → e.st = 5 → e.slip = false → Completes (.ldgUse t i) s fun u => ∃ m : State, u = m.settle (s.entPart g) ∧
          m.entry g x = { e with users := e.users + 1, late := true, lateAt := if e.lateAt = 0 then s.now + 1 else e.lateAt, slip := true } ∧
          others g x m ∧ m.ledger.moves = s.ledger.moves ++ [⟨g, x, .slip, false, decide (e.stiles ≠ 0), storedTiles e, storedTiles e, s.now, true, 0, 0, 0⟩] ∧
          parked (.entry g x) 0 m ∧ SameBut [.threads, .dbg, .sync, .ledger, .regs, .hosts, .out, .side] s m) ∧
        (i.f = false → 0 < i.imm.toNat → i.imm.toNat ≤ 255 → i.imm.toNat < e.uses → Completes (.ldgRel t i) s fun u => ∃ m : State, u = m.settle (s.entPart g) ∧
          IssuedTo k next [.sregs, .ledger] s m ∧ m.sreg k 0 = 0 ∧ SregsBut k 0 s m ∧
          m.entry g x = { e with uses := e.uses - i.imm.toNat, users := e.users - 1 } ∧ others g x m) ∧
        (i.f = false → i.imm.toNat ≤ 255 → e.uses < i.imm.toNat → Completes (.ldgRel t i) s fun u =>
          IssuedTo k next [.sregs] s u ∧ u.sreg k 0 = 0xD ∧ SregsBut k 0 s u)) ∧
      (e.gen ≠ hndGen h → (i.imm.toNat ≠ 0 ∧ i.imm.toNat ≤ 255) → i.f = false → ∀ c, c = .ldgUse t i ∨ c = .ldgRel t i → Completes c s fun u =>
        IssuedTo k next [.sregs] s u ∧ u.sreg k 0 = 0xC ∧ SregsBut k 0 s u))

/-- R238, R256-R258, R264, R267, R268: LDG.PROG of a declared lane stores its mark, an invocation carries out its class's decision (here KEEP, of a fixed class or of a policy
program that names a NEED), and a scan asks again after SCAN and slips the entry whose time has come. -/
def Obligations.LedgerPolicies : Prop :=
  ∀ (s : State) (t : Thr) (i : SyncIns) (fld : FieldId) (v : Invoc) (n : Nat) (r : Pol) (a b : Nat),
    let f := fld.val
    let p := s.entPart f
    let e := s.entry f v.n
    let w := s.clsWord f e.cls 0
    let l := bits i.imm.toNat 1 0
    let g := bits i.imm.toNat 5 2
    (Issuable s t → i.rsv = 0 → i.f = false → t.f = fld → s.partRun (thrOf t) = none → s.rd LDG_CTL.EN f = 0 →
      (∀ y ∈ s.ledger.entries, y.1 / 65536 = f → y.2.needF = 0xFFFF) →
      ((s.group p g).any fun d => decide (l < d.lanes)) = true → Completes (.ldgProg t i) s fun u => ∃ m : State, u = m.settle p ∧
        IssuedTo (thrOf t) ((s.thread (thrOf t)).pc + 1) [.sregs, .regs] s m ∧ m.sreg (thrOf t) 0 = 0 ∧ SregsBut (thrOf t) 0 s m ∧
        m.rd LDG_PROG.MARK (progKey f g l) = (s.sreg (thrOf t) i.sa.val).toNat % 65536 ∧ RegsBut [(LDG_PROG.MARK, progKey f g l)] s m) ∧
    (s.running p = true → (s.ledger.invoc.find? fun y => decide (y.f = f)) = some v → (∀ m ∈ s.ledger.moves, moveOf f v.n m = false) →
      (e.st = 2 ∨ e.st = 3 → bit w 11 = false → bits w 13 12 = 0 → Completes (.policyInvocation fld) s fun u => ∃ m : State, u = m.settle p ∧
        m.entry f v.n = { e with action := 0 } ∧ m.ledger.invoc = s.ledger.invoc.filter (· ≠ v) ∧ SameBut [.ledger, .dbg] s m) ∧
      (e.st = 1 → entryDone e = true → bit w 11 = false → bits w 13 12 = 0 → Completes (.policyInvocation fld) s fun u => ∃ m : State, u = m.settle p ∧
        (m.entry f v.n).st = 2 ∧ (m.entry f v.n).action = 0 ∧ m.ledger.invoc = s.ledger.invoc.filter (· ≠ v)) ∧
      (e.st = 2 ∨ e.st = 3 → bit w 11 = true → e.needF = 0xFFFF → a ≠ 0xFFFF →
        polRun (((s.plan p).map (·.prog)).getD []) (s.polInput f v.n v.reason) (s.clsWord f e.cls) (s.rd LDG_POL_CTL.STEPS f)
          ⟨bits w 10 0, List.replicate 16 0, none, []⟩ = (.decided 0, r) → r.need = some (a, b) →
        Completes (.policyInvocation fld) s fun u => ∃ m : State, u = m.settle p ∧ m.entry f v.n = { e with action := 0, needF := a, needM := b } ∧
          m.ledger.invoc = s.ledger.invoc.filter (· ≠ v) ∧ SameBut [.ledger, .dbg] s m)) ∧
    (s.running p = true →
      let z := s.reach (Store.get 0 s.ledger.scanAt f)
      (s.calm → Completes (.policyScan fld) s fun u => u.now = s.after (Store.get 0 s.ledger.scanAt f) ∧
        Store.get 0 u.ledger.scanAt f = u.now + s.rd LDG_POL_CTL.SCAN f * 1000 ∧ u.ledger.entries = [] ∧
        SameBut [.now, .regs, .guard, .dbg, .out, .side, .ledger, .logs, .hosts] s u) ∧
      (z.needList f = [n] → z.ttn f n ≤ 0 → (s.entry f n).st = 5 → (s.entry f n).slip = false → Completes (.policyScan fld) s fun u => ∃ m : State,
        u.ledger.entries = (m.settle p).ledger.entries ∧ m.entry f n = { s.entry f n with slip := true } ∧
        m.ledger.moves = s.ledger.moves ++ [⟨f, n, .slip, false, decide ((s.entry f n).stiles ≠ 0), storedTiles (s.entry f n), storedTiles (s.entry f n),
          s.after (Store.get 0 s.ledger.scanAt f), false, 0, 0, 0⟩]))

/-- R239, R243, R300, R305, R306: moves. A spill or slip of at most 252 tiles starts as one descriptor on the field's shelf engine with the fewest queued tiles; once its
tiles have landed the commit ends it. A spill leaves the entry SPILLED without its plain pages, a fetch READY without its moved form, a press PRESSED without its plain pages; a
press that fails VERIFY is declined. -/
def Obligations.LedgerMoves : Prop :=
  ∀ (s : State) (fld : FieldId) (bn : BitVec 16) (mv : Move) (r : List Move),
    let f := fld.val
    let n := bn.toNat
    let p := s.entPart f
    let e := s.entry f n
    let gone : State → Prop := fun m => m.ledger.moves = s.ledger.moves.filter fun x => !moveOf f n x
    let noPlain : State → Prop := fun m => ∀ i, i < pagesFor e.tiles → (m.dir p (e.lpage + i)).cur = none
    s.running p = true →
    (s.waitingMoves f = mv :: r → mv.f = f → mv.n = n → 0 < mv.total → mv.total ≤ 252 →
      (mv.kind = .spill ∨ mv.kind = .emerg) ∨ (mv.kind = .slip ∨ mv.kind = .input) ∧ e.st = 7 → Completes (.ledgerMoveStart fld) s fun u => ∃ m : State, u = m.settle p ∧
        (let k := shelfKey f (s.leastShelf f)
         let out := decide (mv.kind = .spill) || decide (mv.kind = .emerg)
         let from_ := if out = true then (if e.from_ = 3 then e.spage else e.lpage) else e.spage
         let dest := if out = true then e.spage else e.lpage
         m.engine k = { s.engine k with work := (s.engine k).work ++
           [⟨n, 0, shelfDesc (pageAddr from_ 0) (pageAddr dest 0) mv.total out, 0, 0, true, true, true, 0⟩] } ∧
         ∀ j, j ≠ k → m.engine j = s.engine j) ∧
        m.ledger.moves = (s.ledger.moves.map fun x => if moveOf f n x then { x with started := true } else x) ∧
        m.ledger.entries = s.ledger.entries ∧ SameBut [.ledger, .engines] s m) ∧
    (mv.started = true → mv.left = 0 →
      ((s.ledger.moves.find? fun m => moveOf f n m && (decide (m.kind = .spill) || decide (m.kind = .emerg))) = some mv → e.st = 4 → e.from_ ≠ 3 →
        ((List.range e.spages).all fun i => (s.spillPg p (e.spage + i)).any fun k => decide ((s.page k).st = .sealed)) = true →
        Completes (.spillCommit fld bn) s fun u => ∃ m : State, u = m.settle p ∧ m.entry f n = { e with st := 5, lastTk := s.now % 2 ^ 64 } ∧ gone m ∧ noPlain m) ∧
      ((s.ledger.moves.find? fun m => moveOf f n m && (decide (m.kind = .slip) || decide (m.kind = .input))) = some mv → e.st = 7 → e.lateAt = 0 →
        mv.codec = false → Completes (.fetchCommit fld bn) s fun u => ∃ m : State, u = m.settle p ∧
          m.entry f n = { e with st := 9, lastTk := s.now % 2 ^ 64, spage := 0, spages := 0, stiles := 0 } ∧ gone m ∧
          ∀ i, i < e.spages → (m.dir p (e.spage + i)).cur = none) ∧
      ((s.ledger.moves.find? fun m => moveOf f n m && decide (m.kind = .press)) = some mv →
        Completes (.pressCommit fld bn false) s (fun u => ∃ m : State, u = m.settle p ∧ (m.entry f n).st = 3 ∧ (m.entry f n).action = 1 ∧
          (m.entry f n).spage = mv.page ∧ (m.entry f n).ctab = mv.table ∧ (m.entry f n).tiles = e.tiles ∧ gone m ∧ noPlain m) ∧
        (s.rd CMP_CTL.VERIFY p = 1 → e.st = 1 → Completes (.pressCommit fld bn true) s fun u => ∃ m : State, u = m.settle p ∧ (m.entry f n).st = 2 ∧
          m.rd CMP_FSTAT.LAST_DECL f = 7 ∧ m.rd CMP_FLT.CODE p = 7 ∧ m.rd CMP_FLT.VALID p = 1 ∧ m.rd CMP_EVT.VERIFY_FAIL p = 1 ∧ gone m)))

/-- R247, R248: emergency spill. A running field whose Ledger T1 use is above its high mark enters it with its events, and where no entry can be spilled it is
stuck; at the low mark it leaves it; where the use has not changed the marks are not looked at. The peak follows the use. -/
def Obligations.EmergencySpillFollowsMarks : Prop :=
  ∀ (s : State) (fld : FieldId), let f := fld.val
    let u := s.watchUse f
    (s.rd LDG_T1.USED f = s.ldgUsed f → u.rd LDG_STAT.EMERG f = s.rd LDG_STAT.EMERG f ∧ SameBut [.regs] s u) ∧
    (s.running (s.entPart f) = true → s.rd LDG_T1.USED f ≠ s.ldgUsed f → s.highMark f < s.ldgUsed f → s.lowMark f < s.ldgUsed f → s.ledger.entries = [] → s.ldgUsed f < 1024 →
      u.rd LDG_STAT.EMERG f = 1 ∧ u.rd LDG_EVT.EMERG_STUCK f = 1 ∧ u.rd LDG_T1_PEAK.PEAK f = max (s.rd LDG_T1_PEAK.PEAK f) (s.ldgUsed f) ∧
      (s.rd LDG_STAT.EMERG f ≠ 1 → u.rd LDG_EVT.EMERG_SPILL f = 1 ∧ u.rd PAR_EVT.EMERG_SPILL (s.entPart f) = 1) ∧
      SameBut [.regs, .logs, .hosts, .out, .side] s u) ∧
    (s.running (s.entPart f) = true → s.rd LDG_T1.USED f ≠ s.ldgUsed f → s.ldgUsed f ≤ s.lowMark f → s.ldgUsed f ≤ s.highMark f → u.rd LDG_STAT.EMERG f = 0 ∧ SameBut [.regs] s u)

/-! ### Replay (11_replay.md) -/

/-- R277, R278, R282, R284, R285, R288, R289: spans. SPAN.BEGIN of a part takes its place in a slot and parks; the parts of a recording, and of a replay whose inputs are
there, start together on their span threads with their frames; SPAN.END of a part leaves its thread IDLE, and with the last part of a recording the slot is CLOSED, or FREE where no
output lives, and the issuing thread goes on with the slot number. RNG writes four blocks of AES-128. -/
def Obligations.SpansRecordAndReplay : Prop :=
  ∀ (s : State) (t : Thr) (i : SyncIns) (fld : FieldId) (bn : BitVec 12) (d : SpanDef) (q n : Nat) (run : PartRun) (pk : Park),
    let k := thrOf t
    let f := t.f.val
    let sid := i.imm.toNat
    let v := s.slot f n
    let going : Nat → Nat → State → Prop := fun f n u => (u.slot f n).going = true ∧ (u.slot f n).beginTk = s.now % 2 ^ 64 ∧ (u.slot f n).accs = 0 ∧
      ∀ r ∈ (s.slot f n).runs, ∀ x, d.parts[r.part]? = some x → (u.thread (thrKey f x.core x.thread)).st = .ready ∧
        (u.thread (thrKey f x.core x.thread)).pc = x.pc % 8192 ∧ u.partRun (thrKey f x.core x.thread) = some (n, r.part) ∧
        u.sreg (thrKey f x.core x.thread) 16 = BitVec.ofNat 64 n ∧
        ∀ j, 1 ≤ j → j ≤ 15 → u.sreg (thrKey f x.core x.thread) j = r.frame.getD (j - 1) 0
    (Issuable s t → replayRsv i false = false → s.partRun k = none → s.spanThread k = false → s.spanDef f sid = some d → partFor d t.m.val = some q →
      (d.parts.any fun x => decide (x.core = t.m.val) && decide (x.pc = (s.thread k).pc + 1)) = true →
      let step := (s.sreg k i.sa.val).toNat % 2 ^ 32
      let parked : Nat → State → Prop := fun m u => (u.thread k).st = .parked ∧ (u.thread k).pc = (s.thread k).pc ∧
        Store.get 0 u.replay.steps (k / 32) = step ∧
        u.sync.parks = s.sync.parks ++ [⟨.thread k, .slot f m, false, sid, i.tag.val, s.now, i.sd.val + 32 * i.sa.val⟩]
      (((s.beginPart k sid step i.sd.val).map (·.2)) = some n → Completes (.spanBegin t i) s fun u => parked n u ∧
        (let mine : PartRun := ⟨q, k, (List.range 15).map fun j => s.sreg k (j + 1), i.sd.val, false⟩
         u.slot f n = { v with st := 1, sid := sid, step := step, since := s.now, runs := v.runs ++ [mine] }) ∧
        SameBut [.threads, .dbg, .sync, .replay] s u) ∧
      (s.beginPart k sid step i.sd.val = none → Completes (.spanBegin t i) s fun u => parked 0xFFFF u ∧ u.rd LDG_REP_EVT.SLOT_WAIT f = 1 ∧
        u.replay.slots = s.replay.slots ∧ SameBut [.threads, .dbg, .sync, .replay, .regs, .hosts, .out, .side] s u)) ∧
    (s.running (s.entPart fld.val) = true → (s.part (s.entPart fld.val)).frozen = false →
      s.spanDef fld.val (s.slot fld.val bn.toNat).sid = some d → (spanThreads fld.val d).Nodup → (s.slot fld.val bn.toNat).runs.map (·.part) = List.range d.parts.length →
      s.gangFree fld.val bn.toNat = true → d.parts.length ≤ 16 → (∀ x ∈ d.parts, x.core < 152 ∧ x.thread < 32) →
      ((s.slot fld.val bn.toNat).st = 1 → (s.slot fld.val bn.toNat).going = false → bn.toNat ∈ s.waitingSlots fld.val → Completes (.gangStart fld bn) s fun u =>
        going fld.val bn.toNat u ∧ (u.slot fld.val bn.toNat).st = 1 ∧ SameBut [.threads, .owed, .sregs, .vregs, .accs, .sync, .replay, .dbg] s u) ∧
      ((s.slot fld.val bn.toNat).st = 2 → s.replay.queue = [(fld.val, bn.toNat)] → (s.slot fld.val bn.toNat).stale = false →
        ((s.slot fld.val bn.toNat).ins.all fun h => s.inputReady h && !s.inputGone h) = true →
        ((s.slot fld.val bn.toNat).outs.any fun h => decide ((s.entry fld.val (hndEntry h)).gen = hndGen h) && decide ((s.entry fld.val (hndEntry h)).st = 8)) = true →
        Completes (.replayStart fld) s fun u => going fld.val bn.toNat u ∧ (u.slot fld.val bn.toNat).st = 3 ∧ u.replay.queue = [] ∧
          SameBut [.threads, .owed, .sregs, .vregs, .accs, .sync, .replay, .dbg] s u)) ∧
    (Issuable s t → replayRsv i true = false → s.partRun k = some (n, q) →
      let runs := v.runs.map fun r => if r.part = q then { r with ended := true } else r
      ((∃ r ∈ v.runs, r.part ≠ q ∧ r.ended = false) → Completes (.spanEnd t i) s fun u => (u.thread k).st = .idle ∧ u.partRun k = none ∧
        u.slot f n = { v with runs := runs } ∧ SameBut [.threads, .dbg, .replay] s u) ∧
      (v.st = 1 → v.runs = [run] → run.part = q → run.thr ≠ k → run.sd ≠ 0 → run.sd < 32 → s.sync.parks = [pk] → pk.who = .thread run.thr → pk.tgt = .slot f n →
        (s.thread run.thr).st = .parked → s.owed run.thr = [] → Completes (.spanEnd t i) s fun u => ∃ m : State, u = m.settle (s.entPart f) ∧
          (m.thread k).st = .idle ∧ m.partRun k = none ∧ m.sync.parks = [] ∧ (m.thread run.thr).st = .ready ∧
          (m.thread run.thr).pc = (s.thread run.thr).pc + 1 ∧ m.sreg run.thr run.sd = BitVec.ofNat 64 n ∧ m.sreg run.thr 0 = 0 ∧
          m.slot f n = (if v.live = 0 then slot0 else
            { v with st := 2, going := false, redo := [], accs := 0, runs := [{ run with ended := true }], spanTk := min 2147483647 (s.now - v.beginTk) }) ∧
          SameBut [.threads, .dbg, .replay, .sync, .sregs] s m)) ∧
    (Issuable s t → replayRsv i true = false → i.sd.val < 8 → Completes (.rng t i) s fun u =>
      (let a := (s.sreg k i.sa.val).toNat
       let key := ((s.sect (s.entPart f)).map (·.replayKey)).getD 0
       let span := ((s.partRun k).map fun y => (s.slot f y.1).sid).getD 0xFFFF
       let ctr := Store.get 0 s.replay.steps (k / 32) % 2 ^ 32 * 2 ^ 96 + span * 2 ^ 80 + bits a 31 0 * 2 ^ 48 + bits a 61 32 * 2 ^ 18
       u.vreg k i.sd.val = BitVec.ofNat 512 (aes128 key ctr + aes128 key (ctr + 1) * 2 ^ 128 + aes128 key (ctr + 2) * 2 ^ 256 + aes128 key (ctr + 3) * 2 ^ 384)) ∧
      VregsBut k i.sd.val s u ∧ u.sreg k 0 = 0 ∧ SregsBut k 0 s u ∧ (u.thread k).pc = (s.thread k).pc + 1 ∧
      SameBut [.threads, .dbg, .vregs, .sregs] s u)

/-! ### The repository (05_repository.md) -/

/-- R118, R120-R123, R132-R134: reads, relocations and erases of flash segments, and the states of a channel. A read counts in its segment and asks for a relocation where a chunk was
uncorrectable or had ECC_MARK corrected bits; a tile that two channels cannot give is LOST with its page and number in REPO_FLT. A relocation switches the map to an
erased segment; an erase counts, and retires the segment at PE_LIMIT or on a failure. A target that is silent makes its channel SUSPECT, then FAILED; one that answers makes it OK. -/
def Obligations.FlashChannelsAndSegments : Prop :=
  ∀ (s : State) (p : Part) (page : BitVec 33) (t : Fin 4) (cor : BitVec 8) (ch : Fin 256) (bl : BitVec 17) (v i j : Nat) (x : Vol),
    let at_ := s.flashPlace p.val page.toNat t.val
    let c := at_.1
    let l := at_.2 / s.segSize c
    let chans : Nat → Nat → State → Prop := fun c st u => u.rd REPO_CH.STATE c = st ∧ ∀ d, d < 256 → d ≠ c → u.rd REPO_CH.STATE d = s.rd REPO_CH.STATE d
    let ring := [Comp.regs, .repo, .logs, .hosts, .out, .side]
    (s.volOf p.val page.toNat = some (v, x) → x.st = 2 ∨ x.st = 3 →
      (s.chanBad c = false → s.segOf c l = some i → (s.seg c i).reads + 1 < s.rd REPO_RD.DISTURB 0 * 1000 → cor.toNat < s.rd REPO_RD.ECC_MARK 0 →
        Completes (.flashRead p page t cor false) s fun u => u.seg c i = { s.seg c i with reads := (s.seg c i).reads + 1 } ∧
          (∀ k, k ≠ c * 131072 + i → Store.get seg0 u.repo.segs k = Store.get seg0 s.repo.segs k) ∧ u.repo.queue = s.repo.queue ∧ SameBut [.repo] s u) ∧
      (s.chanBad c = true → s.noRebuild c = true → ∀ fail, Completes (.flashRead p page t cor fail) s fun u =>
        Store.get false u.repo.lost (tileKey (pageKey 3 p.val page.toNat) t.val) = true ∧ u.rd REPO_FLT.PAGE p.val = page.toNat ∧
        u.rd REPO_FLT.TILE p.val = t.val ∧ u.rd REPO_EVT.LOST p.val = 1 ∧ NewestLog 4 0x85 u ∧ SameBut ring s u)) ∧
    (s.rd REPO_CTL.PATROL_EN 0 = 1 → s.chanBad ch.val = false → s.segOf ch.val bl.toNat = some i → s.rd REPO_RD.ECC_MARK 0 ≤ cor.toNat →
      Completes (.patrolRead ch bl cor false) s fun u => (ch.val, bl.toNat) ∈ u.repo.queue ∧ (∀ y ∈ s.repo.queue, y ∈ u.repo.queue) ∧
        u.seg ch.val i = { s.seg ch.val i with reads := (s.seg ch.val i).reads + 1 } ∧ SameBut [.repo] s u) ∧
    (s.repo.queue.contains (ch.val, bl.toNat) = true → s.rd REPO_CH.STATE ch.val ≠ 2 → s.segOf ch.val bl.toNat = some i → s.freeSeg ch.val = some j → i ≠ j →
      Completes (.relocationCommit ch bl) s fun u => u.segOf ch.val bl.toNat = some j ∧ (u.seg ch.val j).st = 1 ∧ (u.seg ch.val j).reads = 0 ∧
        u.seg ch.val i = { s.seg ch.val i with st := 2 } ∧ u.repo.queue = s.repo.queue.erase (ch.val, bl.toNat) ∧ SameBut [.repo] s u) ∧
    ((s.seg ch.val bl.toNat).st = 2 → ∀ ok, Completes (.segmentErase ch bl ok) s fun u =>
      u.seg ch.val bl.toNat = ⟨if ok = false ∨ s.rd REPO_WL.PE_LIMIT 0 ≤ (s.seg ch.val bl.toNat).erases + 1 then 3 else 0, (s.seg ch.val bl.toNat).erases + 1, 0⟩ ∧
      (∀ k, k ≠ ch.val * 131072 + bl.toNat → Store.get seg0 u.repo.segs k = Store.get seg0 s.repo.segs k) ∧ u.repo.map = s.repo.map ∧ SameBut [.repo] s u) ∧
    (s.rd REPO_CH.STATE ch.val = 0 → (s.chan ch.val).suspect = 0 → Completes (.targetBusyTimeout ch) s fun u => chans ch.val 1 u ∧
      (u.chan ch.val).suspect = s.now + 1 ∧ (u.chan ch.val).reset = true ∧ SameBut ring s u) ∧
    (s.rd REPO_CH.STATE ch.val = 1 → (s.chan ch.val).reset = true →
      Completes (.targetBusyTimeout ch) s (fun u => chans ch.val 2 u ∧ (u.chan ch.val).reset = false ∧ SameBut ring s u) ∧
      Completes (.targetReady ch) s fun u => chans ch.val 0 u ∧ (u.chan ch.val).reset = false ∧ SameBut ring s u) ∧
    (s.rd REPO_CH.STATE ch.val = 3 → Completes (.channelRebuildDone ch) s fun u => chans ch.val 0 u ∧ SameBut ring s u)

/-- R125, R126, R128, R131: commands to volumes from the steward with a fresh sequence, each in the state it is valid in, and the commits that follow. OPEN of a free range makes the volume
LOADING; CLOSE is PENDING until the record commits, and then the volume is SEALED and the CLOSE answered OK; ABANDON and FREE_UNBOUND end FREE; FREE leaves FREEING until its reads have
ended. In another state each returns BAD_STATE and changes nothing else. -/
def Obligations.VolumesOpenCloseAndFree : Prop :=
  ∀ (s : State) (r : Req) (p : Part) (bv : Fin 256) (seq : BitVec 16) (x pf n : Nat),
    let v := s.vol p.val bv.val
    let told : Nat → State → Prop := fun res u => u.rd REPO_CMD_STAT.SEQ p.val = seq.toNat ∧ u.rd REPO_CMD_STAT.RESULT p.val = res
    let st := [(REPO_CMD_STAT.SEQ, p.val), (REPO_CMD_STAT.RESULT, p.val)]
    let others : State → Prop := fun u => ∀ k, k ≠ p.val * 256 + bv.val → Store.get vol0 u.repo.vols k = Store.get vol0 s.repo.vols k
    let became : Vol → State → Prop := fun w u => u.vol p.val bv.val = w ∧ others u ∧ RegsBut st s u ∧ SameBut [.regs, .repo, .hosts, .out] s u
    let refused : Instr → Prop := fun c => Completes c s fun u => told 4 u ∧ RegsBut st s u ∧ SameBut [.regs, .hosts, .out] s u
    (Ordered s r p.val x pf (repoSrc p.val) seq.toNat →
      (let dies := s.shareDies p.val
       let base := s.rd REPO_OPEN.BASE p.val
       let len := s.rd REPO_OPEN.LEN p.val
       v.st = 0 → (∀ e ∈ s.repo.vols, e.1 / 256 = p.val → e.2.st ≠ 0 → e.2.st ≠ 1 ∧ (base + len ≤ e.2.base ∨ e.2.base + e.2.len ≤ base)) →
       base + len ≤ dies.length * 335544320 → len ≠ 0 → base % (15 * dies.length) = 0 → len % (15 * dies.length) = 0 →
       Completes (.openVolume r p bv seq) s fun u => told 0 u ∧ became ⟨1, base, len, 0, false, (dies.map (2 ^ ·)).sum, false⟩ u) ∧
      (v.st = 1 → v.closing = false → Completes (.closeVolume r p bv seq) s fun u => told 1 u ∧ became { v with closing := true } u) ∧
      (v.st = 1 → (∀ y ∈ s.repo.runs, y.part ≠ p.val) → Completes (.abandonVolume r p bv seq) s fun u => told 0 u ∧ became vol0 u) ∧
      (v.st = 2 → Completes (.volumeFree r p bv seq) s fun u => told 0 u ∧ u.vol p.val bv.val = { v with st := 3 } ∧ others u ∧ RegsBut st s u ∧
        SameBut [.regs, .repo, .hosts, .out, .pages, .dir, .dbg] s u) ∧
      (v.st = 4 → Completes (.freeUnbound r p bv seq) s fun u => told 0 u ∧ became vol0 u) ∧
      (v.st ≠ 0 → refused (.openVolume r p bv seq)) ∧ (v.st ≠ 1 → refused (.closeVolume r p bv seq) ∧ refused (.abandonVolume r p bv seq)) ∧
      (v.st ≠ 2 → refused (.volumeFree r p bv seq)) ∧ (v.st ≠ 4 → refused (.freeUnbound r p bv seq))) ∧
    (v.st = 1 → v.closing = true → (∀ y ∈ s.repo.runs, y.part ≠ p.val) → v.loaded = v.len → Store.get 0 s.repo.cmd p.val = n + 1 →
      Completes (.volumeSealed p bv) s fun u => (u.vol p.val bv.val).st = 2 ∧ (u.vol p.val bv.val).closing = false ∧ (u.vol p.val bv.val).base = v.base ∧
        (u.vol p.val bv.val).len = v.len ∧ others u ∧ u.rd REPO_CMD_STAT.RESULT p.val = 0 ∧ u.rd REPO_CMD_STAT.SEQ p.val = n / 16 % 65536 ∧
        Store.get 0 u.repo.cmd p.val = 0 ∧ SameBut [.regs, .repo, .logs, .hosts, .out, .side] s u) ∧
    (v.st = 3 → s.readingT3 p.val v.base v.len = false → Completes (.volumeFreeingDone p bv) s fun u => u.vol p.val bv.val = vol0 ∧ others u ∧ SameBut [.repo] s u)

/-- R127, R131: REPO_LOAD from the steward appends its run where the volume has room and shows it PENDING, and answers BAD_RANGE past the volume's end. Its page is programmed at
the volume's next unloaded page with the header and payload of the source, and the run ends OK with LOAD_DONE; a source that is not a SEALED T2 page or fails its
check ends it with LOAD_FAULT and loads nothing. -/
def Obligations.LoadingWindows : Prop :=
  ∀ (s : State) (r : Req) (p : Part) (src : BitVec 40) (count : BitVec 24) (seq : BitVec 16) (x pf v k : Nat) (w : Vol) (y : LoadRun),
    let shown : Nat → Nat → State → Prop := fun q res u => u.rd REPO_LOAD_STAT.SEQ p.val = q ∧ u.rd REPO_LOAD_STAT.RESULT p.val = res
    let due := ((s.repo.runs.filter fun y => decide (y.part = p.val)).map (·.count)).sum
    (s.loading p.val = some (v, w) →
      (Ordered s r p.val x pf (loadSrc p.val) seq.toNat → count.toNat ≠ 0 → s.pst p.val = stAdmitted ∨ s.pst p.val = stRunning → w.closing = false →
        (w.loaded + due + count.toNat ≤ w.len → Completes (.repoLoad r p src count seq) s fun u => shown seq.toNat 1 u ∧
          u.repo.runs = s.repo.runs ++ [⟨p.val, src.toNat, count.toNat, seq.toNat, x, pf⟩] ∧ u.repo.vols = s.repo.vols ∧ SameBut [.regs, .repo, .hosts] s u) ∧
        (w.len < w.loaded + due + count.toNat → Completes (.repoLoad r p src count seq) s fun u => shown seq.toNat 5 u ∧ SameBut [.regs, .hosts, .out] s u)) ∧
      ((s.repo.runs.find? fun y => decide (y.part = p.val)) = some y → y.count = 1 → y.seq < 65536 → s.rd REPO_LOAD_STAT.SEQ p.val = y.seq →
        (Memory.wf s.mem = true → s.loadable p.val y.src = some k → Completes (.loadDone p) s fun u => shown y.seq 0 u ∧ u.rd REPO_EVT.LOAD_DONE p.val = 1 ∧
          u.repo.runs = s.repo.runs.erase y ∧ (u.vol p.val v).loaded = (s.vol p.val v).loaded + 1 ∧ (u.vol p.val v).st = (s.vol p.val v).st ∧
          (let d := pageKey 3 p.val ((s.vol p.val v).base + (s.vol p.val v).loaded)
           ∀ t, t < 4 → u.hdr (tileKey d t) = s.hdr (tileKey k t) % 2 ^ 512 ∧
             ∀ i, i < 2048 → (u.word (tileWord (tileKey d t) i)).data = (s.word (tileWord (tileKey k t) i)).data) ∧
          SameBut [.regs, .words, .hdrs, .repo, .hosts, .out, .side] s u) ∧
        (s.loadable p.val y.src = none → Completes (.loadDone p) s fun u => shown y.seq 7 u ∧ u.rd REPO_EVT.LOAD_FAULT p.val = 1 ∧
          u.repo.runs = s.repo.runs.erase y ∧ (u.vol p.val v).loaded = (s.vol p.val v).loaded ∧ NewestLog 4 0x83 u ∧
          SameBut [.regs, .repo, .logs, .hosts, .out, .side] s u)))

/-! ### Thijolink (13_thijolink.md) -/

/-- R313, R314, R319-R321, R326, R327, R342-R344, R372, R380: a port's states, with no tie that waits for it. It trains again after RESTORE_S; training that passes its checks makes it UP with its sequences at 0, a wrong peer or
cluster, or a failed authentication, MISWIRED; past 100 ms it is DOWN, or LOST where it had been UP. Past its retry budget an UP port retrains; a retrain that completes sends its
replay buffer again; one that does not is LINK_LOST, which empties the port's buffers, and a tie without another port becomes STALLED and halts its partition. A lost port that comes back
negotiates the prefixes of its ties first. -/
def Obligations.LinkPortsTrainAndFail : Prop :=
  ∀ (s : State) (n : Tjl) (w : Fin 32) (pp : Tjl) (cl : BitVec 32) (gen2 : Bool) (lanes : BitVec 16) (fl epoch : BitVec 8) (r : PortRec) (g : Nat × Nat) (t a b : Nat)
      (v : TieOut) (d : Tie) (p : Part),
    let x := s.lport n.val
    let quiet := s.tjl.ties = [] ∧ x.wait = []
    let timed := [Comp.now, .regs, .tjl, .guard, .dbg, .out, .side]
    let port := [Comp.regs, .tjl, .hosts, .out, .side]
    (s.portSt n.val = 1 → s.rd SEC_STAT.ERROR 0 ≠ 1 → s.portRec n.val = some r → laneGroup lanes.toNat = some g →
      (r.peer = some (w.val, pp.val) → cl.toNat = s.rd TJL_CLUSTER.ID 0 → x.lost = false → quiet → Completes (.portTrained n w pp cl gen2 lanes fl true) s fun u =>
        u.portSt n.val = 2 ∧ u.rd TJL_PORT.PEER_WAFER n.val = w.val ∧ u.rd TJL_PORT.PEER_PORT n.val = pp.val ∧
        u.rd TJL_PORT.GEN n.val = (if gen2 = true ∧ r.gen2 = true then 2 else 1) ∧ u.rd TJL_PORT_LANES.GOOD n.val = lanes.toNat ∧
        u.rd TJL_PORT.FLIGHT n.val = fl.toNat ∧ (u.lport n.val).next = 0 ∧ (u.lport n.val).expect = 0 ∧ (u.lport n.val).replay = [] ∧
        SameBut port s u) ∧
      (r.peer ≠ some (w.val, pp.val) ∨ cl.toNat ≠ s.rd TJL_CLUSTER.ID 0 → ∀ auth, Completes (.portTrained n w pp cl gen2 lanes fl auth) s fun u =>
        u.portSt n.val = 5 ∧ u.rd TJL_PORT_EVT.MISWIRED n.val = 1 ∧ SameBut [.regs, .hosts, .out, .side] s u) ∧
      (r.peer = some (w.val, pp.val) → cl.toNat = s.rd TJL_CLUSTER.ID 0 → Completes (.portTrained n w pp cl gen2 lanes fl false) s fun u =>
        u.portSt n.val = 5 ∧ u.rd SEC_EVT.PEER_AUTH 0 = 1 ∧ SameBut [.regs, .hosts, .out, .side] s u)) ∧
    (s.portSt n.val = 1 → Completes (.trainingTimeout n) s fun u => u.portSt n.val = (if x.lost = true then 4 else 0) ∧
      u.now = s.after (x.began + 100000000) ∧ (u.lport n.val).began = u.now ∧ SameBut timed s u) ∧
    (s.portSt n.val = 0 ∨ s.portSt n.val = 4 → Store.get false s.wafer.edges (18 + n.val) = false → s.portRec n.val = some r → r.peer.isSome = true →
      Completes (.restoreTimer n) s fun u => u.portSt n.val = 1 ∧ u.now = s.after (x.began + s.rd TJL_BUDGET.RESTORE_S 0 * 1000000000) ∧ SameBut timed s u) ∧
    (s.portSt n.val = 2 → x.replay ≠ [] → x.tries < s.rd TJL_BUDGET.RETRIES 0 → Completes (.retryBudgetExpiry n) s fun u => u.portSt n.val = 3 ∧
      u.now = s.after (x.since + s.rd TJL_BUDGET.RETRY_US 0 * 1000) ∧ (u.lport n.val).replay = x.replay ∧ u.rd TJL_PORT_EVT.RETRAIN n.val = 1 ∧
      SameBut (.hosts :: timed) s u) ∧
    (s.portSt n.val = 3 → laneGroup lanes.toNat = some g → quiet → Completes (.retrainDone n lanes) s fun u => u.portSt n.val = 2 ∧
      u.rd TJL_PORT_LANES.ACTIVE n.val = g.1 ∧ (u.lport n.val).tries = 0 ∧ (u.lport n.val).replay = x.replay ∧
      (∀ y ∈ x.replay, ∃ h, Out.frame n.val y.kind (h :: y.body) ∈ u.out) ∧ SameBut port s u) ∧
    (s.portSt n.val = 3 → (∀ q, q < 4 → s.treesOf q = []) →
      (s.tjl.ties = [] → (∀ q, q < 4 → s.usesPort q n.val = false) → Completes (.linkLost n) s fun u => u.portSt n.val = 4 ∧
        (u.lport n.val).replay = [] ∧ (u.lport n.val).wait = [] ∧ (u.lport n.val).lost = true ∧ u.rd TJL_PORT_EVT.LOST n.val = 1 ∧
        u.now = s.after (x.began + s.rd TJL_BUDGET.RETRAIN_MS 0 * 1000000) ∧ SameBut (.hosts :: timed) s u) ∧
      (s.tjl.ties = [(t, v)] → v.port = n.val + 1 → v.st = 1 → v.part = p.val → v.outst = [] → s.tieDecl t = some d → s.importsOf p.val = [] →
        (∀ m ∈ (s.route d.wafer).drop 1, m = n.val ∨ s.portSt m ≠ 2) → Completes (.linkLost n) s fun u => u.portSt n.val = 4 ∧ (u.tie t).st = 3 ∧
        u.rd TJL_PSTAT.STALLED p.val = 1 ∧ u.rd TJL_PSTAT.HALT p.val = 1 ∧ u.rd TJL_PEVT.LINK_LOST p.val = 1 ∧ NewestLog 9 0x80 u)) ∧
    (s.portSt n.val = 1 → x.lost = true → x.wait = [] → s.tjl.ties = [(t, v)] → v.st = 1 → Completes (.negotiate n epoch [(t, a, b)]) s fun u =>
      u.portSt n.val = 2 ∧ (u.lport n.val).inEpoch = epoch.toNat ∧ (u.lport n.val).epoch = x.epoch ∧ (u.lport n.val).lost = false ∧ u.rd TJL_PORT_EVT.RESTORED n.val = 1 ∧
      u.tie t = { v with landed := max v.landed (min a v.acc), applied := b % 2 ^ 32, tiles := v.tiles.filter fun y => decide (a < y.off + tileImage) } ∧
      SameBut port s u)

/-- R325-R327, R340: frames of an UP port that has none waiting. A frame that cannot be corrected is answered with an IDLE frame that asks for a replay; the expected DATA or CTRL frame for this wafer advances the sequence; a
duplicate and a gap do not; an acknowledgement empties the replay buffer up to its frame; a NAK sends the frames from its sequence again, in order. -/
def Obligations.LinkFramesAreAcknowledged : Prop :=
  ∀ (s : State) (n : Tjl) (hdr : BitVec 256) (body : BitVec 4736) (seq : BitVec 16) (pre suf : List LFrame) (y : LFrame),
    let x := s.lport n.val
    let h := hdr.toNat
    let idle : State → Prop := fun u => ∃ w, Sent (.frame n.val 0 [w]) u
    let kept : State → Prop := fun u => u.tjl = s.tjl ∧ SameBut [.tjl, .dbg, .out] s u
    s.portSt n.val = 2 → x.wait = [] →
    (∀ tagOk, Completes (.frameReceive n false tagOk hdr body) s fun u => idle u ∧ kept u) ∧
    (bits h 247 240 ≠ x.inEpoch % 256 → Completes (.frameReceive n true true hdr body) s (SameBut [] s)) ∧
    (bits h 247 240 = x.inEpoch % 256 → bit h 191 = false →
      ((∀ z ∈ x.replay, z.lseq ≠ bits h 175 160) → bits h 7 0 = 1 ∨ bits h 7 0 = 2 →
        (bits h 159 144 = x.expect → bits h 122 118 = s.waferNo → Completes (.frameReceive n true true hdr body) s fun u =>
          (u.lport n.val).expect = (x.expect + 1) % 65536 ∧ (u.lport n.val).replay = x.replay ∧ (u.lport n.val).next = x.next ∧ idle u ∧
          SameBut [.tjl, .dbg, .out] s u) ∧
        (64512 ≤ (bits h 159 144 + 65536 - x.expect) % 65536 ∨ (0 < (bits h 159 144 + 65536 - x.expect) % 65536 ∧
            (bits h 159 144 + 65536 - x.expect) % 65536 < 32768) → Completes (.frameReceive n true true hdr body) s fun u =>
          (u.lport n.val).expect = x.expect ∧ (u.lport n.val).replay = x.replay ∧ idle u ∧ SameBut [.tjl, .dbg, .out] s u)) ∧
      (bits h 7 0 = 0 → x.replay = pre ++ y :: suf → y.lseq = bits h 175 160 → (∀ z ∈ pre, z.lseq ≠ y.lseq) →
        Completes (.frameReceive n true true hdr body) s fun u => (u.lport n.val).replay = suf ∧ (u.lport n.val).tries = 0 ∧
          (u.lport n.val).since = s.now ∧ SameBut [.tjl] s u)) ∧
    (x.tries < s.rd TJL_BUDGET.RETRIES 0 → Completes (.nak n seq) s fun u => (u.lport n.val).tries = x.tries + 1 ∧ (u.lport n.val).replay = x.replay ∧
      u.out = ((x.replay.dropWhile fun z => decide (z.lseq ≠ seq.toNat)).map fun z => Out.frame n.val z.kind (frameHdr s n.val z :: z.body)).reverse ++ s.out ∧
      SameBut [.tjl, .dbg, .out] s u) ∧
    (s.rd TJL_BUDGET.RETRIES 0 ≤ x.tries → Completes (.nak n seq) s fun u => u.portSt n.val = 3 ∧ (u.lport n.val).replay = x.replay)

/-- R316, R318, R319, R331-R335, R343-R345: ties. At the target, bytes of a tile are kept until it is whole, and a whole tile is written to its page and advances the landed prefix; a tie that is not declared is answered BLOCKED. A signal waits until the bytes it announces
have landed, and then raises its object; one seen before has no effect. At the source, SIG_ACK ends a signal with its status, TIE_ACK advances the prefix and frees the export buffer; TIE_RESET with reason BLOCKED
leaves the tie BLOCKED, with SOURCE_RESTART clears an import. ROUTE_DOWN is told 100 ms after phase DEVICE. RESUME of a partition with no STALLED tie clears HALT. -/
def Obligations.TiesCarryTilesAndSignals : Prop :=
  ∀ (s : State) (n : Tjl) (sw : Fin 32) (sp dp : Part) (dh : BitVec 128) (bytes : List (BitVec 8)) (pkt : BitVec 256) (tie : BitVec 12) (sseq : BitVec 32) (st : BitVec 8)
      (landed : BitVec 64) (req : Req) (seq : BitVec 16) (i : Import) (m : State) (c o j x pf : Nat) (y : XSig) (d : Tie),
    let h := dh.toNat
    let k := impKey sw.val (bits h 11 0)
    let v := s.imp k
    let b := (bytes.map (·.toNat)).take (bits h 62 53)
    let tix := bits h 37 12
    let q := pkt.toNat
    let kq := impKey (bits q 247 243) (bits q 233 222)
    let z := s.imp kq
    let sig : XSig := ⟨bits q 191 160, 0, none, bits q 215 192, if bit q 220 then 2 else 0, bits q 159 128, bits q 127 64, bits q 63 58, bits q 57 50, bits q 49 44, bit q 221, 0⟩
    let t := s.tie tie.toNat
    (s.checkTie sw.val sp.val dp.val (bits h 11 0) = none → Completes (.tieData n sw sp dp dh bytes) s fun u => NewestLog 9 0x83 u ∧
      u.tjl.imps = s.tjl.imps ∧ u.mem = s.mem) ∧
    (s.checkTie sw.val sp.val dp.val (bits h 11 0) = some i → tix < i.tiles → s.running dp.val = true →
      (bits h 127 64 + b.length ≤ v.landed → Completes (.tieData n sw sp dp dh bytes) s fun u => u.imp k = { v with port := n.val + 1 } ∧ SameBut [.tjl, .dbg] s u) ∧
      (bits h 127 64 = v.landed + v.bytes.length → b ≠ [] → v.bytes.length + b.length < tileImage → Completes (.tieData n sw sp dp dh bytes) s fun u =>
        u.imp k = { v with port := n.val + 1, bytes := v.bytes ++ b } ∧ SameBut [.tjl] s u) ∧
      (bits h 127 64 = v.landed + v.bytes.length → b ≠ [] → v.bytes.length + b.length = tileImage → v.held = [] → bit h 63 = false →
        (s.setImp k { v with port := n.val + 1 }).writeImport dp.val k (i.tbase + tix / 4) = .page m c → (m.page c).st = .opened →
        Completes (.tieData n sw sp dp dh bytes) s fun u => (u.imp k).landed = v.landed + tileImage ∧ (u.imp k).bytes = [] ∧
          (∀ w, w < 2048 → (u.word (tileWord (tileKey c (tix % 4)) w)).data = BitVec.ofNat 64 (ofBytes (((v.bytes ++ b).drop (w * 8)).take 8))) ∧
          u.hdr (tileKey c (tix % 4)) = ofBytes (((v.bytes ++ b).drop 16384).take 64) % 2 ^ 512)) ∧
    (s.running dp.val = false → (s.checkTie sw.val sp.val dp.val (bits h 11 0)) = some i → tix < i.tiles → Completes (.tieData n sw sp dp dh bytes) s (SameBut [] s)) ∧
    ((s.checkTie (bits q 247 243) (bits q 237 236) (bits q 235 234) (bits q 233 222)) = some i → s.running (bits q 235 234) = true → z.held = [] →
      (z.seen = [] → z.landed < sig.ac → Completes (.signal n pkt) s fun u => u.imp kq = { z with port := n.val + 1, held := [sig] } ∧ SameBut [.tjl] s u) ∧
      (bits q 191 160 ∈ z.seen → Completes (.signal n pkt) s fun u => u.imp kq = { z with port := n.val + 1 } ∧ u.sync = s.sync ∧ SameBut [.tjl, .dbg, .out] s u) ∧
      (z.seen = [] → sig.ac ≤ z.landed → s.resolve ⟨bits q 235 234, kq / 4096, kq % 256, 52, false⟩ sig.target false = .obj o → s.exportOf o = none → s.objHeld o = false →
        (s.obj o).live = true → (s.obj o).broken = false → (∀ pk ∈ s.sync.parks, pk.tgt ≠ .obj o) → (s.obj o).count + sig.value ≤ countMax →
        Completes (.signal n pkt) s fun u => (u.obj o).count = (s.obj o).count + sig.value ∧ (u.imp kq).held = [] ∧ sig.sseq ∈ (u.imp kq).seen ∧
          (∀ j, j ≠ o → u.obj j = s.obj j))) ∧
    ((t.outst.find? fun x => decide (x.sseq = sseq.toNat)) = some y → y.bell = none → y.owner = j + 1 → s.owed j = [none] → t.st ≠ 1 → t.st ≠ 2 →
      Completes (.sigAck n tie sseq st) s fun u => (u.tie tie.toNat).outst = t.outst.erase y ∧ u.sreg j 0 = BitVec.ofNat 64 st.toNat ∧ u.owed j = [] ∧
        (u.tie tie.toNat).tiles = t.tiles ∧ SameBut [.tjl, .sregs, .owed] s u) ∧
    (t.st ≠ 0 → landed.toNat ≤ t.acc → t.home = false → Completes (.tieAck n tie landed) s fun u =>
      u.tie tie.toNat = { t with landed := max t.landed landed.toNat, tiles := t.tiles.filter fun y => decide (landed.toNat < y.off + tileImage) } ∧ SameBut [.tjl] s u) ∧
    (t.st ≠ 0 → s.tieDecl tie.toNat = some d → d.wafer = sw.val → t.part < 4 → Completes (.tieReset n sw tie 1) s fun u => u.tie tie.toNat = { t with st := 4 } ∧
      u.rd TJL_PEVT.TIE_BLOCKED t.part = 1 ∧ SameBut [.tjl, .regs, .hosts, .out, .side] s u) ∧
    (s.importOf sw.val tie.toNat = some (dp.val, i) → Completes (.tieReset n sw tie 3) s fun u =>
      u.imp (impKey sw.val tie.toNat) = { tieIn0 with port := (s.imp (impKey sw.val tie.toNat)).port } ∧ u.rd TJL_PEVT.TIE_RESET dp.val = 1 ∧
      (∀ e ∈ s.mem.pages, e.2.writer = .link (impKey sw.val tie.toNat) → e.2.st = .opened → (u.page e.1).st = .invalid) ∧
      SameBut [.tjl, .pages, .regs, .hosts, .out, .side] s u) ∧
    (t.st = 5 → t.part = dp.val → Completes (.routeDown dp tie) s fun u => u.rd TJL_PEVT.ROUTE_DOWN dp.val = 1 ∧ u.now = s.after (s.boot.deviceAt + 100000000) ∧
      u.tie tie.toNat = t) ∧
    (Ordered s req dp.val x pf (tjlSrc dp.val) seq.toNat → s.tjl.ties = [] → s.importsOf dp.val = [] →
      Completes (.tjlResume req dp seq) s fun u => (s.rd TJL_PSTAT.HALT dp.val = 1 → u.rd TJL_PSTAT.HALT dp.val = 0) ∧ u.rd TJL_PCMD_STAT.SEQ dp.val = seq.toNat ∧
        u.rd TJL_PCMD_STAT.RESULT dp.val = (if s.rd TJL_PSTAT.HALT dp.val = 1 then 0 else 4) ∧ SameBut [.regs, .tjl, .hosts, .out] s u)

/-- R214, R337-R339: barriers and time across wafers. BAR_UP of the episode in progress from a child's port marks its report, from a port that is no edge of the tree it is discarded and logged; BAR_DOWN from the parent of a leaf completes the episode. A request for time is answered on
its port; an answer to the exchange in progress moves the offset, by at most PERIOD x 10 ns after the first; an exchange without a time port drifts. -/
def Obligations.BarriersAndTimeAcrossWafers : Prop :=
  ∀ (s : State) (n : Tjl) (p : Part) (b : Fin 64) (gen num : BitVec 16) (t : BarTree) (d : BarDef) (t1 t2 t3 : BitVec 64) (m : Nat),
    let v := s.bar p.val b.val
    (s.tree p.val b.val = some t →
      (t.children.contains n.val = true → gen.toNat ≠ (v.gen + 1) % 65536 → Completes (.barUp n p b gen) s (SameBut [] s)) ∧
      (t.children.contains n.val = true → gen.toNat = (v.gen + 1) % 65536 → Completes (.barUp n p b gen) s fun u =>
        u.bar p.val b.val = { v with wafers := v.wafers ||| 2 ^ n.val } ∧ u.sync.parks = s.sync.parks ∧ SameBut [.sync] s u) ∧
      (t.children.contains n.val = false → Completes (.barUp n p b gen) s fun u => NewestLog 9 0x80 u ∧ SameBut [.logs, .hosts, .out, .side] s u) ∧
      (s.barDef p.val b.val = some d → d.num = b.val → t.parent = some n.val → t.children = [] → gen.toNat = (v.gen + 1) % 65536 → s.sync.parks = [] →
        Completes (.barDown n p b gen false) s fun u => (u.bar p.val b.val).gen = gen.toNat ∧ (u.bar p.val b.val).status = 0 ∧ (u.bar p.val b.val).wafers = 0 ∧
          SameBut [.sync] s u)) ∧
    (s.tree p.val b.val = none → Completes (.barUp n p b gen) s (fun u => NewestLog 9 0x80 u ∧ SameBut [.logs, .hosts, .out, .side] s u) ∧
      ∀ lost, Completes (.barDown n p b gen lost) s fun u => NewestLog 9 0x80 u ∧ SameBut [.logs, .hosts, .out, .side] s u) ∧
    (s.portSt n.val = 2 → (s.lport n.val).wait = [] → (s.lport n.val).replay.length < 1024 → 0 < (s.lport n.val).cred.getD 2 0 →
      Completes (.ts n false num t1 t2 t3) s fun u => (∃ h, Sent (.frame n.val 2 [h, ctrlPacket 7 [num.toNat, t1.toNat, s.clusterTime, s.clusterTime]]) u) ∧
        (u.lport n.val).next = ((s.lport n.val).next + 1) % 65536 ∧ SameBut [.tjl, .dbg, .out] s u) ∧
    (s.rd SYS_TB_STAT.FOLLOW 0 ≠ 0 →
      (num.toNat = s.tjl.exch → t1.toNat = s.tjl.t1 → Completes (.ts n true num t1 t2 t3) s fun u =>
        (let e : Int := (((t2.toNat : Int) - t1.toNat) - ((s.clusterTime : Int) - t3.toNat)).tdiv 2
         let most : Int := s.rd TJL_TB_CFG.PERIOD 0 * 10
         u.rd TJL_TB_OFS.OFS 0 = signed 64 (s.tbOfs + if s.tjl.first = true then max (-most) (min most e) else e) ∧ u.rd TJL_TB_ERR.THETA 0 = signed 32 e ∧
         u.rd TJL_TB_STAT.LOCKED 0 = if 16 ≤ (if e.natAbs ≤ 8 then s.tjl.good + 1 else 0) then 1 else 0) ∧
        u.tjl.first = true ∧ RegsBut [(TJL_TB_OFS.OFS, 0), (TJL_TB_ERR.THETA, 0), (SYS_TB_TRIM.PPB, 0), (TJL_TB_STAT.LOCKED, 0)] s u ∧ SameBut [.regs, .tjl] s u) ∧
      (s.timePort = none → Completes .tsExchange s fun u => u.rd TJL_TB_STAT.ADRIFT 0 = 1 ∧ u.rd TJL_TB_STAT.LOCKED 0 = 0 ∧ u.tjl.good = 0 ∧
        u.now = s.after (s.tjl.exchAt + s.rd TJL_TB_CFG.PERIOD 0 * 100000)) ∧
      (s.timePort = some m → Completes .tsExchange s fun u => u.rd TJL_TB_STAT.ADRIFT 0 = 0 ∧ u.rd TJL_TB_STAT.PORT 0 = m ∧
        u.tjl.exch = (s.tjl.exch + 1) % 2 ^ 16 ∧ u.tjl.t1 = u.clusterTime ∧ u.now = s.after (s.tjl.exchAt + s.rd TJL_TB_CFG.PERIOD 0 * 100000))) ∧
    (s.rd SYS_TB_STAT.FOLLOW 0 = 0 → Completes .tsExchange s (SameBut [] s))

/-! ### Host ports (14_host_ports.md) -/

/-- R347, R351, R352, R369: a port's states. PERST or a hot reset, or DOWN_MS in DL_Down, fails it: its OPEN pages are INVALID, and each semaphore it holds passes to the other port where that is UP and is
FREE otherwise. DL_Down alone fails nothing, and a link that recovers is UP. A link that trains makes the port UP with its functions reset; its configuration requests are retried until the functions are ready. -/
def Obligations.HostPortsFailAndReturn : Prop :=
  ∀ (s : State) (x : Port) (pf : Fin 5) (rate : Fin 3) (width : Fin 17) (flit : Bool) (t : Nat),
    let st := s.rd HPT_PORT.STATE x.val
    let fail := [Comp.regs, .hosts, .pages, .logs, .out, .side]
    let failed : State → Prop := fun u => u.rd HPT_PORT.STATE x.val = 3 ∧ NewestLog 1 (0x80 + x.val) u ∧
      u.rd (if x.val = 0 then HPT_EVT.HPA_FAILED else HPT_EVT.HPB_FAILED) 0 = 1 ∧
      (∀ e ∈ s.mem.pages, e.2.writer = .port x.val → e.2.st = .opened → (u.page e.1).st ≠ .opened) ∧
      ∀ n, n < 16 → u.sem n = if (s.sem n).holder = x.val + 1 then
          ⟨if s.portUp (1 - x.val) = true then 2 - x.val else 0, ((s.sem n).gen + 1) % 65536, if s.portUp (1 - x.val) = true then u.now else 0, false⟩ else s.sem n
    (st ≠ 3 → Completes (.perstAssert x) s fun u => failed u ∧ u.rd HPT_PORT.PERST x.val = 1 ∧ u.now = s.now ∧ SameBut fail s u) ∧
    (st ≠ 3 → s.rd HPT_PORT.PERST x.val ≠ 1 → Completes (.hotReset x) s fun u => failed u ∧ u.now = s.now ∧ SameBut fail s u) ∧
    (st ≠ 3 → Store.get 0 s.hosts.down x.val = t + 1 → Completes (.portFailed x) s fun u => failed u ∧ u.now = s.after (t + s.rd HPT_CFG.DOWN_MS 0 * 1000000) ∧
      SameBut (.now :: .guard :: .dbg :: fail) s u) ∧
    (s.rd HPT_PORT.PERST x.val = 1 → Completes (.perstDeassert x) s fun u => u.rd HPT_PORT.PERST x.val = 0 ∧ u.rd HPT_PORT.STATE x.val = (if st = 3 then 3 else 1) ∧
      SameBut [.regs] s u) ∧
    (st = 2 → Completes (.dlDown x) s fun u => Store.get 0 u.hosts.down x.val = s.now + 1 ∧ u.portUp x.val = false ∧ u.hosts.sems = s.hosts.sems ∧ SameBut [.regs, .hosts] s u) ∧
    (Store.get 0 s.hosts.down x.val ≠ 0 → Completes (.dlUp x) s fun u => u.portUp x.val = true ∧ Store.get 0 u.hosts.down x.val = 0 ∧ u.hosts.sems = s.hosts.sems ∧
      RegsBut [(HPT_PORT.STATE, x.val)] s u ∧ SameBut [.regs, .hosts] s u) ∧
    (st = 1 ∨ st = 3 → s.edgeDead x.val = false → s.rd HPT_PORT.PERST x.val ≠ 1 → width.val ∈ [1, 2, 4, 8, 16] → Completes (.portUp x rate width flit) s fun u =>
      u.portUp x.val = true ∧ u.rd HPT_PORT.RATE x.val = rate.val + 4 ∧ u.rd HPT_PORT.WIDTH x.val = width.val ∧
      u.rd HPT_PORT.FLIT x.val = (if flit = true ∨ rate = 2 then 1 else 0) ∧ (∀ f, f < 5 → u.func x.val f = func0 ∧ u.func (1 - x.val) f = s.func (1 - x.val) f) ∧
      SameBut [.regs, .hosts, .out, .side] s u) ∧
    (st = 2 → Completes (.hostReady x) s (fun u => Store.get false u.hosts.ready x.val = true ∧ SameBut [.hosts] s u) ∧
      (Store.get false s.hosts.ready x.val = false → ∀ q, Completes (.configRequest x pf q) s fun u => Sent (.config x.val pf.val true 0) u ∧ SameBut [.out] s u) ∧
      (Store.get false s.hosts.ready x.val = true →
        Completes (.configRequest x pf .ids) s (fun u => Sent (.config x.val pf.val false ((0x4600 + pf.val) * 2 ^ 16 + 0x1F3C)) u ∧ SameBut [.out] s u) ∧
        ∀ d, Completes (.configRequest x pf (.power (some d))) s fun u => u.func x.val pf.val = { s.func x.val pf.val with d3 := d } ∧
          Sent (.config x.val pf.val false (if d = true then 3 else 0)) u ∧ SameBut [.out, .hosts] s u))

/-- R353-R357: the staging window. A write reaches the bytes under its enables of a page that its port has OPEN, and nothing else; a read returns the bytes of a SEALED page, and a poisoned completion of 0xFF for
a page that is not. A seal of a page that its port has OPEN leaves it SEALED; a free of a SEALED page that its port wrote leaves it FREEING; each is answered with the count of its pages. -/
def Obligations.StagingWindowAccesses : Prop :=
  ∀ (s : State) (x : Port) (pf : Fin 5) (off : BitVec 36) (data : List (Option (BitVec 8))) (len : Fin 4097) (q : Part) (first count : BitVec 20) (dtype : Fin 16) (seq : BitVec 16)
      (p i k f : Nat),
    let o := off.toNat % 65536
    let byte : State → Nat → BitVec 8 := fun u j => ((u.word (tileWord (tileKey k (j / 16384)) (j % 16384 / 8))).data >>> (8 * (j % 8))).setWidth 8
    let answered : Nat → Nat → State → Prop := fun op n u => u.rd HPT_STG_STAT.SEQ q.val = seq.toNat ∧ u.rd HPT_STG_STAT.OP q.val = op ∧ u.rd HPT_STG_STAT.PORT q.val = x.val + 1 ∧
      u.rd HPT_STG_STAT.DONE q.val = n ∧ u.rd HPT_STG_STAT.RESULT q.val = 0
    (s.fnOn x.val pf.val = true → (pf.val = 0 → s.rd SEC_CTL.PF0_DATA 0 ≠ 0) → s.stgPage pf.val off.toNat = (p, some i) → s.open_ p = true →
      (s.dir p (s.rd HPT_STG_CFG.BASE p + i)).cur = some k →
      ((s.page k).st = .opened → (s.page k).writer = .port x.val → data.length ≤ 65536 - o → Completes (.bar4Write x pf off data) s fun u =>
        (∀ j, j < 65536 → byte u j = match (if o ≤ j then data[j - o]? else none) with
          | some (some b) => b
          | _ => byte s j) ∧
        (∀ w, w / 8192 ≠ k → u.word w = s.word w) ∧ (u.page k).st = .opened ∧ (∀ j, j ≠ k → u.page j = s.page j) ∧ SameBut [.words, .pages] s u) ∧
      ((s.page k).st = .opened → (s.page k).writer ≠ .port x.val → Completes (.bar4Write x pf off data) s fun u => NewestLog 3 2 u ∧ u.rd HPT_PEVT.STG_FAULT p = 1 ∧
        SameBut [.logs, .regs, .hosts, .out, .side] s u) ∧
      ((s.page k).st = .sealed → (∀ t, t < 4 → s.poisoned (tileKey k t) = false) → Completes (.bar4Read x pf off len) s fun u =>
        Sent (.completion x.val (s.getBytes k o (min len.val (65536 - o))) false) u ∧ SameBut [.out] s u) ∧
      ((s.page k).st = .opened → Completes (.bar4Read x pf off len) s fun u =>
        Sent (.completion x.val (List.replicate (min len.val (65536 - o)) 0xFF) true) u ∧ NewestLog 3 3 u ∧ u.rd HPT_PEVT.STG_FAULT p = 1 ∧
        SameBut [.logs, .regs, .hosts, .out, .side] s u)) ∧
    (s.hostOn (.host x pf) q.val = some (x.val, f) → count.toNat = 1 → first.toNat < s.rd HPT_STG_CFG.PAGES q.val →
      (s.dir q.val (s.rd HPT_STG_CFG.BASE q.val + first.toNat)).cur = some k → (s.page k).writer = .port x.val →
      (s.dupSeq (sealSrc x.val q.val) seq.toNat = false → dtype.val < 8 → (s.page k).st = .opened → Completes (.stagingSeal (.host x pf) q first count dtype seq) s fun u =>
        answered 0 1 u ∧ u.page k = { s.page k with st := .sealed, sealReq := false, sealer := 0 } ∧ (∀ j, j ≠ k → u.page j = s.page j) ∧
        (∀ t, t < 4 → bit (s.page k).written t = true → ∀ w, w < 2048 → u.word (tileWord (tileKey k t) w) = s.word (tileWord (tileKey k t) w)) ∧
        SameBut [.words, .hdrs, .pages, .regs, .hosts, .out] s u) ∧
      (s.dupSeq (freeSrc x.val q.val) seq.toNat = false → (s.page k).st = .sealed → Completes (.stagingFree (.host x pf) q first count seq) s fun u =>
        answered 1 1 u ∧ u.page k = { s.page k with st := .freeing } ∧ (∀ j, j ≠ k → u.page j = s.page j) ∧ SameBut [.pages, .regs, .hosts, .out] s u))

/-- R361, R365, R366: host semaphores. A claim takes a FREE semaphore with a new generation and starts its lease, and of one that the other port holds returns HELD; a release by its holder frees it; a handover gives it to the
other port where that is UP; anyone else's release or handover changes nothing, and a duplicate sequence changes only its DUP bit. A lease tells when a quarter is left, and frees its semaphore when it ends. -/
def Obligations.HostSemaphoresAndLeases : Prop :=
  ∀ (s : State) (x : Port) (pf : Fin 5) (n : Fin 16) (seq : BitVec 16),
    let v := s.sem n.val
    let r : Req := .host x pf
    let other : State → Prop := fun u => (∀ j, j ≠ n.val → u.sem j = s.sem j) ∧ u.hosts.msix = s.hosts.msix ∧ u.hosts.funcs = s.hosts.funcs ∧ SameBut [.hosts] s u
    let answer : Nat → Hsem → State → Prop := fun res w u => Store.get hsemReq0 u.hosts.semReq (x.val * 16 + n.val) = ⟨seq.toNat, false, res⟩ ∧ u.sem n.val = w ∧ other u
    let paused := n.val < 4 ∧ s.pst n.val = stSuspended
    let timed := [Comp.now, .regs, .guard, .dbg, .hosts, .out, .side]
    (s.fnOn x.val pf.val = true → pf.val = 0 ∨ pf.val = n.val + 1 →
      (s.dupSeq (semSrc x.val n.val) seq.toNat = false →
        (v.holder = 0 → Completes (.claim r n seq) s (answer 0 ⟨x.val + 1, (v.gen + 1) % 65536, s.now, false⟩)) ∧
        (v.holder = x.val + 1 → Completes (.claim r n seq) s (answer 0 { v with start := s.now, low := false }) ∧
          Completes (.release r n seq) s (answer 0 ⟨0, (v.gen + 1) % 65536, 0, false⟩) ∧
          (s.portUp (1 - x.val) = true → Completes (.handover r n seq) s (answer 0 ⟨2 - x.val, (v.gen + 1) % 65536, s.now, false⟩)) ∧
          (s.portUp (1 - x.val) = false → Completes (.handover r n seq) s (answer 5 v))) ∧
        (v.holder ≠ 0 → v.holder ≠ x.val + 1 → Completes (.claim r n seq) s (answer 1 v)) ∧
        (v.holder ≠ x.val + 1 → Completes (.release r n seq) s (answer 3 v) ∧ Completes (.handover r n seq) s (answer 3 v))) ∧
      (s.dupSeq (semSrc x.val n.val) seq.toNat = true → (Store.get hsemReq0 s.hosts.semReq (x.val * 16 + n.val)).seq = seq.toNat →
        ∀ c, c = .claim r n seq ∨ c = .release r n seq ∨ c = .handover r n seq → Completes c s fun u => u.sem n.val = v ∧ other u ∧
          (Store.get hsemReq0 u.hosts.semReq (x.val * 16 + n.val)).dup = true)) ∧
    (v.holder ≠ 0 → ¬paused →
      (v.low = false → Completes (.leaseLow n) s fun u => u.sem n.val = { v with low := true } ∧ u.now = s.after (v.start + s.leaseOf n.val * 3 / 4) ∧
        (n.val < 4 → u.rd HPT_PEVT.LEASE_LOW n.val = 1) ∧ SameBut timed s u) ∧
      Completes (.leaseExpired n) s fun u => u.sem n.val = ⟨0, (v.gen + 1) % 65536, 0, false⟩ ∧ u.now = s.after (v.start + s.leaseOf n.val) ∧
        (n.val < 4 → u.rd HPT_PEVT.LEASE_EXPIRED n.val = 1) ∧ SameBut timed s u) ∧
    (paused → ∀ c, c = .leaseLow n ∨ c = .leaseExpired n → Completes c s (SameBut [] s))

/-! ### Security (15_security.md) -/

/-- R372, R384-R388, with no guarded partition: a token that passes every check unlocks debug with its scope and capabilities for its lifetime; one that fails is answered with the first check it fails and counted, and
eight of them lock debug out. Either way its words are cleared. LOCK and the end of the lifetime take scope and capabilities away. A health test that fails sets ERROR. -/
def Obligations.DebugUnlocksAndExpires : Prop :=
  ∀ (s : State) (r : Req), s.dbgReq r = true → (∀ p, p < 4 → s.guarded p = false) →
    let t := s.token
    let ring := [Comp.regs, .sec, .fresh, .logs, .hosts, .out, .side]
    let locked : State → Prop := fun u => u.rd SEC_DBG_STAT.UNLOCKED 0 = 0 ∧ u.rd SEC_DBG_STAT.SCOPE 0 = 0 ∧ u.rd SEC_DBG_STAT.CAPS 0 = 0 ∧ u.rd SEC_STAT.DBG 0 = 0 ∧
      u.rd DBG_TR_STAT.ACTIVE 0 ≠ 1 ∧ NewestLog 0x0B 0x81 u
    let spent : State → Prop := fun u => ∀ i, i < 80 → u.rd SEC_DBG_TOKEN.WORD i = 0
    (s.rd SEC_DBG_STAT.LOCKOUT 0 ≠ 1 → s.rd SEC_DBG_STAT.FAILS 0 < 8 → Completes (.unlock r) s fun u => spent u ∧ u.rd SEC_DBG_STAT.RESULT 0 = s.tokenCheck ∧
      if s.tokenCheck = 0 then
        u.rd SEC_DBG_STAT.UNLOCKED 0 = 1 ∧ u.rd SEC_DBG_STAT.SCOPE 0 = t.getD 44 0 ∧ u.rd SEC_DBG_STAT.CAPS 0 = t.getD 45 0 ∧
          u.sec.ends = s.now + ofBytes (slice t 46 48) * 60000000000 ∧ u.rd SEC_STAT.DBG 0 = 1 ∧ NewestLog 0x0B 0x81 u ∧ SameBut ring s u
      else u.rd SEC_DBG_STAT.FAILS 0 = s.rd SEC_DBG_STAT.FAILS 0 + 1 ∧ (s.rd SEC_DBG_STAT.FAILS 0 = 7 → u.rd SEC_DBG_STAT.LOCKOUT 0 = 1) ∧
        u.rd SEC_DBG_STAT.UNLOCKED 0 = s.rd SEC_DBG_STAT.UNLOCKED 0 ∧ SameBut [.regs, .sec, .fresh] s u) ∧
    (s.rd SEC_DBG_STAT.LOCKOUT 0 = 1 → Completes (.unlock r) s fun u => u.rd SEC_DBG_STAT.RESULT 0 = 7 ∧
      u.rd SEC_DBG_STAT.UNLOCKED 0 = s.rd SEC_DBG_STAT.UNLOCKED 0 ∧ spent u ∧ SameBut [.regs, .sec, .fresh] s u) ∧
    (s.rd SEC_DBG_STAT.UNLOCKED 0 = 1 → Completes (.lock r) s (fun u => locked u ∧ SameBut [.regs, .logs, .hosts, .out, .side] s u) ∧
      Completes .debugExpiry s fun u => locked u ∧ u.now = s.after s.sec.ends ∧ SameBut [.now, .guard, .dbg, .regs, .logs, .hosts, .out, .side] s u) ∧
    (s.rd SEC_DBG_STAT.UNLOCKED 0 = 0 → Completes (.lock r) s (SameBut [] s) ∧ Completes .debugExpiry s (SameBut [] s)) ∧
    Completes .entropyHealthFail s fun u => u.rd SEC_STAT.ERROR 0 = 1 ∧ u.rd SEC_EVT.HEALTH 0 = 1 ∧ NewestLog 0x0B 0x82 u ∧
      RegsBut [(SEC_STAT.ERROR, 0), (SEC_EVT.HEALTH, 0)] s u ∧ SameBut [.regs, .logs, .hosts, .out, .side] s u

/-- R389, R390: zeroization. ZERO through PF0 of the port of an ARM within 1 ms, and each tamper input that is enabled, clear cores, local memory, T1, the pool memories, keys and logs, leave T2 and the repository as they are, leave every partition OFF and
keep their trigger; PERMANENT blows the fuse. Outside their conditions they change nothing. -/
def Obligations.ZeroizationClearsEverything : Prop :=
  ∀ (s : State) (x y : Port) (t : Nat) (perm : Bool),
    let r : Req := .host x 0
    let cleared : State → Prop := fun u => u.pending = s.pending ∧ u.cores = State.reset.cores ∧ u.sync = State.reset.sync ∧ u.ledger = State.reset.ledger ∧
      u.sec = State.reset.sec ∧ u.logs = State.reset.logs ∧ u.parts = State.reset.parts ∧ u.mem.pages = [] ∧ u.mem.dir = [] ∧
      (∀ w, pageTier (w / 8192) ≠ 2 → pageTier (w / 8192) ≠ 3 → u.word w = word0) ∧
      (∀ w, pageTier (w / 8192) = 2 ∨ pageTier (w / 8192) = 3 → u.word w = s.word w) ∧ ∀ p, p < 4 → u.pst p = stOff
    (s.fnOn x.val 0 = true → Completes (.arm r) s fun u => u.sec = { s.sec with arm := some (x.val, s.now) } ∧ SameBut [.sec] s u) ∧
    (s.sec.arm = some (y.val, t) →
      (s.fnOn x.val 0 = true → x = y → s.now ≤ t + 1000000 → Completes (.zero r perm) s fun u => cleared u ∧ u.rd SEC_RST_CAUSE.CMD 0 = 1 ∧
        u.rd SEC_STAT.ZEROIZED 0 = if perm = true then 1 else s.rd SEC_STAT.ZEROIZED 0) ∧
      (t + 1000000 < s.now ∨ x ≠ y → Completes (.zero r perm) s (SameBut [] s))) ∧
    (s.sec.arm = none → Completes (.zero r perm) s (SameBut [] s)) ∧
    (s.rd SEC_TAMP_EN.PIN 0 = 1 → Completes .tamper s fun u => cleared u ∧ u.rd SEC_RST_CAUSE.PIN 0 = 1) ∧
    (s.rd SEC_TAMP_EN.VOLT 0 = 1 → Completes .supplyTamper s fun u => cleared u ∧ u.rd SEC_RST_CAUSE.VOLT 0 = 1) ∧
    (s.rd SEC_TAMP_EN.TEMP 0 = 1 → Completes .tempTamper s fun u => cleared u ∧ u.rd SEC_RST_CAUSE.TEMP 0 = 1) ∧
    (s.rd SEC_TAMP_EN.PIN 0 ≠ 1 → Completes .tamper s (SameBut [] s)) ∧ (s.rd SEC_TAMP_EN.VOLT 0 ≠ 1 → Completes .supplyTamper s (SameBut [] s)) ∧
    (s.rd SEC_TAMP_EN.TEMP 0 ≠ 1 → Completes .tempTamper s (SameBut [] s))

/-! ### Start-up (16_image_startup.md) -/

/-- R405-R409, R33, R38: the work of a phase, done in its phase and while no partition is formed, ends the phase: its end tick is recorded and the next phase is in progress. Link groups are selected, supplies come to
0.80 V and units that fail are failed, the cores that two rounds of neighbour tests do not map out are counted and mapped, and a flash die that trains is taken into service. The self-check of a pair leaves it OK or FAILED; COMPLETE sets DONE. -/
def Obligations.StartupPhasesEndInOrder : Prop :=
  ∀ (s : State) (fails : List (Crossing × BitVec 10)) (badF : BitVec 64) (badT : BitVec 256) (r1 r2 : List (FieldId × Fin 160 × Fin 4)) (d : FlashDie) (trained empty : BitVec 16) (mirrors : BitVec 2)
      (mts : BitVec 12) (targets : List (BitVec 8)) (pages : BitVec 14) (segments : BitVec 18) (p : Part) (ok : Bool),
    let ended : Nat → State → Prop := fun k u => u.rd SYS_BOOT_STAT.PHASE 0 = k + 1 ∧ u.rd SYS_BOOT_PH.TICK k = s.now % 2 ^ 64
    let ph : Nat → List (Field × Nat) := fun k => [(SYS_BOOT_STAT.PHASE, 0), (SYS_BOOT_PH.TICK, k)]
    let told := [Comp.regs, .out, .hosts, .logs, .side]
    (s.wafer.running = false → s.phase = 0 →
      Completes .tbLock s (fun u => ended 0 u ∧ u.wafer = { s.wafer with running := true, leaf := [] } ∧ RegsBut (ph 0) s u ∧ SameBut [.regs, .wafer] s u) ∧
      Completes .tbLockTimeout s (fun u => ended 0 u ∧ u.wafer = { s.wafer with running := true, leaf := [] } ∧ u.rd SYS_TB_STAT.HOLDOVER 0 = 1 ∧
        (s.rd SYS_TB_STAT.HOLDOVER 0 ≠ 1 → u.rd SYS_TB_STAT.REF_BAD 0 = 1 ∧ NewestLog 0 0x13 u) ∧ SameBut (.wafer :: told) s u)) ∧
    (s.inPhase 1 = true → s.rd SEC_STAT.ERROR 0 ≠ 1 → s.rd SEC_STAT.ZEROIZED 0 ≠ 1 →
      Completes (.secmon true) s (fun u => ended 1 u ∧ u.rd SEC_STAT.READY 0 = 1 ∧ u.rd SEC_STAT.KAT_OK 0 = 1 ∧ u.sec = { s.sec with used := false } ∧
        RegsBut ((SEC_STAT.READY, 0) :: (SEC_STAT.KAT_OK, 0) :: (SEC_DBG_NONCE.NONCE, 0) :: ph 1) s u ∧ SameBut [.regs, .sec, .fresh] s u) ∧
      Completes (.secmon false) s fun u => u.rd SEC_STAT.ERROR 0 = 1 ∧ RegsBut [(SEC_STAT.ERROR, 0)] s u ∧ SameBut [.regs] s u) ∧
    (s.unformed →
      (let bad : Nat → Nat := fun x => ((fails.find? fun e => e.1.val = x).map fun e => e.2.toNat).getD 0
       let good : Nat → List Nat := fun x => (List.range 10).filter fun g => !bit (bad x) g
       s.inPhase 2 = true → Completes (.xing fails) s fun u => ended 2 u ∧ ((∀ x, 112 ≤ x → x < 140 → good x ≠ []) →
        (∀ x, x < 140 → u.rd SYS_XING.FAILED x = bad x ∧ u.rd SYS_XING.SPARES x = (good x).length - 8 ∧ u.rd SYS_XING.DEGRADED x = (if (good x).length < 8 then 1 else 0) ∧
          (∀ g, g < 10 → (bit (u.rd SYS_XING.USED x) g = true ↔ g ∈ (good x).take 8)) ∧ (good x = [] → u.rd SYS_XING.LOST x = 1)) ∧
        (∀ f i, f.id ≠ PAR_FFAIL.FIELDS.id → (∀ x, x < 140 → ∀ g ∈ SYS_XING.fields, f.id ≠ g.id ∨ i ≠ x) → (∀ y ∈ ph 2, regKey f i ≠ regKey y.1 y.2) → i < 2 ^ 32 → u.rd f i = s.rd f i) ∧
        SameBut (.wafer :: told) s u)) ∧
      (s.inPhase 3 = true → Completes (.memory badF badT) s fun u => ended 3 u ∧
        (∀ f, f < 64 → u.rd SYS_FPACE.MV f = (if Store.get false s.wafer.latched f = true then 0 else 800) ∧ (badF.getLsbD f = true ∨ Store.get false s.wafer.latched f = true → u.fieldFailed f = true) ∧
          ((∀ w, w < 4 → u.towerFailed f w = true) → u.fieldFailed f = true)) ∧
        (∀ f w, f < 64 → w < 4 → badT.getLsbD (f * 4 + w) = true → u.towerFailed f w = true) ∧
        (∀ k, (u.word k).data = (s.word k).data ∧ (u.word k).full = (s.word k).full) ∧ (badT = 0 → u.mem.words = s.mem.words) ∧ SameBut (.words :: told) s u) ∧
      (s.inPhase 4 = true → Completes (.ntest r1 r2) s fun u => ended 4 u ∧
        (∀ f y, f < 64 → y < 160 → Store.get false u.wafer.bad (f * 160 + y) = mappedOut r1 r2 f y) ∧ u.wafer.cmap = s.wafer.cmap ∧ RegsBut (ph 4) s u ∧ SameBut (.wafer :: told) s u) ∧
      (let good : Nat → List Nat := fun f => (List.range 160).filter fun y => !Store.get false s.wafer.bad (f * 160 + y)
       s.inPhase 5 = true → Completes .map s fun u => ended 5 u ∧
        (∀ f, f < 64 → u.rd SYS_FSTAT.GOOD f = (good f).length ∧ u.rd SYS_FSTAT.SPARES f = (good f).length - 152 ∧
          (∀ m y, m < 152 → (good f)[m]? = some y → Store.get 0 u.wafer.cmap (coreKey f m) = y + 1) ∧
          ((good f).length < 152 → u.rd SYS_FSTAT.SHORT f = 1 ∧ u.fieldFailed f = true)) ∧
        u.wafer.bad = s.wafer.bad ∧ u.wafer.govAt = s.now + s.rd SYS_PACE_CTL.PERIOD 0 * 10000 ∧ SameBut (.wafer :: told) s u)) ∧
    (9 ≤ s.phase → s.rd SYS_BOOT_STAT.FAILED 0 ≠ 1 → s.rd SYS_BOOT_STAT.DONE 0 ≠ 1 → Store.get false s.boot.flash d.val = false → s.edgeDead (2 + d.val) = false → s.flashOwner d.val = none →
      (1024 ≤ pages.toNat → pages.toNat ≤ 8192 → segments.toNat ≤ 131072 → Completes (.flash d true trained empty mirrors mts targets pages segments) s fun u =>
        Store.get false u.boot.flash d.val = true ∧ Store.get 0 u.repo.segPages d.val = pages.toNat ∧ Store.get 0 u.repo.segCount d.val = segments.toNat ∧
        u.rd REPO_DIE.MTS d.val = min 2400 mts.toNat ∧ u.repo.vols = s.repo.vols ∧
        (∀ k, k < 16 → u.rd REPO_CH.TARGETS (d.val * 16 + k) = (targets.getD k 0).toNat ∧ u.rd REPO_CH.STATE (d.val * 16 + k) =
          (if trained.getLsbD k = false then 2 else if empty.getLsbD k = true ∨ d.val * 16 + k ∈ s.repo.failed then 3 else 0)) ∧
        (mirrors = 0 → u.rd REPO_DIE.STATE d.val = 2) ∧ SameBut (.boot :: .repo :: told) s u) ∧
      Completes (.flash d false trained empty mirrors mts targets pages segments) s fun u => Store.get false u.boot.flash d.val = true ∧ u.rd REPO_DIE.STATE d.val = 3 ∧
        (∀ k, k < 16 → u.rd REPO_CH.STATE (d.val * 16 + k) = 4) ∧ SameBut [.regs, .boot] s u) ∧
    (2 ≤ s.phase → s.rd (ckField p.val) 0 = 0 → Completes (.ckSelfCheck p ok) s fun u => u.rd (ckField p.val) 0 = (if ok = true then 1 else 2) ∧
      RegsBut [(ckField p.val, 0)] s u ∧ SameBut [.regs] s u) ∧
    (s.inPhase 12 = true → s.flashAll = true → (∀ q, q < 4 → s.cols q ≠ 0 → stAdmitted ≤ s.pst q) → Completes .complete s fun u => u.rd SYS_BOOT_STAT.DONE 0 = 1 ∧
      u.rd SYS_BOOT_PH.TICK 12 = s.now % 2 ^ 64 ∧ NewestLog 0 0x20 u ∧ (s.rd SEC_IMG.SVN 0 < 128 → s.rd SEC_IMG.SVN 0 ≤ u.rd SEC_IMG.SVN 0) ∧ SameBut told s u)

/-- R410-R413, R375: slots. Of the candidates FORCE names the first, else IMAGE_SEQ, slot A on a tie. One that passes checks 1-4 is verified next; one that is refused leaves its cause, and the other is tried in fallback; with
none left start-up is FAILED. A device section in order is applied, and each partition's section is loaded or stops the partition with IMG_BAD; a read that times out refuses the slot, or stops the partition. -/
def Obligations.SlotsAreTriedAndSectionsLoad : Prop :=
  ∀ (s : State) (modeA modeB : Fin 4) (capA capB : BitVec 32) (x : Nat) (p : Part) (e : SectEnt) (y : Section),
    let a := s.onBoot fun b => { b with caps := Store.set 0 (Store.set 0 b.caps 0 (if modeA = 0 then 0 else capA.toNat)) 1 (if modeB = 0 then 0 else capB.toNat) }
    let told := [Comp.regs, .out, .hosts, .logs, .boot, .side]
    let refused : Nat → State → Prop := fun k u => u.rd (causeField x) 0 = k ∧ u.boot.slot = 0 ∧ u.rd SYS_BOOT_STAT.PHASE 0 = 6 ∧ u.boot.refused = x :: s.boot.refused ∧ u.boot.bytes = s.boot.bytes ∧
      (if s.candidate (1 - x) = true then u.rd SYS_BOOT_STAT.FALLBACK 0 = 1 ∧ u.rd SYS_BOOT_STAT.FAILED 0 = s.rd SYS_BOOT_STAT.FAILED 0 else u.rd SYS_BOOT_STAT.FAILED 0 = 1 ∧ NewestLog 0 0x21 u) ∧
      SameBut told s u
    let sel := Instr.select modeA modeB capA capB false false
    let verifies : Nat → State → Prop := fun k u => u.boot.slot = k + 1 ∧ u.rd SYS_BOOT_STAT.PHASE 0 = 7 ∧ u.rd SYS_BOOT_NEXT.FORCE 0 = 0 ∧ u.rd SYS_BOOT_PH.TICK 6 = s.now % 2 ^ 64
    (s.inPhase 6 = true → s.rd SEC_STAT.ERROR 0 ≠ 1 →
      (a.nextSlot = none → Completes sel s fun u => u.rd SYS_BOOT_STAT.FAILED 0 = 1 ∧ u.rd SYS_BOOT_STAT.MODE_A 0 = modeA.val ∧ u.rd SYS_BOOT_STAT.MODE_B 0 = modeB.val ∧
        NewestLog 0 0x21 u ∧ u.rd SBM_ALERT_SRC.BOOT 0 = 1 ∧ SameBut told s u) ∧
      (a.nextSlot = some x → Completes sel s fun u => SameBut told s u ∧ u.boot.bytes = s.boot.bytes ∧
        if a.headCause x = 0 then verifies x u
        else u.rd (causeField x) 0 = a.headCause x ∧ (if a.candidate (1 - x) = true ∧ a.headCause (1 - x) = 0 then verifies (1 - x) u ∧ u.rd SYS_BOOT_STAT.FALLBACK 0 = 1
          else u.rd SYS_BOOT_STAT.FAILED 0 = 1 ∧ u.boot.slot = 0))) ∧
    (s.boot.slot = x + 1 → x < 2 →
      (s.inPhase 7 = true → Completes .verify s fun u =>
        if s.verifyCause x = 0 then u.rd SYS_BOOT_STAT.PHASE 0 = 8 ∧ u.rd SYS_BOOT_PH.TICK 7 = s.now % 2 ^ 64 ∧
          RegsBut [(SYS_BOOT_STAT.PHASE, 0), (SYS_BOOT_PH.TICK, 7)] s u ∧ SameBut [.regs] s u
        else refused (s.verifyCause x % 16) u) ∧
      (s.inPhase 8 = true → (s.table x).find? (fun e => decide (e.typ = 1)) = some e → Completes .device s fun u =>
        match (if s.digestOk x e = true then devSection (s.nvm x e.off e.len) else .inl 7) with
        | .inl c => refused (c % 16) u
        | .inr d => u.rd SYS_BOOT_STAT.PHASE 0 = 10 ∧ u.rd SYS_BOOT_PH.TICK 8 = s.now % 2 ^ 64 ∧
          u.rd SYS_BOOT_STAT.SLOT 0 = x + 1 ∧ u.parts = { s.parts with dev := some d } ∧ u.boot = { s.boot with table := s.table x, deviceAt := s.now } ∧
          (d.devset = [] → ∀ q, q < 4 → u.cols q = d.cols.getD q 0 % 256) ∧ SameBut (.tjl :: .parts :: .repo :: told) s u) ∧
      (s.inPhase 7 = true ∨ s.inPhase 8 = true → Completes (.nvmReadTimeout none) s (refused 10))) ∧
    (s.inPhase 6 = true → s.nextSlot = some x → Completes (.nvmReadTimeout none) s fun u => u.rd (causeField x) 0 = 10 ∧ x ∈ u.boot.refused ∧ u.rd SYS_BOOT_NEXT.FORCE 0 = 0 ∧ SameBut told s u) ∧
    (let bad : State → Prop := fun u => u.pst p.val = stStopped ∧ u.rd PAR_STATE.CAUSE p.val = 7 ∧ u.parts.sect = s.parts.sect ∧ SameBut (.parts :: .repo :: told) s u
     let good : Section → SectEnt → State → Prop := fun y e u => u.pst p.val = stLoading ∧ u.sect p.val = some y ∧ (u.part p.val).loaded = true ∧ (u.part p.val).digest = e.digest ∧ (∀ q, q ≠ p.val → u.part q = s.part q ∧ u.sect q = s.sect q)
     (s.firstLoad p.val = true →
        Completes (.nvmReadTimeout (some p)) s (fun u => bad u ∧ p.val ∈ u.boot.loads) ∧
        (s.wafer.down = false → s.rd SEC_STAT.ERROR 0 ≠ 1 → Completes (.load p true) s fun u => p.val ∈ u.boot.loads ∧
          match s.readSection p.val with
          | none => bad u
          | some (y, e) => if s.sectionOk p.val e.len y = true then good y e u ∧ u.boot.loads = s.boot.loads ++ [p.val] ∧ SameBut [.regs, .hosts, .parts, .boot] s u else bad u)) ∧
     (s.inPhase 10 = false → s.pst p.val = stLoading → (s.part p.val).loaded = false →
        Completes (.nvmReadTimeout (some p)) s bad ∧
        (s.readSection p.val = none → Store.get none s.parts.copy p.val = none → Completes (.load p true) s bad) ∧
        (s.loadSource p.val true = some (y, e) → s.wafer.down = false → s.rd SEC_STAT.ERROR 0 ≠ 1 → s.sectionOk p.val e.len y = true →
          Completes (.load p true) s fun u => good y e u ∧ SameBut [.hosts, .parts] s u)))

/-- R418, R417, R361, R561, R562: a device reset, at PWR_GOOD or at a write of SYS_RESET through PF0, restarts start-up: nothing of the partitions, the threads, the sync objects and the Ledgers is left, the configuration
NVM, the repository and the fuses stand, and T2 stands where power was not lost. A slot-update command of the port that holds semaphore 4 is queued PENDING; the one in progress erases its sector, programs its 4 KiB or fills the buffer, and is answered OK. -/
def Obligations.ResetsAndSlotUpdates : Prop :=
  ∀ (s : State) (x : Port) (pf : Fin 5) (maddr : Fin 4) (seq : BitVec 16) (c : NvmCmd) (l : List NvmCmd) (op : Fin 3),
    let r : Req := .host x 0
    let cleared : State → Prop := fun u => u.pending = s.pending ∧ u.now = 0 ∧ u.cores = State.reset.cores ∧ u.sync = State.reset.sync ∧ u.ledger = State.reset.ledger ∧ u.replay = State.reset.replay ∧
      u.hosts = State.reset.hosts ∧ u.logs = State.reset.logs ∧ u.parts = State.reset.parts ∧ u.sec = State.reset.sec ∧ u.mem.pages = [] ∧ u.mem.dir = [] ∧ u.phase = 0 ∧ u.wafer.running = false ∧
      (∀ p, p < 4 → u.pst p = stOff) ∧ (∀ f ∈ [SEC_IMG.SVN, SEC_IMG.REVOKED, SEC_STAT.EVAL, SEC_STAT.ZEROIZED], u.rd f 0 = s.rd f 0) ∧ (s.boot.cmd = [] → u.boot.bytes = s.boot.bytes) ∧ u.repo.map = s.repo.map
    let warm : State → Prop := fun u => (∀ w, u.word w = if pageTier (w / 8192) = 2 ∨ pageTier (w / 8192) = 3 then s.word w else word0) ∧ u.wafer.latched = s.wafer.latched ∧ u.rd SYS_BOOT_NEXT.FORCE 0 = s.rd SYS_BOOT_NEXT.FORCE 0 ∧
      u.rd SEC_RST_CAUSE.CMD 0 = s.rd SEC_RST_CAUSE.CMD 0
    let k := s.nvmSlot - 1
    let cmd : Instr := if op = 0 then .nvmErase r seq else if op = 1 then .nvmProgram r seq else .nvmRead r seq
    let unit := if op = 0 then 65536 else 4096
    let shown : Nat → State → Prop := fun res u => u.rd SYS_NVM_STAT.SEQ 0 = seq.toNat ∧ u.rd SYS_NVM_STAT.RESULT 0 = res ∧ RegsBut [(SYS_NVM_STAT.SEQ, 0), (SYS_NVM_STAT.RESULT, 0)] s u
    let a := c.slot * 2 ^ 29 + c.addr
    Completes (.pwrGood false maddr) s (fun u => cleared u ∧ warm u ∧ u.side.maddr = maddr.val) ∧
    Completes (.pwrGood true maddr) s (fun u => cleared u ∧ (∀ w, u.word w = if pageTier (w / 8192) = 3 then s.word w else word0) ∧ u.wafer.latched = [] ∧ u.rd SYS_BOOT_NEXT.FORCE 0 = 0 ∧ u.rd SEC_RST_CAUSE.CMD 0 = 0 ∧ u.side.maddr = maddr.val) ∧
    Completes .pwrGoodLow s (fun u => cleared u ∧ warm u) ∧
    (s.fnOn x.val 0 = true → Completes (.sysReset r) s fun u => cleared u ∧ warm u) ∧
    (pf ≠ 0 → Completes (.sysReset (.host x pf)) s (SameBut [] s)) ∧
    (s.fnOn x.val 0 = true → s.dupSeq (nvmSrc x.val) seq.toNat = false →
      ((s.sem 4).holder = x.val + 1 → s.rd SYS_BOOT_STAT.DONE 0 ≠ 0 ∨ s.rd SYS_BOOT_STAT.FAILED 0 ≠ 0 → op = 2 ∨ s.nvmSlot ≠ s.rd SYS_BOOT_STAT.SLOT 0 → s.nvmSlot = 1 ∨ s.nvmSlot = 2 →
        s.nvmAddr % unit = 0 → s.nvmAddr + unit ≤ s.cap k → Completes cmd s fun u => shown 1 u ∧ u.boot = { s.boot with cmd := s.boot.cmd ++ [⟨op.val + 1, k, s.nvmAddr, x.val, 0, seq.toNat⟩] } ∧
          SameBut [.regs, .hosts, .boot] s u) ∧
      ((s.sem 4).holder ≠ x.val + 1 → Completes cmd s fun u => shown 3 u ∧ SameBut [.regs, .hosts, .out] s u) ∧
      ((s.sem 4).holder = x.val + 1 → s.rd SYS_BOOT_STAT.DONE 0 = 0 → s.rd SYS_BOOT_STAT.FAILED 0 = 0 → Completes cmd s fun u => shown 7 u ∧ SameBut [.regs, .hosts, .out] s u)) ∧
    (s.boot.cmd = c :: l → s.rd SYS_NVM_STAT.SEQ 0 = c.seq → Completes (.nvmCmdDone true) s fun u => u.boot.cmd = l ∧ (l = [] → u.rd SYS_NVM_STAT.RESULT 0 = 0) ∧
      (∀ i, Store.get 255 u.boot.bytes i = if c.op = 1 ∧ a ≤ i ∧ i < a + 65536 then 255 else if c.op = 2 ∧ a ≤ i ∧ i < a + 4096 then
        s.rd SYS_NVM_BUF.WORD ((i - a) / 4) / 256 ^ ((i - a) % 4) % 256 else Store.get 255 s.boot.bytes i) ∧
      (c.op = 3 → ∀ i, i < 1024 → u.rd SYS_NVM_BUF.WORD i = ofBytes (s.nvm c.slot (c.addr + 4 * i) 4) % 2 ^ 32) ∧ SameBut [.regs, .hosts, .out, .boot] s u) ∧
    (s.boot.cmd = c :: l → s.rd SYS_NVM_STAT.SEQ 0 = c.seq → Completes (.nvmCmdDone false) s fun u => u.boot.cmd = l ∧ (l = [] → u.rd SYS_NVM_STAT.RESULT 0 = 6) ∧
      (c.op = 3 → u.boot.bytes = s.boot.bytes) ∧ SameBut [.regs, .hosts, .out, .boot, .fresh] s u)

/-! ### Guarded inference (17_guard_checker.md, 18_guard_timing.md) -/

/-- R427-R429, R432-R435, R439, R451-R455: the frames of a guarded partition that runs. A tapped item joins the frame that its TAG names, or marks TAG_ERR; a judgement within its interface and budget is kept for its frame, another makes the partition SAFE, as does
one that never comes. A verdict takes the next RSEQ, writes its record and closes the frame. An age limit, a window and a budget present their cause; a report that is not the stage's next kick makes the partition SAFE. -/
def Obligations.GuardedFramesAreJudged : Prop :=
  ∀ (s : State) (p : Part) (crcOk room : Bool) (verdict : BitVec 8) (ritem : BitVec 16) (checks : BitVec 32) (rlen : BitVec 16) (susp : List (BitVec 16)) (k : Fin 4) (st : Fin 16) (i : Fin 64)
      (t : Tap) (f : Frame) (r : List Frame) (c : Checker) (j : Judged) (w : Window) (x : WatchRep) (task : GTask),
    let hold := [Comp.out, .fresh, .regs, .words, .hdrs, .pages, .dir, .flips, .threads, .owed, .sregs, .engines, .sync, .ledger, .replay, .hosts, .logs, .guard, .parts, .dbg, .side]
    let safe : Nat → State → Prop := fun n u => u.pst p.val = stSafe ∧ bit (u.rd GRD_SAFE.CAUSES p.val) n = true ∧ (s.rd GRD_SAFE.FIRST p.val = 0 → u.rd GRD_SAFE.FIRST p.val = n) ∧
      NewestLog 0x0A 0x83 u ∧ u.rd GRD_EVT.SAFE p.val = 1 ∧ (u.part p.val).frozen = true
    let timed : Nat → State → Prop := fun n u => u.now = s.after n ∧ SameBut [.out, .now, .regs, .hosts, .guard, .dbg, .side] s u
    let marked : Nat → Nat → List Frame := fun n cause => (s.frames p.val).map fun g => if g.num = n then present cause g else g
    s.running p.val = true → s.guarded p.val = true →
    (s.guard.taps.find? (fun t => decide (t.part = p.val)) = some t →
      let kind := (((s.checker p.val).bind fun k => k.points[t.wp]?).map (·.kind)).getD 0
      let took : State → Prop := fun u => u.guard.taps = s.guard.taps.erase t ∧ u.guard.tests = s.guard.tests ∧ SameBut [.out, .regs, .hosts, .guard, .dbg, .side] s u
      (room = false → kind = 1 ∨ kind = 3 → Completes (.tapItem p crcOk room) s (SameBut [] s)) ∧
      (room = false → kind ≠ 1 → kind ≠ 3 → Completes (.tapItem p crcOk room) s fun u => u.rd GRD_EVT.TAP_DROP p.val = 1 ∧
        u.frames p.val = (s.frames p.val).map (fun g => if g.num = hTag t.hdr then { g with dropped := min 0xFFFF (g.dropped + 1) } else g) ∧ took u) ∧
      (room = true → crcOk = true → (∃ g ∈ s.frames p.val, g.num = hTag t.hdr) → Completes (.tapItem p crcOk room) s fun u => took u ∧
        (u.frames p.val).map (fun g => (g.num, g.mark, g.items)) = (s.frames p.val).map fun g => (g.num, g.mark, if g.num = hTag t.hdr then g.items ++ [⟨t.wp, t.hdr, t.data⟩] else g.items)) ∧
      (room = true → crcOk = true → (∀ g ∈ s.frames p.val, g.num ≠ hTag t.hdr) → Completes (.tapItem p crcOk room) s fun u => took u ∧ u.rd GRD_EVT.TAG_ERR p.val = 1 ∧
        match s.frames p.val with
        | [] => Store.get 0 u.guard.marks p.val = if Store.get 0 s.guard.marks p.val = 0 then 3 else Store.get 0 s.guard.marks p.val
        | g :: q => u.frames p.val = present 3 g :: q) ∧
      (room = true → crcOk = false → (∃ g ∈ s.frames p.val, g.num = hTag t.hdr) → Completes (.tapItem p crcOk room) s fun u => took u ∧ u.rd GRD_EVT.TAP_ERR p.val = 1 ∧
        u.frames p.val = marked (hTag t.hdr) 4)) ∧
    (s.frames p.val = f :: r →
      (f.called ≠ 0 → f.judged = none →
        (s.checker p.val = some c → j = ⟨verdict.toNat, ritem.toNat, checks.toNat, rlen.toNat, susp.map (·.toNat)⟩ →
          (s.now - (f.called - 1) ≤ s.judgeBudget p.val → judgeOk c f j = true → Completes (.judgeReturn p verdict ritem checks rlen susp) s fun u => u.rd GRD_CK_STAT.STATE p.val = 0 ∧
            u.frames p.val = (if f.mark = 0 then { f with judged := some j } else f) :: r ∧ SameBut [.regs, .guard, .dbg] s u) ∧
          (s.now - (f.called - 1) ≤ s.judgeBudget p.val → judgeOk c f j = false → Completes (.judgeReturn p verdict ritem checks rlen susp) s fun u => safe 3 u ∧ SameBut hold s u) ∧
          (s.judgeBudget p.val < s.now - (f.called - 1) → Completes (.judgeReturn p verdict ritem checks rlen susp) s fun u => safe 4 u ∧ SameBut hold s u)) ∧
        (s.rd GRD_CK_STAT.STATE p.val = 1 → Completes (.chkTime p) s fun u => safe 4 u ∧ u.now = s.after (f.called - 1 + s.judgeBudget p.val + 1) ∧ SameBut (.now :: hold) s u)) ∧
      (let committed : Nat → State → Prop := fun v u => u.running p.val = true ∧ u.rd GRD_VR_HEAD.RSEQ p.val = (s.rd GRD_VR_HEAD.RSEQ p.val + 1) % 2 ^ 32 ∧ u.rd GRD_JUDGED.FRAME p.val = f.num % 2 ^ 32 ∧
         (u.frames p.val).map (·.num) = (r.map (·.num)).filter (· ≠ f.num) ∧
         (let rec_ := Store.get 0 u.guard.records (p.val * 256 + (s.rd GRD_VR_HEAD.RSEQ p.val + 1) % 256)
          rec_ % 2 ^ 16 = 0x7EC4 ∧ rec_ / 2 ^ 24 % 256 = p.val + 4 * v ∧ rec_ / 2 ^ 64 % 2 ^ 32 = (s.rd GRD_VR_HEAD.RSEQ p.val + 1) % 2 ^ 32 ∧ rec_ / 2 ^ 96 % 2 ^ 32 = f.num % 2 ^ 32) ∧
         SameBut [.out, .fresh, .regs, .words, .hdrs, .pages, .dir, .hosts, .guard, .dbg, .side] s u
       (∀ y ∈ s.guard.ingress, y.part ≠ p.val) →
        (f.mark = 0 → f.judged = some j → j.verdict = 0 → s.checker p.val = some c → Completes (.verdictCommit p) s fun u => committed 0 u ∧ u.rd GRD_TSTAT.RUNCNT p.val = 0 ∧
          (s.deliver p.val c f j = none → u.rd GRD_EVT.OVERRUN p.val = 1)) ∧
        (f.mark = 8 → min 15 (s.rd GRD_TSTAT.RUNCNT p.val + 1) < s.rd GRD_AGE.RUN p.val → Completes (.verdictCommit p) s fun u => committed 3 u ∧ u.rd GRD_EVT.STALE p.val = 1)) ∧
      (1 ≤ f.mark → f.mark ≤ 7 → Completes (.verdictCommit p) s fun u => u.rd GRD_EVT.FAIL p.val = 1 ∧
        (disagrees f.mark = true → s.rd GRD_WIN.THRESH p.val ≤ u.rd GRD_WIN_STAT.COUNT p.val → u.pst p.val = stSafe ∧ bit (u.rd GRD_SAFE.CAUSES p.val) 1 = true))) ∧
    ((s.frames p.val)[k.val]? = some f → Completes (.ageExpiry p k) s fun u => u.frames p.val = (s.frames p.val).set k.val (present 8 f) ∧ timed (f.ingress + s.rd GRD_AGE.LIMIT p.val * 10000) u) ∧
    (s.guard.reports.find? (fun r => decide (r.part = p.val)) = some x →
      (x.kick = true → x.count = s.rd GRD_STG.LAST (p.val * 16 + x.stage) + 1 → Completes (.watchUpdate p) s fun u => u.guard.reports = s.guard.reports.erase x ∧
        u.rd GRD_STG.LAST (p.val * 16 + x.stage) = x.count % 2 ^ 32 ∧ u.rd GRD_STG.KICK_TK (p.val * 16 + x.stage) = x.tick % 2 ^ 64 ∧
        ((∀ y ∈ s.guard.windows, ¬(y.part = p.val ∧ y.stage = x.stage ∧ y.frame = x.count)) → u.rd GRD_TEVT.WDOG p.val = 1) ∧ SameBut [.out, .regs, .hosts, .guard, .dbg, .side] s u) ∧
      (x.kick = false ∨ x.count ≠ s.rd GRD_STG.LAST (p.val * 16 + x.stage) + 1 → Completes (.watchUpdate p) s fun u => safe 7 u ∧ u.rd GRD_TEVT.SEQ p.val = 1 ∧ SameBut hold s u)) ∧
    (s.guard.windows.find? (fun w => decide (w.part = p.val) && decide (w.stage = st.val) && w.open_) = some w → Completes (.windowMaxExpiry p st) s fun u => u.rd GRD_TEVT.WDOG p.val = 1 ∧
      u.frames p.val = marked w.frame 6 ∧ w ∉ u.guard.windows ∧ timed (w.since + s.rd GRD_STG.MAX (p.val * 16 + st.val) + 1) u) ∧
    (((s.guardRec p.val).bind fun g => g.tasks[i.val]?) = some task → s.rd GRD_TASK.OVER (p.val * 64 + i.val) ≠ 1 → task.budget < Store.get 0 s.guard.busy (p.val * 64 + i.val) →
      Completes (.budgetOverrun p i) s fun u => u.rd GRD_TASK.OVER (p.val * 64 + i.val) = 1 ∧ u.rd GRD_TEVT.BUDGET p.val = 1 ∧ timed s.now u ∧
        ∀ g, (s.frames p.val).find? (fun f => decide (s.rd GRD_STG.LAST (p.val * 16 + task.stage) < f.num)) = some g → u.frames p.val = marked g.num 6)

/-- R423, R437, R442-R445, R457-R463, R467, R470: the checker pairs, the pins, and the tests at run time. A pair that fails, a stuck pin, a lost timebase and a late rotation make guarded partitions SAFE; the pins follow R443, and only
the steward writes TRIP. A test segment holds its core, by the first good neighbour; at its end the core is released, and a pass counts in the rotation, while a FAIL marks every open frame and is repeated by another tester, whose FAIL takes the core out. -/
def Obligations.PairsPinsAndTestSegments : Prop :=
  ∀ (s : State) (p : Part) (a b v : Bool) (q : Req) (f : FieldId) (m : CoreId) (ppm : BitVec 16) (x pf y z n : Nat),
    let hold := [Comp.out, .fresh, .regs, .words, .hdrs, .pages, .dir, .flips, .threads, .owed, .sregs, .engines, .sync, .ledger, .replay, .hosts, .logs, .guard, .parts, .dbg, .side]
    let safe : Nat → Nat → State → Prop := fun p n u => u.pst p = stSafe ∧ bit (u.rd GRD_SAFE.CAUSES p) n = true
    let pins : State → Prop := fun u => u.rd GRD_PIN.A_CMD 0 = boolNat (!u.pinsFree) ∧ u.rd GRD_PIN.B_CMD 0 = boolNat (!u.pinsFree)
    let c := coreKey f.val m.val
    let t := s.ctest c
    let heldThreads : State → Prop := fun u => ∀ j, j < 32 → u.thread (c * 32 + j) =
      if (s.thread (c * 32 + j)).st = .ready ∨ (s.thread (c * 32 + j)).st = .parked then { s.thread (c * 32 + j) with st := .held, prev := (s.thread (c * 32 + j)).st } else s.thread (c * 32 + j)
    let freeThreads : State → Prop := fun u => ∀ j, j < 32 → u.thread (c * 32 + j) =
      if (s.thread (c * 32 + j)).st = .held then { s.thread (c * 32 + j) with st := (s.thread (c * 32 + j)).prev, prev := .idle } else s.thread (c * 32 + j)
    let held : CoreTest → State → Prop := fun w u => u.ctest c = w ∧ heldThreads u ∧ (∀ d, d ≠ c → u.ctest d = s.ctest d) ∧ SameBut [.threads, .guard, .dbg] s u
    (s.rd (ckField p.val) 0 ≠ 2 → ∀ k ∈ [Instr.lockstepMismatch p, .checkerPairFailure p], Completes k s fun u => u.rd (ckField p.val) 0 = 2 ∧ NewestLog 0x0A 0x83 u ∧ pins u ∧
      (s.running p.val = true → s.guarded p.val = true → safe p.val 2 u) ∧ SameBut hold s u) ∧
    (s.rd (ckField p.val) 0 = 2 → ∀ k ∈ [Instr.lockstepMismatch p, .checkerPairFailure p], Completes k s (SameBut [] s)) ∧
    (let run : Nat → Field → Bool → Nat := fun i g l => if s.rd g 0 = 1 ∧ l = true then Store.get 0 s.guard.stuck i + 1 else 0
     (run 0 GRD_PIN.A_CMD a < 2 → run 1 GRD_PIN.B_CMD b < 2 → Completes (.pinReadback a b) s fun u => u.rd GRD_PIN.A_READ 0 = boolNat (!a) ∧ u.rd GRD_PIN.B_READ 0 = boolNat (!b) ∧
       Store.get 0 u.guard.stuck 0 = run 0 GRD_PIN.A_CMD a ∧ Store.get 0 u.guard.stuck 1 = run 1 GRD_PIN.B_CMD b ∧ RegsBut [(GRD_PIN.A_READ, 0), (GRD_PIN.B_READ, 0)] s u ∧ SameBut [.regs, .guard] s u) ∧
     (2 ≤ run 0 GRD_PIN.A_CMD a ∨ 2 ≤ run 1 GRD_PIN.B_CMD b → s.rd GRD_PIN.MISMATCH 0 ≠ 1 → Completes (.pinReadback a b) s fun u => u.rd GRD_PIN.MISMATCH 0 = 1 ∧
       (∀ o, o < 4 → s.guarded o = true → s.running o = true → safe o 6 u) ∧ u.rd GRD_PIN.A_CMD 0 = 1 ∧ u.rd GRD_PIN.B_CMD 0 = 1 ∧ SameBut hold s u)) ∧
    (let quiet : State → Prop := fun u => NewestLog 0 5 u ∧ SameBut [.out, .hosts, .logs, .side] s u
     (s.hostOn q p.val = some (x, pf) →
       (s.isSteward p.val x = true → Completes (.grdTripWrite q p v) s fun u => u.rd GRD_TRIP.TRIP p.val = boolNat v ∧ pins u ∧ (v = true → u.rd GRD_PIN.A_CMD 0 = 1 ∧ u.rd GRD_PIN.B_CMD 0 = 1) ∧
         RegsBut [(GRD_TRIP.TRIP, p.val), (GRD_PIN.A_CMD, 0), (GRD_PIN.B_CMD, 0), (GRD_PIN.A_READ, 0), (GRD_PIN.B_READ, 0)] s u ∧ SameBut [.regs, .out] s u) ∧
       (s.isSteward p.val x = false → Completes (.grdTripWrite q p v) s quiet)) ∧
     (s.reqOn .mgmt = true → Completes (.grdTripWrite .mgmt p v) s quiet)) ∧
    (t.seg = 0 → s.phys c = some z → Store.get false s.wafer.bad (f.val * 160 + z) = false →
      (t.step = 1 ∨ t.step = 2 → s.testerFor c t.tried = some y → Completes (.testSegmentStart f m) s
        (held { t with seg := (if t.step = 2 ∨ t.extra = true then 1 else t.pos + 1), tester := y, extra := true })) ∧
      (t.step ≠ 1 → t.step ≠ 2 → t.report ≠ 0 → s.testerFor c [] = some y → Completes (.testSegmentStart f m) s (held { t with seg := 12 - t.report + 1, tester := y, extra := false })) ∧
      (t.step ≠ 1 → t.step ≠ 2 → t.report = 0 → s.partOf f.val = some p.val → s.running p.val = true → s.guarded p.val = true → s.testerFor c [] = some y →
        (t.due = true → (∀ w ∈ s.critical p.val c, w.tested = false) → Completes (.testSegmentStart f m) s (held { t with seg := 1, tester := y, extra := true, due := false })) ∧
        (t.due = false → s.underTest f.val < s.rd GRD_TEST_CFG.PAR p.val → (s.afterGap p.val c).critical p.val c = [] → Completes (.testSegmentStart f m) s fun u =>
          u.ctest c = { t with seg := t.pos + 1, tester := y, extra := false, urgent := t.urgent || (s.afterGap p.val c).urgentCore p.val c } ∧ heldThreads u ∧
          (t.urgent = false → (s.afterGap p.val c).urgentCore p.val c = true → u.rd GRD_TEVT.TEST_LATE p.val = 1) ∧
          u.now = (s.afterGap p.val c).now ∧ SameBut [.out, .now, .regs, .threads, .hosts, .guard, .dbg, .side] s u))) ∧
    (t.seg ≠ 0 → s.partOf f.val = some p.val → (∀ h ∈ s.guard.queue, h.core ≠ c) →
      let w : CoreTest := { t with seg := 0, extra := false, last := s.now + 1 }
      (t.step = 0 → t.report = 0 → t.extra = false → Completes (.testSegmentEnd f m true) s fun u => freeThreads u ∧
        u.ctest c = (if t.pos + 1 < 12 then { w with pos := t.pos + 1 } else { w with pos := 0, deadline := s.now + s.rd GRD_TCFG.TEST_MS p.val * 1000000, urgent := false }) ∧
        u.rd GRD_TSTAT.ROT p.val = (if t.pos + 1 < 12 then s.rd GRD_TSTAT.ROT p.val else (s.rd GRD_TSTAT.ROT p.val + 1) % 2 ^ 16) ∧ SameBut [.threads, .guard, .regs] s u) ∧
      (t.step = 0 → t.report = 0 → t.extra = true → Completes (.testSegmentEnd f m true) s fun u => freeThreads u ∧ u.ctest c = w ∧ SameBut [.threads, .guard, .regs] s u) ∧
      (t.step = 0 → t.report = 0 → s.testerFor c [t.tester] = some y → Completes (.testSegmentEnd f m false) s fun u => freeThreads u ∧ u.ctest c = { w with step := 1, tried := [t.tester], extra := t.extra } ∧
        u.frames p.val = (s.frames p.val).map (present 7) ∧ u.rd GRD_TEVT.TEST_FAIL p.val = 1 ∧ SameBut [.threads, .guard, .regs, .hosts, .out, .side] s u) ∧
      (t.step ≠ 0 ∨ t.report ≠ 0 → s.phys c = some z → Store.get false s.wafer.bad (f.val * 160 + z) = false → Completes (.testSegmentEnd f m false) s fun u =>
        Store.get false u.wafer.bad (f.val * 160 + z) = true ∧ u.rd PAR_RECOV_EVT.UNIT_FAIL p.val = 1)) ∧
    (s.partOf f.val = some p.val → s.running p.val = true → s.guarded p.val = true → t.deadline ≠ 0 → Completes (.rotationDeadline f m) s fun u => safe p.val 7 u ∧ u.now = s.after t.deadline ∧
      SameBut (.now :: hold) s u) ∧
    (ppm.toNat ≤ s.rd GRD_TB_CHK.TOL_PPM 0 → Completes (.tbCheck ppm) s fun u => u.rd GRD_TB_CHK.LAST_PPM 0 = min 4095 ppm.toNat ∧ u.guard.tbBad = 0 ∧ RegsBut [(GRD_TB_CHK.LAST_PPM, 0)] s u ∧
      SameBut [.regs, .guard] s u) ∧
    (s.rd GRD_TB_CHK.TOL_PPM 0 < ppm.toNat → 1 ≤ s.guard.tbBad → Completes (.tbCheck ppm) s fun u => u.rd GRD_TB_CHK.BAD 0 = 1 ∧ u.rd GRD_TB_CHK.LAST_PPM 0 = min 4095 ppm.toNat ∧
      (∀ o, o < 4 → s.guarded o = true → s.running o = true → safe o 7 u ∧ u.rd GRD_TEVT.TB o = 1) ∧ SameBut hold s u) ∧
    (s.guarded p.val = true → s.rd GRD_TEVT.INJ_DUE p.val ≠ 1 → Store.get 0 s.guard.inj p.val = n + 1 → Completes (.injDue p) s fun u => u.rd GRD_TEVT.INJ_DUE p.val = 1 ∧
      u.now = s.after (n + s.rd GRD_INJ_AGE.MAX_H p.val * 3600000000000) ∧ SameBut [.out, .now, .regs, .hosts, .guard, .dbg, .side] s u)

/-! ### Counters and debug (21_counters_debug.md) -/

/-- R516-R529: captures, the deadlock detector, objects set by hand, and trace. A capture of what its requester sees is queued for a tick at least 2 µs ahead and not before an earlier one's, and at that tick its bank holds the counters, which CLEAR sets
to 0. The detector fires on a quiet partition and its graph's end raises DEADLOCK; a re-arm clears FIRED. SO_SET sets the selected object while debug is unlocked for it, and trace starts empty and stops. -/
def Obligations.CapturesDetectorsAndTrace : Prop :=
  ∀ (s : State) (r : Req) (scope : Fin 4) (p : Part) (f : FieldId) (m : BitVec 8) (first : BitVec 11) (count : Fin 1024) (clear : Bool) (seq : BitVec 16) (value : BitVec 32) (live clrSat clrBroken : Bool)
      (c : Snap) (k o : Nat),
    let id := reqKey r
    let q := seq.toNat
    let shown : Nat → State → Prop := fun res u => u.rd CNT_SNAP_STAT.SEQ id = q ∧ u.rd CNT_SNAP_STAT.RESULT id = res
    let stat : List (Field × Nat) := [(CNT_SNAP_STAT.SEQ, id), (CNT_SNAP_STAT.TICK, id), (CNT_SNAP_STAT.RESULT, id)]
    let tgt := if scope = 0 then coreKey f.val m.toNat else if scope = 1 then f.val else if scope = 2 then p.val else 0
    (s.reqOn r = true → s.dupSeq (cntSrc id) q = false →
      ((∀ w ∈ reqPart r, if scope = 2 then p.val = w else scope ≠ 3 ∧ s.owns w f.val = true) → (scope = 0 → m.toNat < 152) → Completes (.capture r scope p f m first count clear seq) s fun u =>
        shown 1 u ∧ RegsBut stat s u ∧ SameBut [.fresh, .regs, .hosts, .dbg] s u ∧
        ∃ t, s.now + 2000 ≤ t ∧ (∀ y ∈ s.dbg.snaps, y.key = id → y.tick ≤ t) ∧ u.dbg = { s.dbg with snaps := s.dbg.snaps ++ [⟨id, scope.val, tgt, first.toNat, count.val + 1, clear, t, q⟩] } ∧
          u.rd CNT_SNAP_STAT.TICK id = t % 2 ^ 64) ∧
      ((∃ w ∈ reqPart r, if scope = 2 then p.val ≠ w else scope = 3 ∨ s.owns w f.val = false) ∨ (scope = 0 ∧ 152 ≤ m.toNat) → Completes (.capture r scope p f m first count clear seq) s fun u =>
        shown 5 u ∧ RegsBut stat s u ∧ SameBut [.regs, .hosts] s u)) ∧
    (s.dbg.snaps.find? (·.key = id) = some c → Completes (.captureTick r) s fun u => u.now = s.after c.tick ∧
      Store.get [] u.dbg.banks id = (List.range c.count).map (fun i => (s.reach c.tick).counter c.scope c.tgt (c.first + i)) ∧ u.dbg.snaps = s.dbg.snaps.erase c ∧
      (c.clear = true → ∀ i, i < c.count → u.counter c.scope c.tgt (c.first + i) = (0, false)) ∧ (c.clear = false → u.dbg.vals = (s.reach c.tick).dbg.vals) ∧
      (s.rd CNT_SNAP_STAT.SEQ id = c.seq → u.rd CNT_SNAP_STAT.RESULT id = 0) ∧ SameBut [.out, .now, .regs, .guard, .dbg, .side] s u) ∧
    (s.partQuiet p.val = true → s.rd DBG_DL_CTL.EN p.val = 1 → s.rd DBG_DL_STAT.FIRED p.val = 0 → s.rd DBG_DL_STAT.BUSY p.val = 0 → Completes (.deadlock p) s fun u =>
      u.rd DBG_DL_STAT.FIRED p.val = 1 ∧ u.rd DBG_DL_STAT.BUSY p.val = 1 ∧ u.rd DBG_DL_STAT.QUIET_TK p.val = s.quietSince p.val % 2 ^ 64 ∧
      u.now = s.after (s.quietSince p.val + s.rd DBG_DL_CTL.MS p.val * 1000000) ∧ Store.get [] u.dbg.graph p.val = u.waiterGraph p.val ∧ SameBut [.out, .now, .regs, .guard, .dbg, .side] s u) ∧
    (s.rd DBG_DL_STAT.BUSY p.val = 1 → Completes (.waiterGraphDone p) s fun u => u.rd DBG_DL_STAT.BUSY p.val = 0 ∧ u.rd DBG_EVT.DEADLOCK p.val = 1 ∧ NewestLog 0x0D 0x80 u ∧
      u.rd DBG_DL_STAT.TOTAL p.val = min (Store.get [] s.dbg.graph p.val).length 0xFFFFF ∧ Store.get [] u.dbg.graph p.val = (Store.get [] s.dbg.graph p.val).take 65536 ∧
      (s.partQuiet p.val = false → u.rd DBG_DL_STAT.VOLATILE p.val = 1) ∧ SameBut [.out, .fresh, .regs, .hosts, .logs, .dbg, .side] s u) ∧
    (s.reqOn r = true → (∀ w ∈ reqPart r, w = p.val) → Completes (.dlRearm r p) s fun u => u.rd DBG_DL_STAT.FIRED p.val = 0 ∧ RegsBut [(DBG_DL_STAT.FIRED, p.val)] s u ∧ SameBut [.regs] s u) ∧
    ((∃ w ∈ reqPart r, w ≠ p.val) → Completes (.dlRearm r p) s (SameBut [] s)) ∧
    (s.reqOn r = true ∨ r = .jtag → s.dupSeq (dbgSrc id) q = false →
      let set : Nat → State → Prop := fun res u => u.rd DBG_SO_SET_STAT.SEQ id = q ∧ u.rd DBG_SO_SET_STAT.RESULT id = res
      let run := Instr.soSet r value live clrSat clrBroken seq
      (s.selObj r = some (k, o) → s.debugOk 1 o = true → s.waitersOf k = [] → Completes run s fun u => set 0 u ∧ u.obj k = handSet (s.obj k) value.toNat live clrSat clrBroken (debuggerUnit r) s.now ∧
        (∀ j, j ≠ k → u.obj j = s.obj j) ∧ u.rd DBG_EVT.SO_SET o = 1 ∧ NewestLog 0x0D 2 u ∧ SameBut [.out, .regs, .sync, .hosts, .logs, .guard, .side] s u) ∧
      (s.selObj r = some (k, o) → s.debugOk 1 o = true → s.waitersOf k ≠ [] → (s.obj k).live = true → live = false → Completes run s fun u => set 9 u ∧ SameBut [.regs, .hosts] s u) ∧
      (s.selObj r = some (k, o) → s.debugOk 1 o = false → Completes run s fun u => set 8 u ∧ SameBut [.regs, .hosts] s u) ∧
      (s.selObj r = none → s.rd SEC_DBG_STAT.UNLOCKED 0 = 1 → bit (s.rd SEC_DBG_STAT.CAPS 0) 1 = true → Completes run s fun u => set 5 u ∧ SameBut [.regs, .hosts] s u)) ∧
    (s.traceReq r = true → s.traceOk = true →
      (s.rd DBG_TR_STAT.ACTIVE 0 = 0 → Completes (.traceStart r) s (fun u => u.rd DBG_TR_STAT.ACTIVE 0 = 1 ∧ u.rd DBG_TR_STAT.NEXT 0 = 0 ∧ u.rd DBG_TR_STAT.FULL 0 = 0 ∧ u.dbg = { s.dbg with trace := [], cause := 0 } ∧
        SameBut [.out, .regs, .dbg, .side] s u) ∧ Completes (.traceStop r) s (SameBut [] s)) ∧
      (s.rd DBG_TR_STAT.ACTIVE 0 = 1 → Completes (.traceStart r) s (SameBut [] s) ∧ Completes (.traceStop r) s fun u => u.rd DBG_TR_STAT.ACTIVE 0 = 0 ∧ SameBut [.out, .regs, .side] s u)) ∧
    (s.traceOk = false → Completes (.traceStart r) s (SameBut [] s) ∧ Completes (.traceStop r) s (SameBut [] s))

/-! ### The management interface, the TAP and the pins (22_management_sideband.md, 23_carrier_electrical.md) -/

/-- R536-R542: the management interface. A WRITE or a READ that fails a check is answered with the first STATUS that applies, enters its event and the fault log, and changes no register; one that passes carries out its words in ascending order. Every WRITE counts in SEQ.
In I3C mode the address, the in-band interrupts and the limits follow the CCCs, and the identity is answered; in I2C mode they are not acknowledged. -/
def Obligations.ManagementInterfaceAnswers : Prop :=
  ∀ (s : State) (bytes : List (BitVec 8)) (a b : BitVec 7) (len : BitVec 16),
    let raw := bytes.map (·.toNat)
    let head := fun (cmd : Nat) => mgmtHead (s.unpec cmd raw).1
    let wcheck := s.mgmtCheck true (s.unpec 2 raw).2 (s.unpec 2 raw).1
    let rcheck := s.mgmtCheck false (s.unpec 3 raw).2 (s.unpec 3 raw).1
    let event : Nat → Field := fun st => if st = 1 then SBM_EVT.MGMT_DENIED else if st = 2 then SBM_EVT.FORMAT else if st = 3 then SBM_EVT.MGMT_PEC else SBM_EVT.RANGE
    let failed : Nat → State → Prop := fun st u => u.rd (event st) 0 = 1 ∧ RegsBut [(event st, 0)] s u ∧ ∃ code, NewestLog 0x0E code u
    let sent : List Nat → State → Prop := fun l u => ∃ tail, tail.length = (if s.pecOn = true then 1 else 0) ∧ Sent (.mgmt (l ++ tail)) u
    let answers : Instr → List Nat → Prop := fun c l => (s.side.dyn ≠ 0 → Completes c s fun u => Sent (.mgmt l) u ∧ SameBut [.out] s u) ∧ (s.side.dyn = 0 → Completes c s (SameBut [] s))
    (let w := mgmtWrites (s.unpec 2 raw).1 (head 2).1 s (List.range (head 2).2)
     (wcheck ≠ 0 → Completes (.mgmtWrite bytes) s fun u => failed wcheck u ∧ u.side.status = wcheck ∧ u.side.seq = (s.side.seq + 1) % 256 ∧ SameBut [.regs, .out, .hosts, .logs, .side] s u) ∧
     (wcheck = 0 → w.1.rd SEC_CTL.MGMT_WR 0 ≠ 0 → Completes (.mgmtWrite bytes) s fun u => u.side.status = (if w.2 = true then 4 else 0) ∧ u.side.seq = (w.1.side.seq + 1) % 256 ∧ SameBut [.out, .side] w.1 u) ∧
     (wcheck = 0 → w.1.rd SEC_CTL.MGMT_WR 0 = 0 → Completes (.mgmtWrite bytes) s (SameBut [] w.1)) ∧
     (wcheck = 0 → (head 2).2 = 1 → w = if s.islandReady (head 2).1 = true then (s.writeWord .mgmt (head 2).1 (ofBytes (slice (s.unpec 2 raw).1 5 9)), false) else (s, true))) ∧
    (rcheck ≠ 0 → Completes (.mgmtRead bytes) s fun u => failed rcheck u ∧ (∃ rest, Sent (.mgmt (rcheck :: rest)) u) ∧ SameBut [.regs, .out, .hosts, .logs, .side, .fresh] s u) ∧
    (rcheck = 0 → (head 3).2 = 1 → s.islandReady (head 3).1 = true → Completes (.mgmtRead bytes) s fun u => (∃ tail, Sent (.mgmt (0 :: bytesOf 4 (s.readWord .mgmt (head 3).1).2 ++ tail)) u) ∧
      SameBut [.out] (s.readWord .mgmt (head 3).1).1 u) ∧
    (rcheck = 0 → Completes (.mgmtRead bytes) s fun u => (∀ i, i < (head 3).2 → s.islandReady ((head 3).1 + 4 * i) = false) →
      sent (4 :: List.replicate (4 * (head 3).2) 255) u ∧ SameBut [.out] s u) ∧
    Completes .mgmtLast s (fun u => sent [s.side.status, s.side.seq] u ∧ SameBut [.out] s u) ∧
    (s.side.dyn = 0 → Completes .smbTimeout s (fun u => u.rd SBM_EVT.SMB_TIMEOUT 0 = 1 ∧ RegsBut [(SBM_EVT.SMB_TIMEOUT, 0)] s u ∧ SameBut [.regs] s u) ∧
      (s.side.alert = true → Completes .alertResponse s fun u => sent [(0x58 + s.side.maddr) * 2] u ∧ SameBut [.out] s u) ∧
      (a ≠ 0 → Completes (.entdaa a) s fun u => u.side = { s.side with dyn := a.toNat } ∧ Sent (.mgmt [0x5E, 0x94, 0x04, 0x60, s.side.maddr % 4 * 16, 0xB0, 0x06, 0x00]) u ∧ SameBut [.side, .out] s u) ∧
      (b ≠ 0 → (a.toNat = 0x58 + s.side.maddr → Completes (.setdasa a b) s fun u => u.side = { s.side with dyn := b.toNat } ∧ SameBut [.side] s u) ∧
        (a.toNat ≠ 0x58 + s.side.maddr → Completes (.setdasa a b) s (SameBut [] s))) ∧
      (∀ c ∈ [Instr.enec, .disec, .setmwl len, .setmrl len, .getstatus], Completes c s (SameBut [.fresh] s))) ∧
    (s.side.dyn ≠ 0 → (∀ c ∈ [Instr.smbTimeout, .alertResponse, .entdaa a, .setdasa a b], Completes c s (SameBut [] s)) ∧
      Completes .enec s (fun u => u.side = { s.side with ibi := true } ∧ (s.side.alert = true → Sent (.ibi s.alertSrc) u) ∧ SameBut [.side, .out] s u) ∧
      Completes .disec s (fun u => u.side = { s.side with ibi := false } ∧ SameBut [.side] s u) ∧
      Completes (.setmwl len) s (fun u => u.side = { s.side with mwl := if len.toNat < 40 then s.side.mwl else min 64 len.toNat } ∧ SameBut [.side] s u) ∧
      Completes (.setmrl len) s (fun u => u.side = { s.side with mrl := if len.toNat < 40 then s.side.mrl else min 64 len.toNat } ∧ SameBut [.side] s u) ∧
      Completes .getstatus s fun u => (∃ l, l.length = 2 ∧ Sent (.mgmt l) u) ∧ SameBut [.out, .fresh] s u) ∧
    Completes .rstdaa s (fun u => u.side = { s.side with dyn := 0 } ∧ SameBut [.side] s u) ∧
    answers .getpid [0x5E, 0x94, 0x04, 0x60, s.side.maddr % 4 * 16, 0xB0] ∧ answers .getbcr [0x06] ∧ answers .getdcr [0x00] ∧
    answers .getmwl [s.side.mwl / 256 % 256, s.side.mwl % 256] ∧ answers .getmrl [s.side.mrl / 256 % 256, s.side.mrl % 256, 1]

/-- R543-R552, R559, R566: the TAP and the SBP pins. BYPASS, IDCODE and MBOX always load; the other TAP instructions need their conditions, and one that is not available leaves BYPASS and is logged. SYNC_IN signals its target at each accepted edge, or drops
the signal; TRIG_IN starts and stops trace; TB_OUT pulses at a multiple of its period, until WIDTH ends. A new function takes its pin after the quiet interval. The loss of one feed and the carrier's two alarms change nothing. -/
def Obligations.TapAndSidebandPins : Prop :=
  ∀ (s : State) (r : Req) (token : BitVec 2560) (cells : BitVec 16) (segs : List (Fin 5 × FieldId)) (n : Sbp) (level : Bool) (func : BitVec 4) (pull edge : BitVec 2) (width : BitVec 16) (k t : Nat),
    let tap := [Comp.out, .regs, .side]
    let refused : Instr → Prop := fun c => Completes c s fun u => u.side.instr = 0xFF ∧ (∃ code, NewestLog 0x0E code u) ∧ SameBut [.out, .regs, .side, .logs, .hosts] s u
    let free := s.side.instr ≠ 3 ∧ s.side.instr ≠ 4 ∧ s.side.instr ≠ 5
    Completes .bypass s (fun u => u.side.instr = 0xFF ∧ Sent (.jtag 0xFF 0) u ∧ SameBut tap s u) ∧
    Completes .idcode s (fun u => u.side.instr = 1 ∧ Sent (.jtag 1 0x1046074B) u ∧ SameBut tap s u) ∧
    Completes (.mbox token 0) s (fun v => v.side.instr = 0x10 ∧ (∀ i, i < 80 → v.rd SEC_DBG_TOKEN.WORD i = token.toNat / 2 ^ (32 * i) % 2 ^ 32) ∧
      Sent (.jtag 0x10 (s.rd SEC_DBG_NONCE.NONCE 0 + s.regWord .mgmt SEC_DBG_STAT 0 0 * 2 ^ 2592)) v ∧ SameBut tap s v ∧
      Completes (.mbox token 1) s (fun u => exec (.unlock .jtag) v = .next u) ∧ Completes (.mbox token 2) s (fun u => exec (.lock .jtag) v = .next u) ∧
      Completes (.mbox token 3) s fun u => NewestLog 0 3 u ∧ SameBut [.out, .hosts, .logs, .side] v u) ∧
    (s.jtagOk = true → Completes (.samplePreload cells) s (fun u => u.side.instr = 2 ∧ u.side.cells = cells.toNat ∧ SameBut (.fresh :: tap) s u) ∧
      Completes (.ijtag segs) s fun u => u.side.instr = 0x20 ∧ (∀ x ∈ segs, x.1.val * 64 + x.2.val ∈ u.side.sibs ↔ s.sibOpens x.1.val x.2.val = true) ∧ SameBut tap s u) ∧
    (s.pinTestOk = true →
      Completes (.extest) s (fun u => u.side.instr = 3 ∧ u.out.take 16 = (List.range 16).reverse.map (fun n => Out.pin n (bit s.side.cells n)) ∧ SameBut (.fresh :: tap) s u) ∧
      Completes (.clamp) s (fun u => u.side.instr = 4 ∧ u.out.take 16 = (List.range 16).reverse.map (fun n => Out.pin n (bit s.side.cells n)) ∧ SameBut tap s u) ∧
      Completes (.highz) s fun u => u.side.instr = 5 ∧ u.out.take 16 = (List.range 16).reverse.map Out.release ∧ SameBut tap s u) ∧
    (s.jtagOk = false → ∀ c ∈ [Instr.samplePreload cells, .ijtag segs], refused c) ∧ (s.pinTestOk = false → ∀ c ∈ [Instr.extest, .clamp, .highz], refused c) ∧
    (let p := bits (s.rd SBM_PIN_TGT.TGT n.val) 25 24
     let ref := 3 * 2 ^ 22 + s.rd SBM_PIN_TGT.TGT n.val % 2 ^ 14
     let hit := fun (unit : Nat) => s.resolve ⟨p, 0, 0, unit, false⟩ ref false
     let v := (s.setLevel n.val level).wr SBM_PIN_TICK.TICK n.val s.now
     (s.edgeSeen n.val 4 level = false → Completes (.syncIn n level) s fun u => bit u.side.levels n.val = level ∧ SameBut [.side] s u) ∧
     (s.edgeSeen n.val 4 level = true →
      (s.running p = true → hit 53 = .obj k → (s.obj k).live = true → Completes (.syncIn n level) s fun u => (∃ unit, u = v.signalAny ⟨p, 0, 0, unit, false⟩ ref 1) ∧
        ((s.obj k).broken = false → s.exportOf k = none → (∀ pk ∈ s.sync.parks, pk.tgt ≠ .obj k) → (u.obj k).count = min ((s.obj k).count + 1) countMax ∧ (∀ j, j ≠ k → u.obj j = s.obj j) ∧
          (s.rd SBM_PIN_CFG.FUNC n.val = 4 → u.rd SBM_PIN_TICK.TICK n.val = s.now % 2 ^ 64))) ∧
      (s.running p = false ∨ (∀ j, hit 53 = .obj j → (s.obj j).live = false) → Completes (.syncIn n level) s fun u => u.rd SBM_EVT.SYNC_DROP 0 = 1 ∧ NewestLog 0x0E 0x82 u ∧
        u.rd SBM_PIN_TICK.TICK n.val = s.now % 2 ^ 64 ∧ SameBut [.out, .regs, .hosts, .logs, .side] s u))) ∧
    (s.edgeSeen n.val 6 level = false → Completes (.trigIn n level) s fun u => bit u.side.levels n.val = level ∧ SameBut [.side] s u) ∧
    (s.edgeSeen n.val 6 level = true → s.traceOk = true → (s.rd DBG_TR_STAT.ACTIVE 0 = 0 → Completes (.trigIn n level) s fun u => u.rd DBG_TR_STAT.ACTIVE 0 = 1 ∧ u.dbg.trace = [] ∧ SameBut [.out, .regs, .dbg, .side] s u) ∧
      (s.rd DBG_TR_STAT.ACTIVE 0 = 1 → Completes (.trigIn n level) s fun u => u.rd DBG_TR_STAT.ACTIVE 0 = 0 ∧ u.dbg = s.dbg ∧ SameBut [.out, .regs, .side] s u)) ∧
    (let per := s.rd SBM_PIN_TGT.TGT n.val % 2 ^ 24 * 1000
     s.wafer.running = true → s.rd SBM_PIN_CFG.FUNC n.val = 9 → s.clusterTime % per ≠ 0 → per ≠ 0 → Store.get 0 s.side.sw n.val = 0 → Store.get 0 s.side.pulse n.val = 0 → free → Completes (.tbOut n) s fun u =>
      u.now = s.now + (per - s.clusterTime % per) ∧ u.rd SBM_PIN_TICK.TICK n.val = u.now % 2 ^ 64 ∧ Sent (.pin n.val true) u ∧
      Store.get 0 u.side.pulse n.val = u.now + s.rd SBM_PIN_CFG.WIDTH n.val * 10 + 1 ∧ SameBut [.out, .now, .regs, .guard, .dbg, .side] s u) ∧
    (Store.get 0 s.side.pulse n.val = t + 1 → free → Completes (.pulseEnd n) s fun u => Store.get 0 u.side.pulse n.val = 0 ∧ Sent (.pin n.val false) u ∧ u.now = s.after t ∧ SameBut [.out, .now, .regs, .guard, .dbg, .side] s u) ∧
    (s.sbmWriter r = true → pinCfgOk func.toNat pull.toNat edge.toNat width.toNat (s.rd SBM_PIN_TGT.TGT n.val) = true → Completes (.pinSwitch r n func pull edge width) s fun u =>
      u.rd SBM_PIN_CFG.FUNC n.val = func.toNat ∧ u.rd SBM_PIN_CFG.PULL n.val = pull.toNat ∧ u.rd SBM_PIN_CFG.EDGE n.val = edge.toNat ∧ u.rd SBM_PIN_CFG.WIDTH n.val = width.toNat ∧
      (s.rd SBM_PIN_CFG.FUNC n.val ≠ func.toNat ∨ s.rd SBM_PIN_CFG.PULL n.val ≠ pull.toNat → Store.get 0 u.side.act n.val = 0 ∧ Store.get 0 u.side.sw n.val = s.now + 1 ∧ Store.get 0 u.side.pulse n.val = 0 ∧
        bit (u.rd SBM_SW_STAT.SWITCHING 0) n.val = true) ∧ SameBut tap s u) ∧
    (s.sbmWriter r = true → pinCfgOk func.toNat pull.toNat edge.toNat width.toNat (s.rd SBM_PIN_TGT.TGT n.val) = false → Completes (.pinSwitch r n func pull edge width) s fun u => NewestLog 0 3 u ∧
      SameBut [.out, .hosts, .logs, .side] s u) ∧
    (Store.get 0 s.side.sw n.val = t + 1 → Completes (.switchQuietEnd n level) s fun u => Store.get 0 u.side.act n.val = s.rd SBM_PIN_CFG.FUNC n.val ∧ Store.get 0 u.side.sw n.val = 0 ∧
      bit u.side.levels n.val = level ∧ bit (u.rd SBM_SW_STAT.SWITCHING 0) n.val = false ∧ u.now = s.after (t + s.rd SBM_QUIET.NS 0) ∧ SameBut [.out, .now, .regs, .guard, .dbg, .side] s u) ∧
    Completes .feedLoss s (SameBut [] s) ∧ Completes .coolFault s (fun u => Sent (.pin 19 false) u ∧ SameBut [.out] s u) ∧ Completes .leak s (fun u => Sent (.pin 20 false) u ∧ SameBut [.out] s u)

/-! ### The machine as a whole -/

/-- R21, R92, R139, R146, R190, R228: the state after reset. Every field of every register has its reset value, every memory word is 0, empty and without poison, every page is FREE, every thread IDLE, every sync object dead, every Ledger entry RETIRED; nothing waits, and the values that the invariants below
speak of are legal. (What no rule gives, such as general registers of 0, is the model's choice: notes/assumptions/2.md.) -/
def Obligations.ResetLeavesEverythingAtRest : Prop :=
  (∀ f i, State.reset.rd f i = f.reset) ∧ (∀ k, State.reset.word k = ⟨0, false, false⟩) ∧ (∀ k, (State.reset.page k).st = .free) ∧ (∀ k, (State.reset.thread k).st = .idle) ∧
  (∀ k, (State.reset.obj k).live = false) ∧ (∀ f n, (State.reset.entry f n).st = 0) ∧ State.reset.pending = [] ∧ State.reset.wafer.running = false ∧
  SideU.legal State.reset.side = true ∧ Memory.wf State.reset.mem = true ∧ State.reset.queueOk = true

/-- A step takes the command at the front of the queue: it is `exec` of that command on the state with the queue's rest. With no command waiting, one tick of the timebase passes, and nothing but what time itself drives changes (the model's choice: notes/assumptions/1.md). -/
def Obligations.StepRunsTheFrontCommand : Prop :=
  ∀ (s : State),
    (∀ c r, s.pending = c :: r → step s = exec c { s with pending := r }) ∧
    (s.pending = [] → ∃ u, step s = .next u ∧ u.now = s.after (s.now + 1) ∧ SameBut [.now, .regs, .guard, .dbg, .out, .side] s u)

/-- R537-R539, R543: every state has a next one: no command faults and none is refused. A step takes exactly the command at the front of the queue and adds none, so that a queue of well-formed commands stays one, and the management interface and the TAP keep values that they can hold. -/
def Obligations.EveryStepCompletesAndStaysLegal : Prop :=
  ∀ s, ∃ u, step s = .next u ∧ u.pending = s.pending.tail ∧ (s.queueOk = true → u.queueOk = true) ∧ (SideU.legal s.side = true → SideU.legal u.side = true)

/-- R88, R92, R146: every step keeps the memory in its one canonical form: words, headers, page records and page directories by rising number, nothing listed that reads as an unlisted one does. Equal memories are then equal data. -/
def Obligations.EveryStepKeepsMemoryCanonical : Prop :=
  ∀ s u, Memory.wf s.mem = true → step s = .next u → Memory.wf u.mem = true
end

