-- ==== Sys2Proof/Laws/Store.lean ====
section
/-! SUPPORT. Reading a store after a write, and the canonical form that every store operation keeps. -/

namespace Sys2Proof.Machine

variable {α : Type}

theorem Store.get_nil (d : α) (k : Nat) : Store.get d [] k = d := rfl

theorem Store.get_ins_same (d : α) (m : Store α) (k : Nat) (v : α) : Store.get d (Store.ins m k v) k = v := by
  induction m with
  | nil => simp [Store.ins, Store.get]
  | cons e r ih =>
    obtain ⟨k', v'⟩ := e
    simp only [Store.ins]
    split
    · simp [Store.get]
    · split
      · simp [Store.get]
      · simp_all [Store.get]

theorem Store.get_ins_ne (d : α) (m : Store α) (k : Nat) (v : α) (j : Nat) (h : j ≠ k) :
    Store.get d (Store.ins m k v) j = Store.get d m j := by
  induction m with
  | nil => simp [Store.ins, Store.get, h]
  | cons e r ih =>
    obtain ⟨k', v'⟩ := e
    simp only [Store.ins]
    split
    · rename_i hk; subst hk; simp [Store.get, h]
    · split
      · simp [Store.get, h]
      · simp [Store.get, ih]

theorem Store.get_keep (d : α) (p : Nat → Bool) (m : Store α) (j : Nat) :
    Store.get d (Store.keep p m) j = if p j then Store.get d m j else d := by
  induction m with
  | nil => simp [Store.keep, Store.get]
  | cons e r ih =>
    obtain ⟨k, v⟩ := e
    simp only [Store.keep] at ih
    by_cases hp : p k <;> by_cases hj : j = k <;> simp_all [Store.keep, Store.get]

theorem Store.get_del_same (d : α) (m : Store α) (k : Nat) : Store.get d (Store.del m k) k = d := by
  have := Store.get_keep d (fun j => decide (j ≠ k)) m k
  simpa [Store.keep, Store.del] using this

theorem Store.get_del_ne (d : α) (m : Store α) (k j : Nat) (h : j ≠ k) : Store.get d (Store.del m k) j = Store.get d m j := by
  have := Store.get_keep d (fun j => decide (j ≠ k)) m j
  simpa [Store.keep, Store.del, h] using this

variable [DecidableEq α]

/-- A read after a write of the same key gives the value written. -/
@[simp] theorem Store.get_set_same (d : α) (m : Store α) (k : Nat) (v : α) : Store.get d (Store.set d m k v) k = v := by
  unfold Store.set
  split
  · rename_i h; rw [Store.get_del_same, h]
  · exact Store.get_ins_same d m k v

/-- A write leaves every other key alone. -/
theorem Store.get_set_ne (d : α) (m : Store α) (k : Nat) (v : α) (j : Nat) (h : j ≠ k) :
    Store.get d (Store.set d m k v) j = Store.get d m j := by
  unfold Store.set
  split
  · exact Store.get_del_ne d m k j h
  · exact Store.get_ins_ne d m k v j h

/-- The same where what the other key reads as without an entry differs. -/
theorem Store.get_keyed (m : Store α) (d e : α) (k j : Nat) (v : α) (h : j ≠ k) : Store.get e (Store.set d m k v) j = Store.get e m j := by
  unfold Store.set
  split
  · exact Store.get_del_ne e m k j h
  · exact Store.get_ins_ne e m k v j h

theorem Store.wfFrom_mono (d : α) (m : Store α) (n n' : Nat) (h : n' ≤ n) (w : Store.wfFrom d n m = true) : Store.wfFrom d n' m = true := by
  cases m with
  | nil => rfl
  | cons e r =>
    obtain ⟨k, v⟩ := e
    simp only [Store.wfFrom, Bool.and_eq_true, decide_eq_true_eq] at w ⊢
    exact ⟨⟨by omega, w.1.2⟩, w.2⟩

theorem Store.wfFrom_filter (d : α) (p : Nat × α → Bool) (m : Store α) (n : Nat) (w : Store.wfFrom d n m = true) :
    Store.wfFrom d n (m.filter p) = true := by
  induction m generalizing n with
  | nil => rfl
  | cons e r ih =>
    obtain ⟨k, v⟩ := e
    simp only [Store.wfFrom, Bool.and_eq_true, decide_eq_true_eq] at w
    by_cases hp : p (k, v)
    · simp [hp, Store.wfFrom, w.1.1, w.1.2, ih _ w.2]
    · simp only [List.filter_cons, hp]
      exact ih n (Store.wfFrom_mono d r (k + 1) n (by omega) w.2)

theorem Store.wfFrom_ins (d : α) (m : Store α) (k : Nat) (v : α) (n : Nat) (hn : n ≤ k) (hv : v ≠ d)
    (w : Store.wfFrom d n m = true) : Store.wfFrom d n (Store.ins m k v) = true := by
  induction m generalizing n with
  | nil => simp [Store.ins, Store.wfFrom, hn, hv]
  | cons e r ih =>
    obtain ⟨k', v'⟩ := e
    simp only [Store.wfFrom, Bool.and_eq_true, decide_eq_true_eq] at w
    simp only [Store.ins]
    split
    · rename_i hk; subst hk; simp [Store.wfFrom, hn, hv, w.2]
    · split
      · rename_i h1 h2
        simp [Store.wfFrom, hn, hv, w.1.2, w.2]; omega
      · rename_i h1 h2
        simp [Store.wfFrom, w.1.1, w.1.2, ih (k' + 1) (by omega) w.2]

/-- A write keeps the canonical form. -/
theorem Store.wf_set (d : α) (m : Store α) (k : Nat) (v : α) (w : Store.wf d m = true) : Store.wf d (Store.set d m k v) = true := by
  unfold Store.set
  split
  · exact Store.wfFrom_filter d _ m 0 w
  · rename_i h; exact Store.wfFrom_ins d m k v 0 (Nat.zero_le k) h w

/-- Leaving entries out keeps the canonical form. -/
theorem Store.wf_filter (d : α) (p : Nat × α → Bool) (m : Store α) (w : Store.wf d m = true) : Store.wf d (m.filter p) = true :=
  Store.wfFrom_filter d p m 0 w

theorem Store.wfFrom_mapAll (d : α) (f : Nat → α → α) (m : Store α) (n : Nat) (w : Store.wfFrom d n m = true) :
    Store.wfFrom d n (Store.mapAll d f m) = true := by
  induction m generalizing n with
  | nil => rfl
  | cons e r ih =>
    obtain ⟨k, v⟩ := e
    simp only [Store.wfFrom, Bool.and_eq_true, decide_eq_true_eq] at w
    have h := ih (k + 1) w.2
    unfold Store.mapAll at h ⊢
    simp only [List.map_cons, List.filter_cons]
    split
    · rename_i hv
      simp only [Store.wfFrom, Bool.and_eq_true, decide_eq_true_eq]
      exact ⟨⟨w.1.1, by simpa using hv⟩, h⟩
    · exact Store.wfFrom_mono d _ (k + 1) n (by omega) h

/-- A change of every listed value keeps the canonical form. -/
theorem Store.wf_mapAll (d : α) (f : Nat → α → α) (m : Store α) (w : Store.wf d m = true) : Store.wf d (Store.mapAll d f m) = true :=
  Store.wfFrom_mapAll d f m 0 w

end Sys2Proof.Machine
end

