-- ==== Sys2Proof/Laws/State.lean ====
section
/-! SUPPORT. What each update of the state leaves alone, field by field, and what a register field reads after a write. -/

namespace Sys2Proof.Machine

@[simp] theorem State.onWafer_pending (s : State) (g : Wafer → Wafer) : (s.onWafer g).pending = s.pending := rfl
@[simp] theorem State.onWafer_out (s : State) (g : Wafer → Wafer) : (s.onWafer g).out = s.out := rfl
@[simp] theorem State.onWafer_fresh (s : State) (g : Wafer → Wafer) : (s.onWafer g).fresh = s.fresh := rfl
@[simp] theorem State.onWafer_now (s : State) (g : Wafer → Wafer) : (s.onWafer g).now = s.now := rfl
@[simp] theorem State.onWafer_regs (s : State) (g : Wafer → Wafer) : (s.onWafer g).regs = s.regs := rfl
@[simp] theorem State.onWafer_staged (s : State) (g : Wafer → Wafer) : (s.onWafer g).staged = s.staged := rfl
@[simp] theorem State.onWafer_shadow (s : State) (g : Wafer → Wafer) : (s.onWafer g).shadow = s.shadow := rfl
@[simp] theorem State.onWafer_wafer (s : State) (g : Wafer → Wafer) : (s.onWafer g).wafer = g s.wafer := rfl
@[simp] theorem State.onWafer_mem (s : State) (g : Wafer → Wafer) : (s.onWafer g).mem = s.mem := rfl
@[simp] theorem State.onWafer_cores (s : State) (g : Wafer → Wafer) : (s.onWafer g).cores = s.cores := rfl
@[simp] theorem State.onWafer_sync (s : State) (g : Wafer → Wafer) : (s.onWafer g).sync = s.sync := rfl
@[simp] theorem State.onWafer_ledger (s : State) (g : Wafer → Wafer) : (s.onWafer g).ledger = s.ledger := rfl
@[simp] theorem State.onWafer_replay (s : State) (g : Wafer → Wafer) : (s.onWafer g).replay = s.replay := rfl
@[simp] theorem State.onWafer_tjl (s : State) (g : Wafer → Wafer) : (s.onWafer g).tjl = s.tjl := rfl
@[simp] theorem State.onWafer_hosts (s : State) (g : Wafer → Wafer) : (s.onWafer g).hosts = s.hosts := rfl
@[simp] theorem State.onWafer_logs (s : State) (g : Wafer → Wafer) : (s.onWafer g).logs = s.logs := rfl
@[simp] theorem State.onWafer_guard (s : State) (g : Wafer → Wafer) : (s.onWafer g).guard = s.guard := rfl
@[simp] theorem State.onWafer_parts (s : State) (g : Wafer → Wafer) : (s.onWafer g).parts = s.parts := rfl
@[simp] theorem State.onWafer_dbg (s : State) (g : Wafer → Wafer) : (s.onWafer g).dbg = s.dbg := rfl
@[simp] theorem State.onWafer_sec (s : State) (g : Wafer → Wafer) : (s.onWafer g).sec = s.sec := rfl
@[simp] theorem State.onWafer_boot (s : State) (g : Wafer → Wafer) : (s.onWafer g).boot = s.boot := rfl
@[simp] theorem State.onWafer_repo (s : State) (g : Wafer → Wafer) : (s.onWafer g).repo = s.repo := rfl
@[simp] theorem State.onWafer_side (s : State) (g : Wafer → Wafer) : (s.onWafer g).side = s.side := rfl
@[simp] theorem State.onWafer_rd (s : State) (g : Wafer → Wafer) (f : Field) (i : Nat) : (s.onWafer g).rd f i = s.rd f i := rfl
@[simp] theorem State.onMem_pending (s : State) (g : Mem → Mem) : (s.onMem g).pending = s.pending := rfl
@[simp] theorem State.onMem_out (s : State) (g : Mem → Mem) : (s.onMem g).out = s.out := rfl
@[simp] theorem State.onMem_fresh (s : State) (g : Mem → Mem) : (s.onMem g).fresh = s.fresh := rfl
@[simp] theorem State.onMem_now (s : State) (g : Mem → Mem) : (s.onMem g).now = s.now := rfl
@[simp] theorem State.onMem_regs (s : State) (g : Mem → Mem) : (s.onMem g).regs = s.regs := rfl
@[simp] theorem State.onMem_staged (s : State) (g : Mem → Mem) : (s.onMem g).staged = s.staged := rfl
@[simp] theorem State.onMem_shadow (s : State) (g : Mem → Mem) : (s.onMem g).shadow = s.shadow := rfl
@[simp] theorem State.onMem_wafer (s : State) (g : Mem → Mem) : (s.onMem g).wafer = s.wafer := rfl
@[simp] theorem State.onMem_mem (s : State) (g : Mem → Mem) : (s.onMem g).mem = g s.mem := rfl
@[simp] theorem State.onMem_cores (s : State) (g : Mem → Mem) : (s.onMem g).cores = s.cores := rfl
@[simp] theorem State.onMem_sync (s : State) (g : Mem → Mem) : (s.onMem g).sync = s.sync := rfl
@[simp] theorem State.onMem_ledger (s : State) (g : Mem → Mem) : (s.onMem g).ledger = s.ledger := rfl
@[simp] theorem State.onMem_replay (s : State) (g : Mem → Mem) : (s.onMem g).replay = s.replay := rfl
@[simp] theorem State.onMem_tjl (s : State) (g : Mem → Mem) : (s.onMem g).tjl = s.tjl := rfl
@[simp] theorem State.onMem_hosts (s : State) (g : Mem → Mem) : (s.onMem g).hosts = s.hosts := rfl
@[simp] theorem State.onMem_logs (s : State) (g : Mem → Mem) : (s.onMem g).logs = s.logs := rfl
@[simp] theorem State.onMem_guard (s : State) (g : Mem → Mem) : (s.onMem g).guard = s.guard := rfl
@[simp] theorem State.onMem_parts (s : State) (g : Mem → Mem) : (s.onMem g).parts = s.parts := rfl
@[simp] theorem State.onMem_dbg (s : State) (g : Mem → Mem) : (s.onMem g).dbg = s.dbg := rfl
@[simp] theorem State.onMem_sec (s : State) (g : Mem → Mem) : (s.onMem g).sec = s.sec := rfl
@[simp] theorem State.onMem_boot (s : State) (g : Mem → Mem) : (s.onMem g).boot = s.boot := rfl
@[simp] theorem State.onMem_repo (s : State) (g : Mem → Mem) : (s.onMem g).repo = s.repo := rfl
@[simp] theorem State.onMem_side (s : State) (g : Mem → Mem) : (s.onMem g).side = s.side := rfl
@[simp] theorem State.onMem_rd (s : State) (g : Mem → Mem) (f : Field) (i : Nat) : (s.onMem g).rd f i = s.rd f i := rfl
@[simp] theorem State.onCores_pending (s : State) (g : Cores → Cores) : (s.onCores g).pending = s.pending := rfl
@[simp] theorem State.onCores_out (s : State) (g : Cores → Cores) : (s.onCores g).out = s.out := rfl
@[simp] theorem State.onCores_fresh (s : State) (g : Cores → Cores) : (s.onCores g).fresh = s.fresh := rfl
@[simp] theorem State.onCores_now (s : State) (g : Cores → Cores) : (s.onCores g).now = s.now := rfl
@[simp] theorem State.onCores_regs (s : State) (g : Cores → Cores) : (s.onCores g).regs = s.regs := rfl
@[simp] theorem State.onCores_staged (s : State) (g : Cores → Cores) : (s.onCores g).staged = s.staged := rfl
@[simp] theorem State.onCores_shadow (s : State) (g : Cores → Cores) : (s.onCores g).shadow = s.shadow := rfl
@[simp] theorem State.onCores_wafer (s : State) (g : Cores → Cores) : (s.onCores g).wafer = s.wafer := rfl
@[simp] theorem State.onCores_mem (s : State) (g : Cores → Cores) : (s.onCores g).mem = s.mem := rfl
@[simp] theorem State.onCores_cores (s : State) (g : Cores → Cores) : (s.onCores g).cores = g s.cores := rfl
@[simp] theorem State.onCores_sync (s : State) (g : Cores → Cores) : (s.onCores g).sync = s.sync := rfl
@[simp] theorem State.onCores_ledger (s : State) (g : Cores → Cores) : (s.onCores g).ledger = s.ledger := rfl
@[simp] theorem State.onCores_replay (s : State) (g : Cores → Cores) : (s.onCores g).replay = s.replay := rfl
@[simp] theorem State.onCores_tjl (s : State) (g : Cores → Cores) : (s.onCores g).tjl = s.tjl := rfl
@[simp] theorem State.onCores_hosts (s : State) (g : Cores → Cores) : (s.onCores g).hosts = s.hosts := rfl
@[simp] theorem State.onCores_logs (s : State) (g : Cores → Cores) : (s.onCores g).logs = s.logs := rfl
@[simp] theorem State.onCores_guard (s : State) (g : Cores → Cores) : (s.onCores g).guard = s.guard := rfl
@[simp] theorem State.onCores_parts (s : State) (g : Cores → Cores) : (s.onCores g).parts = s.parts := rfl
@[simp] theorem State.onCores_dbg (s : State) (g : Cores → Cores) : (s.onCores g).dbg = s.dbg := rfl
@[simp] theorem State.onCores_sec (s : State) (g : Cores → Cores) : (s.onCores g).sec = s.sec := rfl
@[simp] theorem State.onCores_boot (s : State) (g : Cores → Cores) : (s.onCores g).boot = s.boot := rfl
@[simp] theorem State.onCores_repo (s : State) (g : Cores → Cores) : (s.onCores g).repo = s.repo := rfl
@[simp] theorem State.onCores_side (s : State) (g : Cores → Cores) : (s.onCores g).side = s.side := rfl
@[simp] theorem State.onCores_rd (s : State) (g : Cores → Cores) (f : Field) (i : Nat) : (s.onCores g).rd f i = s.rd f i := rfl
@[simp] theorem State.onSync_pending (s : State) (g : Sync → Sync) : (s.onSync g).pending = s.pending := rfl
@[simp] theorem State.onSync_out (s : State) (g : Sync → Sync) : (s.onSync g).out = s.out := rfl
@[simp] theorem State.onSync_fresh (s : State) (g : Sync → Sync) : (s.onSync g).fresh = s.fresh := rfl
@[simp] theorem State.onSync_now (s : State) (g : Sync → Sync) : (s.onSync g).now = s.now := rfl
@[simp] theorem State.onSync_regs (s : State) (g : Sync → Sync) : (s.onSync g).regs = s.regs := rfl
@[simp] theorem State.onSync_staged (s : State) (g : Sync → Sync) : (s.onSync g).staged = s.staged := rfl
@[simp] theorem State.onSync_shadow (s : State) (g : Sync → Sync) : (s.onSync g).shadow = s.shadow := rfl
@[simp] theorem State.onSync_wafer (s : State) (g : Sync → Sync) : (s.onSync g).wafer = s.wafer := rfl
@[simp] theorem State.onSync_mem (s : State) (g : Sync → Sync) : (s.onSync g).mem = s.mem := rfl
@[simp] theorem State.onSync_cores (s : State) (g : Sync → Sync) : (s.onSync g).cores = s.cores := rfl
@[simp] theorem State.onSync_sync (s : State) (g : Sync → Sync) : (s.onSync g).sync = g s.sync := rfl
@[simp] theorem State.onSync_ledger (s : State) (g : Sync → Sync) : (s.onSync g).ledger = s.ledger := rfl
@[simp] theorem State.onSync_replay (s : State) (g : Sync → Sync) : (s.onSync g).replay = s.replay := rfl
@[simp] theorem State.onSync_tjl (s : State) (g : Sync → Sync) : (s.onSync g).tjl = s.tjl := rfl
@[simp] theorem State.onSync_hosts (s : State) (g : Sync → Sync) : (s.onSync g).hosts = s.hosts := rfl
@[simp] theorem State.onSync_logs (s : State) (g : Sync → Sync) : (s.onSync g).logs = s.logs := rfl
@[simp] theorem State.onSync_guard (s : State) (g : Sync → Sync) : (s.onSync g).guard = s.guard := rfl
@[simp] theorem State.onSync_parts (s : State) (g : Sync → Sync) : (s.onSync g).parts = s.parts := rfl
@[simp] theorem State.onSync_dbg (s : State) (g : Sync → Sync) : (s.onSync g).dbg = s.dbg := rfl
@[simp] theorem State.onSync_sec (s : State) (g : Sync → Sync) : (s.onSync g).sec = s.sec := rfl
@[simp] theorem State.onSync_boot (s : State) (g : Sync → Sync) : (s.onSync g).boot = s.boot := rfl
@[simp] theorem State.onSync_repo (s : State) (g : Sync → Sync) : (s.onSync g).repo = s.repo := rfl
@[simp] theorem State.onSync_side (s : State) (g : Sync → Sync) : (s.onSync g).side = s.side := rfl
@[simp] theorem State.onSync_rd (s : State) (g : Sync → Sync) (f : Field) (i : Nat) : (s.onSync g).rd f i = s.rd f i := rfl
@[simp] theorem State.onHosts_pending (s : State) (g : HostU → HostU) : (s.onHosts g).pending = s.pending := rfl
@[simp] theorem State.onHosts_out (s : State) (g : HostU → HostU) : (s.onHosts g).out = s.out := rfl
@[simp] theorem State.onHosts_fresh (s : State) (g : HostU → HostU) : (s.onHosts g).fresh = s.fresh := rfl
@[simp] theorem State.onHosts_now (s : State) (g : HostU → HostU) : (s.onHosts g).now = s.now := rfl
@[simp] theorem State.onHosts_regs (s : State) (g : HostU → HostU) : (s.onHosts g).regs = s.regs := rfl
@[simp] theorem State.onHosts_staged (s : State) (g : HostU → HostU) : (s.onHosts g).staged = s.staged := rfl
@[simp] theorem State.onHosts_shadow (s : State) (g : HostU → HostU) : (s.onHosts g).shadow = s.shadow := rfl
@[simp] theorem State.onHosts_wafer (s : State) (g : HostU → HostU) : (s.onHosts g).wafer = s.wafer := rfl
@[simp] theorem State.onHosts_mem (s : State) (g : HostU → HostU) : (s.onHosts g).mem = s.mem := rfl
@[simp] theorem State.onHosts_cores (s : State) (g : HostU → HostU) : (s.onHosts g).cores = s.cores := rfl
@[simp] theorem State.onHosts_sync (s : State) (g : HostU → HostU) : (s.onHosts g).sync = s.sync := rfl
@[simp] theorem State.onHosts_ledger (s : State) (g : HostU → HostU) : (s.onHosts g).ledger = s.ledger := rfl
@[simp] theorem State.onHosts_replay (s : State) (g : HostU → HostU) : (s.onHosts g).replay = s.replay := rfl
@[simp] theorem State.onHosts_tjl (s : State) (g : HostU → HostU) : (s.onHosts g).tjl = s.tjl := rfl
@[simp] theorem State.onHosts_hosts (s : State) (g : HostU → HostU) : (s.onHosts g).hosts = g s.hosts := rfl
@[simp] theorem State.onHosts_logs (s : State) (g : HostU → HostU) : (s.onHosts g).logs = s.logs := rfl
@[simp] theorem State.onHosts_guard (s : State) (g : HostU → HostU) : (s.onHosts g).guard = s.guard := rfl
@[simp] theorem State.onHosts_parts (s : State) (g : HostU → HostU) : (s.onHosts g).parts = s.parts := rfl
@[simp] theorem State.onHosts_dbg (s : State) (g : HostU → HostU) : (s.onHosts g).dbg = s.dbg := rfl
@[simp] theorem State.onHosts_sec (s : State) (g : HostU → HostU) : (s.onHosts g).sec = s.sec := rfl
@[simp] theorem State.onHosts_boot (s : State) (g : HostU → HostU) : (s.onHosts g).boot = s.boot := rfl
@[simp] theorem State.onHosts_repo (s : State) (g : HostU → HostU) : (s.onHosts g).repo = s.repo := rfl
@[simp] theorem State.onHosts_side (s : State) (g : HostU → HostU) : (s.onHosts g).side = s.side := rfl
@[simp] theorem State.onHosts_rd (s : State) (g : HostU → HostU) (f : Field) (i : Nat) : (s.onHosts g).rd f i = s.rd f i := rfl
@[simp] theorem State.onLedger_pending (s : State) (g : Ledger → Ledger) : (s.onLedger g).pending = s.pending := rfl
@[simp] theorem State.onLedger_out (s : State) (g : Ledger → Ledger) : (s.onLedger g).out = s.out := rfl
@[simp] theorem State.onLedger_fresh (s : State) (g : Ledger → Ledger) : (s.onLedger g).fresh = s.fresh := rfl
@[simp] theorem State.onLedger_now (s : State) (g : Ledger → Ledger) : (s.onLedger g).now = s.now := rfl
@[simp] theorem State.onLedger_regs (s : State) (g : Ledger → Ledger) : (s.onLedger g).regs = s.regs := rfl
@[simp] theorem State.onLedger_staged (s : State) (g : Ledger → Ledger) : (s.onLedger g).staged = s.staged := rfl
@[simp] theorem State.onLedger_shadow (s : State) (g : Ledger → Ledger) : (s.onLedger g).shadow = s.shadow := rfl
@[simp] theorem State.onLedger_wafer (s : State) (g : Ledger → Ledger) : (s.onLedger g).wafer = s.wafer := rfl
@[simp] theorem State.onLedger_mem (s : State) (g : Ledger → Ledger) : (s.onLedger g).mem = s.mem := rfl
@[simp] theorem State.onLedger_cores (s : State) (g : Ledger → Ledger) : (s.onLedger g).cores = s.cores := rfl
@[simp] theorem State.onLedger_sync (s : State) (g : Ledger → Ledger) : (s.onLedger g).sync = s.sync := rfl
@[simp] theorem State.onLedger_ledger (s : State) (g : Ledger → Ledger) : (s.onLedger g).ledger = g s.ledger := rfl
@[simp] theorem State.onLedger_replay (s : State) (g : Ledger → Ledger) : (s.onLedger g).replay = s.replay := rfl
@[simp] theorem State.onLedger_tjl (s : State) (g : Ledger → Ledger) : (s.onLedger g).tjl = s.tjl := rfl
@[simp] theorem State.onLedger_hosts (s : State) (g : Ledger → Ledger) : (s.onLedger g).hosts = s.hosts := rfl
@[simp] theorem State.onLedger_logs (s : State) (g : Ledger → Ledger) : (s.onLedger g).logs = s.logs := rfl
@[simp] theorem State.onLedger_guard (s : State) (g : Ledger → Ledger) : (s.onLedger g).guard = s.guard := rfl
@[simp] theorem State.onLedger_parts (s : State) (g : Ledger → Ledger) : (s.onLedger g).parts = s.parts := rfl
@[simp] theorem State.onLedger_dbg (s : State) (g : Ledger → Ledger) : (s.onLedger g).dbg = s.dbg := rfl
@[simp] theorem State.onLedger_sec (s : State) (g : Ledger → Ledger) : (s.onLedger g).sec = s.sec := rfl
@[simp] theorem State.onLedger_boot (s : State) (g : Ledger → Ledger) : (s.onLedger g).boot = s.boot := rfl
@[simp] theorem State.onLedger_repo (s : State) (g : Ledger → Ledger) : (s.onLedger g).repo = s.repo := rfl
@[simp] theorem State.onLedger_side (s : State) (g : Ledger → Ledger) : (s.onLedger g).side = s.side := rfl
@[simp] theorem State.onLedger_rd (s : State) (g : Ledger → Ledger) (f : Field) (i : Nat) : (s.onLedger g).rd f i = s.rd f i := rfl
@[simp] theorem State.onReplay_pending (s : State) (g : Replay → Replay) : (s.onReplay g).pending = s.pending := rfl
@[simp] theorem State.onReplay_out (s : State) (g : Replay → Replay) : (s.onReplay g).out = s.out := rfl
@[simp] theorem State.onReplay_fresh (s : State) (g : Replay → Replay) : (s.onReplay g).fresh = s.fresh := rfl
@[simp] theorem State.onReplay_now (s : State) (g : Replay → Replay) : (s.onReplay g).now = s.now := rfl
@[simp] theorem State.onReplay_regs (s : State) (g : Replay → Replay) : (s.onReplay g).regs = s.regs := rfl
@[simp] theorem State.onReplay_staged (s : State) (g : Replay → Replay) : (s.onReplay g).staged = s.staged := rfl
@[simp] theorem State.onReplay_shadow (s : State) (g : Replay → Replay) : (s.onReplay g).shadow = s.shadow := rfl
@[simp] theorem State.onReplay_wafer (s : State) (g : Replay → Replay) : (s.onReplay g).wafer = s.wafer := rfl
@[simp] theorem State.onReplay_mem (s : State) (g : Replay → Replay) : (s.onReplay g).mem = s.mem := rfl
@[simp] theorem State.onReplay_cores (s : State) (g : Replay → Replay) : (s.onReplay g).cores = s.cores := rfl
@[simp] theorem State.onReplay_sync (s : State) (g : Replay → Replay) : (s.onReplay g).sync = s.sync := rfl
@[simp] theorem State.onReplay_ledger (s : State) (g : Replay → Replay) : (s.onReplay g).ledger = s.ledger := rfl
@[simp] theorem State.onReplay_replay (s : State) (g : Replay → Replay) : (s.onReplay g).replay = g s.replay := rfl
@[simp] theorem State.onReplay_tjl (s : State) (g : Replay → Replay) : (s.onReplay g).tjl = s.tjl := rfl
@[simp] theorem State.onReplay_hosts (s : State) (g : Replay → Replay) : (s.onReplay g).hosts = s.hosts := rfl
@[simp] theorem State.onReplay_logs (s : State) (g : Replay → Replay) : (s.onReplay g).logs = s.logs := rfl
@[simp] theorem State.onReplay_guard (s : State) (g : Replay → Replay) : (s.onReplay g).guard = s.guard := rfl
@[simp] theorem State.onReplay_parts (s : State) (g : Replay → Replay) : (s.onReplay g).parts = s.parts := rfl
@[simp] theorem State.onReplay_dbg (s : State) (g : Replay → Replay) : (s.onReplay g).dbg = s.dbg := rfl
@[simp] theorem State.onReplay_sec (s : State) (g : Replay → Replay) : (s.onReplay g).sec = s.sec := rfl
@[simp] theorem State.onReplay_boot (s : State) (g : Replay → Replay) : (s.onReplay g).boot = s.boot := rfl
@[simp] theorem State.onReplay_repo (s : State) (g : Replay → Replay) : (s.onReplay g).repo = s.repo := rfl
@[simp] theorem State.onReplay_side (s : State) (g : Replay → Replay) : (s.onReplay g).side = s.side := rfl
@[simp] theorem State.onReplay_rd (s : State) (g : Replay → Replay) (f : Field) (i : Nat) : (s.onReplay g).rd f i = s.rd f i := rfl
@[simp] theorem State.onGuard_pending (s : State) (g : GuardU → GuardU) : (s.onGuard g).pending = s.pending := rfl
@[simp] theorem State.onGuard_out (s : State) (g : GuardU → GuardU) : (s.onGuard g).out = s.out := rfl
@[simp] theorem State.onGuard_fresh (s : State) (g : GuardU → GuardU) : (s.onGuard g).fresh = s.fresh := rfl
@[simp] theorem State.onGuard_now (s : State) (g : GuardU → GuardU) : (s.onGuard g).now = s.now := rfl
@[simp] theorem State.onGuard_regs (s : State) (g : GuardU → GuardU) : (s.onGuard g).regs = s.regs := rfl
@[simp] theorem State.onGuard_staged (s : State) (g : GuardU → GuardU) : (s.onGuard g).staged = s.staged := rfl
@[simp] theorem State.onGuard_shadow (s : State) (g : GuardU → GuardU) : (s.onGuard g).shadow = s.shadow := rfl
@[simp] theorem State.onGuard_wafer (s : State) (g : GuardU → GuardU) : (s.onGuard g).wafer = s.wafer := rfl
@[simp] theorem State.onGuard_mem (s : State) (g : GuardU → GuardU) : (s.onGuard g).mem = s.mem := rfl
@[simp] theorem State.onGuard_cores (s : State) (g : GuardU → GuardU) : (s.onGuard g).cores = s.cores := rfl
@[simp] theorem State.onGuard_sync (s : State) (g : GuardU → GuardU) : (s.onGuard g).sync = s.sync := rfl
@[simp] theorem State.onGuard_ledger (s : State) (g : GuardU → GuardU) : (s.onGuard g).ledger = s.ledger := rfl
@[simp] theorem State.onGuard_replay (s : State) (g : GuardU → GuardU) : (s.onGuard g).replay = s.replay := rfl
@[simp] theorem State.onGuard_tjl (s : State) (g : GuardU → GuardU) : (s.onGuard g).tjl = s.tjl := rfl
@[simp] theorem State.onGuard_hosts (s : State) (g : GuardU → GuardU) : (s.onGuard g).hosts = s.hosts := rfl
@[simp] theorem State.onGuard_logs (s : State) (g : GuardU → GuardU) : (s.onGuard g).logs = s.logs := rfl
@[simp] theorem State.onGuard_guard (s : State) (g : GuardU → GuardU) : (s.onGuard g).guard = g s.guard := rfl
@[simp] theorem State.onGuard_parts (s : State) (g : GuardU → GuardU) : (s.onGuard g).parts = s.parts := rfl
@[simp] theorem State.onGuard_dbg (s : State) (g : GuardU → GuardU) : (s.onGuard g).dbg = s.dbg := rfl
@[simp] theorem State.onGuard_sec (s : State) (g : GuardU → GuardU) : (s.onGuard g).sec = s.sec := rfl
@[simp] theorem State.onGuard_boot (s : State) (g : GuardU → GuardU) : (s.onGuard g).boot = s.boot := rfl
@[simp] theorem State.onGuard_repo (s : State) (g : GuardU → GuardU) : (s.onGuard g).repo = s.repo := rfl
@[simp] theorem State.onGuard_side (s : State) (g : GuardU → GuardU) : (s.onGuard g).side = s.side := rfl
@[simp] theorem State.onGuard_rd (s : State) (g : GuardU → GuardU) (f : Field) (i : Nat) : (s.onGuard g).rd f i = s.rd f i := rfl
@[simp] theorem State.onTjl_pending (s : State) (g : TjlU → TjlU) : (s.onTjl g).pending = s.pending := rfl
@[simp] theorem State.onTjl_out (s : State) (g : TjlU → TjlU) : (s.onTjl g).out = s.out := rfl
@[simp] theorem State.onTjl_fresh (s : State) (g : TjlU → TjlU) : (s.onTjl g).fresh = s.fresh := rfl
@[simp] theorem State.onTjl_now (s : State) (g : TjlU → TjlU) : (s.onTjl g).now = s.now := rfl
@[simp] theorem State.onTjl_regs (s : State) (g : TjlU → TjlU) : (s.onTjl g).regs = s.regs := rfl
@[simp] theorem State.onTjl_staged (s : State) (g : TjlU → TjlU) : (s.onTjl g).staged = s.staged := rfl
@[simp] theorem State.onTjl_shadow (s : State) (g : TjlU → TjlU) : (s.onTjl g).shadow = s.shadow := rfl
@[simp] theorem State.onTjl_wafer (s : State) (g : TjlU → TjlU) : (s.onTjl g).wafer = s.wafer := rfl
@[simp] theorem State.onTjl_mem (s : State) (g : TjlU → TjlU) : (s.onTjl g).mem = s.mem := rfl
@[simp] theorem State.onTjl_cores (s : State) (g : TjlU → TjlU) : (s.onTjl g).cores = s.cores := rfl
@[simp] theorem State.onTjl_sync (s : State) (g : TjlU → TjlU) : (s.onTjl g).sync = s.sync := rfl
@[simp] theorem State.onTjl_ledger (s : State) (g : TjlU → TjlU) : (s.onTjl g).ledger = s.ledger := rfl
@[simp] theorem State.onTjl_replay (s : State) (g : TjlU → TjlU) : (s.onTjl g).replay = s.replay := rfl
@[simp] theorem State.onTjl_tjl (s : State) (g : TjlU → TjlU) : (s.onTjl g).tjl = g s.tjl := rfl
@[simp] theorem State.onTjl_hosts (s : State) (g : TjlU → TjlU) : (s.onTjl g).hosts = s.hosts := rfl
@[simp] theorem State.onTjl_logs (s : State) (g : TjlU → TjlU) : (s.onTjl g).logs = s.logs := rfl
@[simp] theorem State.onTjl_guard (s : State) (g : TjlU → TjlU) : (s.onTjl g).guard = s.guard := rfl
@[simp] theorem State.onTjl_parts (s : State) (g : TjlU → TjlU) : (s.onTjl g).parts = s.parts := rfl
@[simp] theorem State.onTjl_dbg (s : State) (g : TjlU → TjlU) : (s.onTjl g).dbg = s.dbg := rfl
@[simp] theorem State.onTjl_sec (s : State) (g : TjlU → TjlU) : (s.onTjl g).sec = s.sec := rfl
@[simp] theorem State.onTjl_boot (s : State) (g : TjlU → TjlU) : (s.onTjl g).boot = s.boot := rfl
@[simp] theorem State.onTjl_repo (s : State) (g : TjlU → TjlU) : (s.onTjl g).repo = s.repo := rfl
@[simp] theorem State.onTjl_side (s : State) (g : TjlU → TjlU) : (s.onTjl g).side = s.side := rfl
@[simp] theorem State.onTjl_rd (s : State) (g : TjlU → TjlU) (f : Field) (i : Nat) : (s.onTjl g).rd f i = s.rd f i := rfl
@[simp] theorem State.onSec_pending (s : State) (g : SecU → SecU) : (s.onSec g).pending = s.pending := rfl
@[simp] theorem State.onSec_out (s : State) (g : SecU → SecU) : (s.onSec g).out = s.out := rfl
@[simp] theorem State.onSec_fresh (s : State) (g : SecU → SecU) : (s.onSec g).fresh = s.fresh := rfl
@[simp] theorem State.onSec_now (s : State) (g : SecU → SecU) : (s.onSec g).now = s.now := rfl
@[simp] theorem State.onSec_regs (s : State) (g : SecU → SecU) : (s.onSec g).regs = s.regs := rfl
@[simp] theorem State.onSec_staged (s : State) (g : SecU → SecU) : (s.onSec g).staged = s.staged := rfl
@[simp] theorem State.onSec_shadow (s : State) (g : SecU → SecU) : (s.onSec g).shadow = s.shadow := rfl
@[simp] theorem State.onSec_wafer (s : State) (g : SecU → SecU) : (s.onSec g).wafer = s.wafer := rfl
@[simp] theorem State.onSec_mem (s : State) (g : SecU → SecU) : (s.onSec g).mem = s.mem := rfl
@[simp] theorem State.onSec_cores (s : State) (g : SecU → SecU) : (s.onSec g).cores = s.cores := rfl
@[simp] theorem State.onSec_sync (s : State) (g : SecU → SecU) : (s.onSec g).sync = s.sync := rfl
@[simp] theorem State.onSec_ledger (s : State) (g : SecU → SecU) : (s.onSec g).ledger = s.ledger := rfl
@[simp] theorem State.onSec_replay (s : State) (g : SecU → SecU) : (s.onSec g).replay = s.replay := rfl
@[simp] theorem State.onSec_tjl (s : State) (g : SecU → SecU) : (s.onSec g).tjl = s.tjl := rfl
@[simp] theorem State.onSec_hosts (s : State) (g : SecU → SecU) : (s.onSec g).hosts = s.hosts := rfl
@[simp] theorem State.onSec_logs (s : State) (g : SecU → SecU) : (s.onSec g).logs = s.logs := rfl
@[simp] theorem State.onSec_guard (s : State) (g : SecU → SecU) : (s.onSec g).guard = s.guard := rfl
@[simp] theorem State.onSec_parts (s : State) (g : SecU → SecU) : (s.onSec g).parts = s.parts := rfl
@[simp] theorem State.onSec_dbg (s : State) (g : SecU → SecU) : (s.onSec g).dbg = s.dbg := rfl
@[simp] theorem State.onSec_sec (s : State) (g : SecU → SecU) : (s.onSec g).sec = g s.sec := rfl
@[simp] theorem State.onSec_boot (s : State) (g : SecU → SecU) : (s.onSec g).boot = s.boot := rfl
@[simp] theorem State.onSec_repo (s : State) (g : SecU → SecU) : (s.onSec g).repo = s.repo := rfl
@[simp] theorem State.onSec_side (s : State) (g : SecU → SecU) : (s.onSec g).side = s.side := rfl
@[simp] theorem State.onSec_rd (s : State) (g : SecU → SecU) (f : Field) (i : Nat) : (s.onSec g).rd f i = s.rd f i := rfl
@[simp] theorem State.onBoot_pending (s : State) (g : BootU → BootU) : (s.onBoot g).pending = s.pending := rfl
@[simp] theorem State.onBoot_out (s : State) (g : BootU → BootU) : (s.onBoot g).out = s.out := rfl
@[simp] theorem State.onBoot_fresh (s : State) (g : BootU → BootU) : (s.onBoot g).fresh = s.fresh := rfl
@[simp] theorem State.onBoot_now (s : State) (g : BootU → BootU) : (s.onBoot g).now = s.now := rfl
@[simp] theorem State.onBoot_regs (s : State) (g : BootU → BootU) : (s.onBoot g).regs = s.regs := rfl
@[simp] theorem State.onBoot_staged (s : State) (g : BootU → BootU) : (s.onBoot g).staged = s.staged := rfl
@[simp] theorem State.onBoot_shadow (s : State) (g : BootU → BootU) : (s.onBoot g).shadow = s.shadow := rfl
@[simp] theorem State.onBoot_wafer (s : State) (g : BootU → BootU) : (s.onBoot g).wafer = s.wafer := rfl
@[simp] theorem State.onBoot_mem (s : State) (g : BootU → BootU) : (s.onBoot g).mem = s.mem := rfl
@[simp] theorem State.onBoot_cores (s : State) (g : BootU → BootU) : (s.onBoot g).cores = s.cores := rfl
@[simp] theorem State.onBoot_sync (s : State) (g : BootU → BootU) : (s.onBoot g).sync = s.sync := rfl
@[simp] theorem State.onBoot_ledger (s : State) (g : BootU → BootU) : (s.onBoot g).ledger = s.ledger := rfl
@[simp] theorem State.onBoot_replay (s : State) (g : BootU → BootU) : (s.onBoot g).replay = s.replay := rfl
@[simp] theorem State.onBoot_tjl (s : State) (g : BootU → BootU) : (s.onBoot g).tjl = s.tjl := rfl
@[simp] theorem State.onBoot_hosts (s : State) (g : BootU → BootU) : (s.onBoot g).hosts = s.hosts := rfl
@[simp] theorem State.onBoot_logs (s : State) (g : BootU → BootU) : (s.onBoot g).logs = s.logs := rfl
@[simp] theorem State.onBoot_guard (s : State) (g : BootU → BootU) : (s.onBoot g).guard = s.guard := rfl
@[simp] theorem State.onBoot_parts (s : State) (g : BootU → BootU) : (s.onBoot g).parts = s.parts := rfl
@[simp] theorem State.onBoot_dbg (s : State) (g : BootU → BootU) : (s.onBoot g).dbg = s.dbg := rfl
@[simp] theorem State.onBoot_sec (s : State) (g : BootU → BootU) : (s.onBoot g).sec = s.sec := rfl
@[simp] theorem State.onBoot_boot (s : State) (g : BootU → BootU) : (s.onBoot g).boot = g s.boot := rfl
@[simp] theorem State.onBoot_repo (s : State) (g : BootU → BootU) : (s.onBoot g).repo = s.repo := rfl
@[simp] theorem State.onBoot_side (s : State) (g : BootU → BootU) : (s.onBoot g).side = s.side := rfl
@[simp] theorem State.onBoot_rd (s : State) (g : BootU → BootU) (f : Field) (i : Nat) : (s.onBoot g).rd f i = s.rd f i := rfl
@[simp] theorem State.onRepo_pending (s : State) (g : RepoU → RepoU) : (s.onRepo g).pending = s.pending := rfl
@[simp] theorem State.onRepo_out (s : State) (g : RepoU → RepoU) : (s.onRepo g).out = s.out := rfl
@[simp] theorem State.onRepo_fresh (s : State) (g : RepoU → RepoU) : (s.onRepo g).fresh = s.fresh := rfl
@[simp] theorem State.onRepo_now (s : State) (g : RepoU → RepoU) : (s.onRepo g).now = s.now := rfl
@[simp] theorem State.onRepo_regs (s : State) (g : RepoU → RepoU) : (s.onRepo g).regs = s.regs := rfl
@[simp] theorem State.onRepo_staged (s : State) (g : RepoU → RepoU) : (s.onRepo g).staged = s.staged := rfl
@[simp] theorem State.onRepo_shadow (s : State) (g : RepoU → RepoU) : (s.onRepo g).shadow = s.shadow := rfl
@[simp] theorem State.onRepo_wafer (s : State) (g : RepoU → RepoU) : (s.onRepo g).wafer = s.wafer := rfl
@[simp] theorem State.onRepo_mem (s : State) (g : RepoU → RepoU) : (s.onRepo g).mem = s.mem := rfl
@[simp] theorem State.onRepo_cores (s : State) (g : RepoU → RepoU) : (s.onRepo g).cores = s.cores := rfl
@[simp] theorem State.onRepo_sync (s : State) (g : RepoU → RepoU) : (s.onRepo g).sync = s.sync := rfl
@[simp] theorem State.onRepo_ledger (s : State) (g : RepoU → RepoU) : (s.onRepo g).ledger = s.ledger := rfl
@[simp] theorem State.onRepo_replay (s : State) (g : RepoU → RepoU) : (s.onRepo g).replay = s.replay := rfl
@[simp] theorem State.onRepo_tjl (s : State) (g : RepoU → RepoU) : (s.onRepo g).tjl = s.tjl := rfl
@[simp] theorem State.onRepo_hosts (s : State) (g : RepoU → RepoU) : (s.onRepo g).hosts = s.hosts := rfl
@[simp] theorem State.onRepo_logs (s : State) (g : RepoU → RepoU) : (s.onRepo g).logs = s.logs := rfl
@[simp] theorem State.onRepo_guard (s : State) (g : RepoU → RepoU) : (s.onRepo g).guard = s.guard := rfl
@[simp] theorem State.onRepo_parts (s : State) (g : RepoU → RepoU) : (s.onRepo g).parts = s.parts := rfl
@[simp] theorem State.onRepo_dbg (s : State) (g : RepoU → RepoU) : (s.onRepo g).dbg = s.dbg := rfl
@[simp] theorem State.onRepo_sec (s : State) (g : RepoU → RepoU) : (s.onRepo g).sec = s.sec := rfl
@[simp] theorem State.onRepo_boot (s : State) (g : RepoU → RepoU) : (s.onRepo g).boot = s.boot := rfl
@[simp] theorem State.onRepo_repo (s : State) (g : RepoU → RepoU) : (s.onRepo g).repo = g s.repo := rfl
@[simp] theorem State.onRepo_side (s : State) (g : RepoU → RepoU) : (s.onRepo g).side = s.side := rfl
@[simp] theorem State.onRepo_rd (s : State) (g : RepoU → RepoU) (f : Field) (i : Nat) : (s.onRepo g).rd f i = s.rd f i := rfl
@[simp] theorem State.onSide_pending (s : State) (g : SideU → SideU) : (s.onSide g).pending = s.pending := rfl
@[simp] theorem State.onSide_out (s : State) (g : SideU → SideU) : (s.onSide g).out = s.out := rfl
@[simp] theorem State.onSide_fresh (s : State) (g : SideU → SideU) : (s.onSide g).fresh = s.fresh := rfl
@[simp] theorem State.onSide_now (s : State) (g : SideU → SideU) : (s.onSide g).now = s.now := rfl
@[simp] theorem State.onSide_regs (s : State) (g : SideU → SideU) : (s.onSide g).regs = s.regs := rfl
@[simp] theorem State.onSide_staged (s : State) (g : SideU → SideU) : (s.onSide g).staged = s.staged := rfl
@[simp] theorem State.onSide_shadow (s : State) (g : SideU → SideU) : (s.onSide g).shadow = s.shadow := rfl
@[simp] theorem State.onSide_wafer (s : State) (g : SideU → SideU) : (s.onSide g).wafer = s.wafer := rfl
@[simp] theorem State.onSide_mem (s : State) (g : SideU → SideU) : (s.onSide g).mem = s.mem := rfl
@[simp] theorem State.onSide_cores (s : State) (g : SideU → SideU) : (s.onSide g).cores = s.cores := rfl
@[simp] theorem State.onSide_sync (s : State) (g : SideU → SideU) : (s.onSide g).sync = s.sync := rfl
@[simp] theorem State.onSide_ledger (s : State) (g : SideU → SideU) : (s.onSide g).ledger = s.ledger := rfl
@[simp] theorem State.onSide_replay (s : State) (g : SideU → SideU) : (s.onSide g).replay = s.replay := rfl
@[simp] theorem State.onSide_tjl (s : State) (g : SideU → SideU) : (s.onSide g).tjl = s.tjl := rfl
@[simp] theorem State.onSide_hosts (s : State) (g : SideU → SideU) : (s.onSide g).hosts = s.hosts := rfl
@[simp] theorem State.onSide_logs (s : State) (g : SideU → SideU) : (s.onSide g).logs = s.logs := rfl
@[simp] theorem State.onSide_guard (s : State) (g : SideU → SideU) : (s.onSide g).guard = s.guard := rfl
@[simp] theorem State.onSide_parts (s : State) (g : SideU → SideU) : (s.onSide g).parts = s.parts := rfl
@[simp] theorem State.onSide_dbg (s : State) (g : SideU → SideU) : (s.onSide g).dbg = s.dbg := rfl
@[simp] theorem State.onSide_sec (s : State) (g : SideU → SideU) : (s.onSide g).sec = s.sec := rfl
@[simp] theorem State.onSide_boot (s : State) (g : SideU → SideU) : (s.onSide g).boot = s.boot := rfl
@[simp] theorem State.onSide_repo (s : State) (g : SideU → SideU) : (s.onSide g).repo = s.repo := rfl
@[simp] theorem State.onSide_side (s : State) (g : SideU → SideU) : (s.onSide g).side = g s.side := rfl
@[simp] theorem State.onSide_rd (s : State) (g : SideU → SideU) (f : Field) (i : Nat) : (s.onSide g).rd f i = s.rd f i := rfl
@[simp] theorem State.emit_pending (s : State) (o : Out) : (s.emit o).pending = s.pending := rfl
@[simp] theorem State.emit_out (s : State) (o : Out) : (s.emit o).out = o :: s.out := rfl
@[simp] theorem State.emit_fresh (s : State) (o : Out) : (s.emit o).fresh = s.fresh := rfl
@[simp] theorem State.emit_now (s : State) (o : Out) : (s.emit o).now = s.now := rfl
@[simp] theorem State.emit_regs (s : State) (o : Out) : (s.emit o).regs = s.regs := rfl
@[simp] theorem State.emit_staged (s : State) (o : Out) : (s.emit o).staged = s.staged := rfl
@[simp] theorem State.emit_shadow (s : State) (o : Out) : (s.emit o).shadow = s.shadow := rfl
@[simp] theorem State.emit_wafer (s : State) (o : Out) : (s.emit o).wafer = s.wafer := rfl
@[simp] theorem State.emit_mem (s : State) (o : Out) : (s.emit o).mem = s.mem := rfl
@[simp] theorem State.emit_cores (s : State) (o : Out) : (s.emit o).cores = s.cores := rfl
@[simp] theorem State.emit_sync (s : State) (o : Out) : (s.emit o).sync = s.sync := rfl
@[simp] theorem State.emit_ledger (s : State) (o : Out) : (s.emit o).ledger = s.ledger := rfl
@[simp] theorem State.emit_replay (s : State) (o : Out) : (s.emit o).replay = s.replay := rfl
@[simp] theorem State.emit_tjl (s : State) (o : Out) : (s.emit o).tjl = s.tjl := rfl
@[simp] theorem State.emit_hosts (s : State) (o : Out) : (s.emit o).hosts = s.hosts := rfl
@[simp] theorem State.emit_logs (s : State) (o : Out) : (s.emit o).logs = s.logs := rfl
@[simp] theorem State.emit_guard (s : State) (o : Out) : (s.emit o).guard = s.guard := rfl
@[simp] theorem State.emit_parts (s : State) (o : Out) : (s.emit o).parts = s.parts := rfl
@[simp] theorem State.emit_dbg (s : State) (o : Out) : (s.emit o).dbg = s.dbg := rfl
@[simp] theorem State.emit_sec (s : State) (o : Out) : (s.emit o).sec = s.sec := rfl
@[simp] theorem State.emit_boot (s : State) (o : Out) : (s.emit o).boot = s.boot := rfl
@[simp] theorem State.emit_repo (s : State) (o : Out) : (s.emit o).repo = s.repo := rfl
@[simp] theorem State.emit_side (s : State) (o : Out) : (s.emit o).side = s.side := rfl
@[simp] theorem State.emit_rd (s : State) (o : Out) (f : Field) (i : Nat) : (s.emit o).rd f i = s.rd f i := rfl
@[simp] theorem State.used_pending (s : State) : (s.used).pending = s.pending := rfl
@[simp] theorem State.used_out (s : State) : (s.used).out = s.out := rfl
@[simp] theorem State.used_fresh (s : State) : (s.used).fresh = s.fresh + 1 := rfl
@[simp] theorem State.used_now (s : State) : (s.used).now = s.now := rfl
@[simp] theorem State.used_regs (s : State) : (s.used).regs = s.regs := rfl
@[simp] theorem State.used_staged (s : State) : (s.used).staged = s.staged := rfl
@[simp] theorem State.used_shadow (s : State) : (s.used).shadow = s.shadow := rfl
@[simp] theorem State.used_wafer (s : State) : (s.used).wafer = s.wafer := rfl
@[simp] theorem State.used_mem (s : State) : (s.used).mem = s.mem := rfl
@[simp] theorem State.used_cores (s : State) : (s.used).cores = s.cores := rfl
@[simp] theorem State.used_sync (s : State) : (s.used).sync = s.sync := rfl
@[simp] theorem State.used_ledger (s : State) : (s.used).ledger = s.ledger := rfl
@[simp] theorem State.used_replay (s : State) : (s.used).replay = s.replay := rfl
@[simp] theorem State.used_tjl (s : State) : (s.used).tjl = s.tjl := rfl
@[simp] theorem State.used_hosts (s : State) : (s.used).hosts = s.hosts := rfl
@[simp] theorem State.used_logs (s : State) : (s.used).logs = s.logs := rfl
@[simp] theorem State.used_guard (s : State) : (s.used).guard = s.guard := rfl
@[simp] theorem State.used_parts (s : State) : (s.used).parts = s.parts := rfl
@[simp] theorem State.used_dbg (s : State) : (s.used).dbg = s.dbg := rfl
@[simp] theorem State.used_sec (s : State) : (s.used).sec = s.sec := rfl
@[simp] theorem State.used_boot (s : State) : (s.used).boot = s.boot := rfl
@[simp] theorem State.used_repo (s : State) : (s.used).repo = s.repo := rfl
@[simp] theorem State.used_side (s : State) : (s.used).side = s.side := rfl
@[simp] theorem State.used_rd (s : State) (f : Field) (i : Nat) : (s.used).rd f i = s.rd f i := rfl
@[simp] theorem State.wr_pending (s : State) (x : Field) (i v : Nat) : (s.wr x i v).pending = s.pending := rfl
@[simp] theorem State.clr_pending (s : State) (x : Field) (a b : Nat) : (s.clr x a b).pending = s.pending := rfl
@[simp] theorem State.wr_out (s : State) (x : Field) (i v : Nat) : (s.wr x i v).out = s.out := rfl
@[simp] theorem State.clr_out (s : State) (x : Field) (a b : Nat) : (s.clr x a b).out = s.out := rfl
@[simp] theorem State.wr_fresh (s : State) (x : Field) (i v : Nat) : (s.wr x i v).fresh = s.fresh := rfl
@[simp] theorem State.clr_fresh (s : State) (x : Field) (a b : Nat) : (s.clr x a b).fresh = s.fresh := rfl
@[simp] theorem State.wr_now (s : State) (x : Field) (i v : Nat) : (s.wr x i v).now = s.now := rfl
@[simp] theorem State.clr_now (s : State) (x : Field) (a b : Nat) : (s.clr x a b).now = s.now := rfl
@[simp] theorem State.wr_staged (s : State) (x : Field) (i v : Nat) : (s.wr x i v).staged = s.staged := rfl
@[simp] theorem State.clr_staged (s : State) (x : Field) (a b : Nat) : (s.clr x a b).staged = s.staged := rfl
@[simp] theorem State.wr_shadow (s : State) (x : Field) (i v : Nat) : (s.wr x i v).shadow = s.shadow := rfl
@[simp] theorem State.clr_shadow (s : State) (x : Field) (a b : Nat) : (s.clr x a b).shadow = s.shadow := rfl
@[simp] theorem State.wr_wafer (s : State) (x : Field) (i v : Nat) : (s.wr x i v).wafer = s.wafer := rfl
@[simp] theorem State.clr_wafer (s : State) (x : Field) (a b : Nat) : (s.clr x a b).wafer = s.wafer := rfl
@[simp] theorem State.wr_mem (s : State) (x : Field) (i v : Nat) : (s.wr x i v).mem = s.mem := rfl
@[simp] theorem State.clr_mem (s : State) (x : Field) (a b : Nat) : (s.clr x a b).mem = s.mem := rfl
@[simp] theorem State.wr_cores (s : State) (x : Field) (i v : Nat) : (s.wr x i v).cores = s.cores := rfl
@[simp] theorem State.clr_cores (s : State) (x : Field) (a b : Nat) : (s.clr x a b).cores = s.cores := rfl
@[simp] theorem State.wr_sync (s : State) (x : Field) (i v : Nat) : (s.wr x i v).sync = s.sync := rfl
@[simp] theorem State.clr_sync (s : State) (x : Field) (a b : Nat) : (s.clr x a b).sync = s.sync := rfl
@[simp] theorem State.wr_ledger (s : State) (x : Field) (i v : Nat) : (s.wr x i v).ledger = s.ledger := rfl
@[simp] theorem State.clr_ledger (s : State) (x : Field) (a b : Nat) : (s.clr x a b).ledger = s.ledger := rfl
@[simp] theorem State.wr_replay (s : State) (x : Field) (i v : Nat) : (s.wr x i v).replay = s.replay := rfl
@[simp] theorem State.clr_replay (s : State) (x : Field) (a b : Nat) : (s.clr x a b).replay = s.replay := rfl
@[simp] theorem State.wr_tjl (s : State) (x : Field) (i v : Nat) : (s.wr x i v).tjl = s.tjl := rfl
@[simp] theorem State.clr_tjl (s : State) (x : Field) (a b : Nat) : (s.clr x a b).tjl = s.tjl := rfl
@[simp] theorem State.wr_hosts (s : State) (x : Field) (i v : Nat) : (s.wr x i v).hosts = s.hosts := rfl
@[simp] theorem State.clr_hosts (s : State) (x : Field) (a b : Nat) : (s.clr x a b).hosts = s.hosts := rfl
@[simp] theorem State.wr_logs (s : State) (x : Field) (i v : Nat) : (s.wr x i v).logs = s.logs := rfl
@[simp] theorem State.clr_logs (s : State) (x : Field) (a b : Nat) : (s.clr x a b).logs = s.logs := rfl
@[simp] theorem State.wr_guard (s : State) (x : Field) (i v : Nat) : (s.wr x i v).guard = s.guard := rfl
@[simp] theorem State.clr_guard (s : State) (x : Field) (a b : Nat) : (s.clr x a b).guard = s.guard := rfl
@[simp] theorem State.wr_parts (s : State) (x : Field) (i v : Nat) : (s.wr x i v).parts = s.parts := rfl
@[simp] theorem State.clr_parts (s : State) (x : Field) (a b : Nat) : (s.clr x a b).parts = s.parts := rfl
@[simp] theorem State.wr_dbg (s : State) (x : Field) (i v : Nat) : (s.wr x i v).dbg = s.dbg := rfl
@[simp] theorem State.clr_dbg (s : State) (x : Field) (a b : Nat) : (s.clr x a b).dbg = s.dbg := rfl
@[simp] theorem State.wr_sec (s : State) (x : Field) (i v : Nat) : (s.wr x i v).sec = s.sec := rfl
@[simp] theorem State.clr_sec (s : State) (x : Field) (a b : Nat) : (s.clr x a b).sec = s.sec := rfl
@[simp] theorem State.wr_boot (s : State) (x : Field) (i v : Nat) : (s.wr x i v).boot = s.boot := rfl
@[simp] theorem State.clr_boot (s : State) (x : Field) (a b : Nat) : (s.clr x a b).boot = s.boot := rfl
@[simp] theorem State.wr_repo (s : State) (x : Field) (i v : Nat) : (s.wr x i v).repo = s.repo := rfl
@[simp] theorem State.clr_repo (s : State) (x : Field) (a b : Nat) : (s.clr x a b).repo = s.repo := rfl
@[simp] theorem State.wr_side (s : State) (x : Field) (i v : Nat) : (s.wr x i v).side = s.side := rfl
@[simp] theorem State.clr_side (s : State) (x : Field) (a b : Nat) : (s.clr x a b).side = s.side := rfl

/-- A register field reads what was written, cut to its width. -/
@[simp] theorem State.rd_wr_same (s : State) (f : Field) (i v : Nat) : (s.wr f i v).rd f i = v % 2 ^ f.width := by
  simp [State.rd, State.wr]

/-- A write leaves every register field of another number alone. -/
theorem State.rd_wr_ne (s : State) (f g : Field) (i j v : Nat) (h : regKey g j ≠ regKey f i) : (s.wr f i v).rd g j = s.rd g j := by
  unfold State.rd State.wr
  exact Store.get_keyed s.regs f.reset g.reset (regKey f i) (regKey g j) (v % 2 ^ f.width) h

/-- Copies below 2^32 of different fields have different numbers. -/
theorem regKey_ne (f g : Field) (i j : Nat) (h : f.id ≠ g.id) (hi : i < 2 ^ 32) (hj : j < 2 ^ 32) : regKey g j ≠ regKey f i := by
  unfold regKey; omega

/-- Copies of one field have different numbers. -/
theorem regKey_ne_copy (f : Field) (i j : Nat) (h : i ≠ j) : regKey f j ≠ regKey f i := by
  unfold regKey; omega

end Sys2Proof.Machine
end

