-- ==== Sys2Proof/Laws/Ops.lean ====
section
/-! SUPPORT. What each shared operation of Machine/Ops.lean leaves alone, and what is read after each of them. -/

namespace Sys2Proof.Machine

variable {α β : Type}

/-- What an operation of a list keeps, the whole list keeps. -/
theorem State.each_keeps (π : State → β) (s : State) (l : List α) (g : State → α → State) (h : ∀ t a, π (g t a) = π t) : π (s.each l g) = π s := by
  induction l generalizing s with
  | nil => rfl
  | cons a r ih => exact (ih (g s a)).trans (h s a)

/-- A property that an operation of a list keeps, the whole list keeps. -/
theorem State.each_inv (P : State → Prop) (s : State) (l : List α) (g : State → α → State) (h : ∀ t a, P t → P (g t a)) (w : P s) : P (s.each l g) := by
  induction l generalizing s with
  | nil => exact w
  | cons a r ih => exact ih (g s a) (h s a w)

@[simp] theorem State.each_nil (s : State) (g : State → α → State) : s.each [] g = s := rfl
@[simp] theorem State.each_cons (s : State) (a : α) (l : List α) (g : State → α → State) : s.each (a :: l) g = (g s a).each l g := rfl

theorem State.on_keeps (π : State → β) (s : State) (b : Bool) (g : State → State) (h : ∀ t, π (g t) = π t) : π (s.on b g) = π s := by
  unfold State.on; split
  · exact h s
  · rfl

@[simp] theorem State.setPart_pending (s : State) (p : Nat) (v : PartSt) : (s.setPart p v).pending = s.pending := rfl
@[simp] theorem State.setPart_out (s : State) (p : Nat) (v : PartSt) : (s.setPart p v).out = s.out := rfl
@[simp] theorem State.setPart_fresh (s : State) (p : Nat) (v : PartSt) : (s.setPart p v).fresh = s.fresh := rfl
@[simp] theorem State.setPart_now (s : State) (p : Nat) (v : PartSt) : (s.setPart p v).now = s.now := rfl
@[simp] theorem State.setPart_regs (s : State) (p : Nat) (v : PartSt) : (s.setPart p v).regs = s.regs := rfl
@[simp] theorem State.setPart_staged (s : State) (p : Nat) (v : PartSt) : (s.setPart p v).staged = s.staged := rfl
@[simp] theorem State.setPart_shadow (s : State) (p : Nat) (v : PartSt) : (s.setPart p v).shadow = s.shadow := rfl
@[simp] theorem State.setPart_wafer (s : State) (p : Nat) (v : PartSt) : (s.setPart p v).wafer = s.wafer := rfl
@[simp] theorem State.setPart_mem (s : State) (p : Nat) (v : PartSt) : (s.setPart p v).mem = s.mem := rfl
@[simp] theorem State.setPart_cores (s : State) (p : Nat) (v : PartSt) : (s.setPart p v).cores = s.cores := rfl
@[simp] theorem State.setPart_sync (s : State) (p : Nat) (v : PartSt) : (s.setPart p v).sync = s.sync := rfl
@[simp] theorem State.setPart_ledger (s : State) (p : Nat) (v : PartSt) : (s.setPart p v).ledger = s.ledger := rfl
@[simp] theorem State.setPart_replay (s : State) (p : Nat) (v : PartSt) : (s.setPart p v).replay = s.replay := rfl
@[simp] theorem State.setPart_tjl (s : State) (p : Nat) (v : PartSt) : (s.setPart p v).tjl = s.tjl := rfl
@[simp] theorem State.setPart_hosts (s : State) (p : Nat) (v : PartSt) : (s.setPart p v).hosts = s.hosts := rfl
@[simp] theorem State.setPart_logs (s : State) (p : Nat) (v : PartSt) : (s.setPart p v).logs = s.logs := rfl
@[simp] theorem State.setPart_guard (s : State) (p : Nat) (v : PartSt) : (s.setPart p v).guard = s.guard := rfl
@[simp] theorem State.setPart_dbg (s : State) (p : Nat) (v : PartSt) : (s.setPart p v).dbg = s.dbg := rfl
@[simp] theorem State.setPart_sec (s : State) (p : Nat) (v : PartSt) : (s.setPart p v).sec = s.sec := rfl
@[simp] theorem State.setPart_boot (s : State) (p : Nat) (v : PartSt) : (s.setPart p v).boot = s.boot := rfl
@[simp] theorem State.setPart_repo (s : State) (p : Nat) (v : PartSt) : (s.setPart p v).repo = s.repo := rfl
@[simp] theorem State.setPart_side (s : State) (p : Nat) (v : PartSt) : (s.setPart p v).side = s.side := rfl
@[simp] theorem State.setPart_rd (s : State) (p : Nat) (v : PartSt) (fld : Field) (idx : Nat) : (s.setPart p v).rd fld idx = s.rd fld idx := by simp [State.rd]
@[simp] theorem State.updPart_pending (s : State) (p : Nat) (g : PartSt → PartSt) : (s.updPart p g).pending = s.pending := rfl
@[simp] theorem State.updPart_out (s : State) (p : Nat) (g : PartSt → PartSt) : (s.updPart p g).out = s.out := rfl
@[simp] theorem State.updPart_fresh (s : State) (p : Nat) (g : PartSt → PartSt) : (s.updPart p g).fresh = s.fresh := rfl
@[simp] theorem State.updPart_now (s : State) (p : Nat) (g : PartSt → PartSt) : (s.updPart p g).now = s.now := rfl
@[simp] theorem State.updPart_regs (s : State) (p : Nat) (g : PartSt → PartSt) : (s.updPart p g).regs = s.regs := rfl
@[simp] theorem State.updPart_staged (s : State) (p : Nat) (g : PartSt → PartSt) : (s.updPart p g).staged = s.staged := rfl
@[simp] theorem State.updPart_shadow (s : State) (p : Nat) (g : PartSt → PartSt) : (s.updPart p g).shadow = s.shadow := rfl
@[simp] theorem State.updPart_wafer (s : State) (p : Nat) (g : PartSt → PartSt) : (s.updPart p g).wafer = s.wafer := rfl
@[simp] theorem State.updPart_mem (s : State) (p : Nat) (g : PartSt → PartSt) : (s.updPart p g).mem = s.mem := rfl
@[simp] theorem State.updPart_cores (s : State) (p : Nat) (g : PartSt → PartSt) : (s.updPart p g).cores = s.cores := rfl
@[simp] theorem State.updPart_sync (s : State) (p : Nat) (g : PartSt → PartSt) : (s.updPart p g).sync = s.sync := rfl
@[simp] theorem State.updPart_ledger (s : State) (p : Nat) (g : PartSt → PartSt) : (s.updPart p g).ledger = s.ledger := rfl
@[simp] theorem State.updPart_replay (s : State) (p : Nat) (g : PartSt → PartSt) : (s.updPart p g).replay = s.replay := rfl
@[simp] theorem State.updPart_tjl (s : State) (p : Nat) (g : PartSt → PartSt) : (s.updPart p g).tjl = s.tjl := rfl
@[simp] theorem State.updPart_hosts (s : State) (p : Nat) (g : PartSt → PartSt) : (s.updPart p g).hosts = s.hosts := rfl
@[simp] theorem State.updPart_logs (s : State) (p : Nat) (g : PartSt → PartSt) : (s.updPart p g).logs = s.logs := rfl
@[simp] theorem State.updPart_guard (s : State) (p : Nat) (g : PartSt → PartSt) : (s.updPart p g).guard = s.guard := rfl
@[simp] theorem State.updPart_dbg (s : State) (p : Nat) (g : PartSt → PartSt) : (s.updPart p g).dbg = s.dbg := rfl
@[simp] theorem State.updPart_sec (s : State) (p : Nat) (g : PartSt → PartSt) : (s.updPart p g).sec = s.sec := rfl
@[simp] theorem State.updPart_boot (s : State) (p : Nat) (g : PartSt → PartSt) : (s.updPart p g).boot = s.boot := rfl
@[simp] theorem State.updPart_repo (s : State) (p : Nat) (g : PartSt → PartSt) : (s.updPart p g).repo = s.repo := rfl
@[simp] theorem State.updPart_side (s : State) (p : Nat) (g : PartSt → PartSt) : (s.updPart p g).side = s.side := rfl
@[simp] theorem State.updPart_rd (s : State) (p : Nat) (g : PartSt → PartSt) (fld : Field) (idx : Nat) : (s.updPart p g).rd fld idx = s.rd fld idx := by simp [State.rd]
@[simp] theorem State.setCopy_pending (s : State) (p : Nat) (c : Option Section) : (s.setCopy p c).pending = s.pending := rfl
@[simp] theorem State.setCopy_out (s : State) (p : Nat) (c : Option Section) : (s.setCopy p c).out = s.out := rfl
@[simp] theorem State.setCopy_fresh (s : State) (p : Nat) (c : Option Section) : (s.setCopy p c).fresh = s.fresh := rfl
@[simp] theorem State.setCopy_now (s : State) (p : Nat) (c : Option Section) : (s.setCopy p c).now = s.now := rfl
@[simp] theorem State.setCopy_regs (s : State) (p : Nat) (c : Option Section) : (s.setCopy p c).regs = s.regs := rfl
@[simp] theorem State.setCopy_staged (s : State) (p : Nat) (c : Option Section) : (s.setCopy p c).staged = s.staged := rfl
@[simp] theorem State.setCopy_shadow (s : State) (p : Nat) (c : Option Section) : (s.setCopy p c).shadow = s.shadow := rfl
@[simp] theorem State.setCopy_wafer (s : State) (p : Nat) (c : Option Section) : (s.setCopy p c).wafer = s.wafer := rfl
@[simp] theorem State.setCopy_mem (s : State) (p : Nat) (c : Option Section) : (s.setCopy p c).mem = s.mem := rfl
@[simp] theorem State.setCopy_cores (s : State) (p : Nat) (c : Option Section) : (s.setCopy p c).cores = s.cores := rfl
@[simp] theorem State.setCopy_sync (s : State) (p : Nat) (c : Option Section) : (s.setCopy p c).sync = s.sync := rfl
@[simp] theorem State.setCopy_ledger (s : State) (p : Nat) (c : Option Section) : (s.setCopy p c).ledger = s.ledger := rfl
@[simp] theorem State.setCopy_replay (s : State) (p : Nat) (c : Option Section) : (s.setCopy p c).replay = s.replay := rfl
@[simp] theorem State.setCopy_tjl (s : State) (p : Nat) (c : Option Section) : (s.setCopy p c).tjl = s.tjl := rfl
@[simp] theorem State.setCopy_hosts (s : State) (p : Nat) (c : Option Section) : (s.setCopy p c).hosts = s.hosts := rfl
@[simp] theorem State.setCopy_logs (s : State) (p : Nat) (c : Option Section) : (s.setCopy p c).logs = s.logs := rfl
@[simp] theorem State.setCopy_guard (s : State) (p : Nat) (c : Option Section) : (s.setCopy p c).guard = s.guard := rfl
@[simp] theorem State.setCopy_dbg (s : State) (p : Nat) (c : Option Section) : (s.setCopy p c).dbg = s.dbg := rfl
@[simp] theorem State.setCopy_sec (s : State) (p : Nat) (c : Option Section) : (s.setCopy p c).sec = s.sec := rfl
@[simp] theorem State.setCopy_boot (s : State) (p : Nat) (c : Option Section) : (s.setCopy p c).boot = s.boot := rfl
@[simp] theorem State.setCopy_repo (s : State) (p : Nat) (c : Option Section) : (s.setCopy p c).repo = s.repo := rfl
@[simp] theorem State.setCopy_side (s : State) (p : Nat) (c : Option Section) : (s.setCopy p c).side = s.side := rfl
@[simp] theorem State.setCopy_rd (s : State) (p : Nat) (c : Option Section) (fld : Field) (idx : Nat) : (s.setCopy p c).rd fld idx = s.rd fld idx := by simp [State.rd]
@[simp] theorem State.setVol_pending (s : State) (p v : Nat) (x : Vol) : (s.setVol p v x).pending = s.pending := rfl
@[simp] theorem State.setVol_out (s : State) (p v : Nat) (x : Vol) : (s.setVol p v x).out = s.out := rfl
@[simp] theorem State.setVol_fresh (s : State) (p v : Nat) (x : Vol) : (s.setVol p v x).fresh = s.fresh := rfl
@[simp] theorem State.setVol_now (s : State) (p v : Nat) (x : Vol) : (s.setVol p v x).now = s.now := rfl
@[simp] theorem State.setVol_regs (s : State) (p v : Nat) (x : Vol) : (s.setVol p v x).regs = s.regs := rfl
@[simp] theorem State.setVol_staged (s : State) (p v : Nat) (x : Vol) : (s.setVol p v x).staged = s.staged := rfl
@[simp] theorem State.setVol_shadow (s : State) (p v : Nat) (x : Vol) : (s.setVol p v x).shadow = s.shadow := rfl
@[simp] theorem State.setVol_wafer (s : State) (p v : Nat) (x : Vol) : (s.setVol p v x).wafer = s.wafer := rfl
@[simp] theorem State.setVol_mem (s : State) (p v : Nat) (x : Vol) : (s.setVol p v x).mem = s.mem := rfl
@[simp] theorem State.setVol_cores (s : State) (p v : Nat) (x : Vol) : (s.setVol p v x).cores = s.cores := rfl
@[simp] theorem State.setVol_sync (s : State) (p v : Nat) (x : Vol) : (s.setVol p v x).sync = s.sync := rfl
@[simp] theorem State.setVol_ledger (s : State) (p v : Nat) (x : Vol) : (s.setVol p v x).ledger = s.ledger := rfl
@[simp] theorem State.setVol_replay (s : State) (p v : Nat) (x : Vol) : (s.setVol p v x).replay = s.replay := rfl
@[simp] theorem State.setVol_tjl (s : State) (p v : Nat) (x : Vol) : (s.setVol p v x).tjl = s.tjl := rfl
@[simp] theorem State.setVol_hosts (s : State) (p v : Nat) (x : Vol) : (s.setVol p v x).hosts = s.hosts := rfl
@[simp] theorem State.setVol_logs (s : State) (p v : Nat) (x : Vol) : (s.setVol p v x).logs = s.logs := rfl
@[simp] theorem State.setVol_guard (s : State) (p v : Nat) (x : Vol) : (s.setVol p v x).guard = s.guard := rfl
@[simp] theorem State.setVol_parts (s : State) (p v : Nat) (x : Vol) : (s.setVol p v x).parts = s.parts := rfl
@[simp] theorem State.setVol_dbg (s : State) (p v : Nat) (x : Vol) : (s.setVol p v x).dbg = s.dbg := rfl
@[simp] theorem State.setVol_sec (s : State) (p v : Nat) (x : Vol) : (s.setVol p v x).sec = s.sec := rfl
@[simp] theorem State.setVol_boot (s : State) (p v : Nat) (x : Vol) : (s.setVol p v x).boot = s.boot := rfl
@[simp] theorem State.setVol_side (s : State) (p v : Nat) (x : Vol) : (s.setVol p v x).side = s.side := rfl
@[simp] theorem State.setVol_rd (s : State) (p v : Nat) (x : Vol) (fld : Field) (idx : Nat) : (s.setVol p v x).rd fld idx = s.rd fld idx := by simp [State.rd]
@[simp] theorem State.tally_pending (s : State) (a b c n : Nat) : (s.tally a b c n).pending = s.pending := rfl
@[simp] theorem State.tally_out (s : State) (a b c n : Nat) : (s.tally a b c n).out = s.out := rfl
@[simp] theorem State.tally_fresh (s : State) (a b c n : Nat) : (s.tally a b c n).fresh = s.fresh := rfl
@[simp] theorem State.tally_now (s : State) (a b c n : Nat) : (s.tally a b c n).now = s.now := rfl
@[simp] theorem State.tally_regs (s : State) (a b c n : Nat) : (s.tally a b c n).regs = s.regs := rfl
@[simp] theorem State.tally_staged (s : State) (a b c n : Nat) : (s.tally a b c n).staged = s.staged := rfl
@[simp] theorem State.tally_shadow (s : State) (a b c n : Nat) : (s.tally a b c n).shadow = s.shadow := rfl
@[simp] theorem State.tally_wafer (s : State) (a b c n : Nat) : (s.tally a b c n).wafer = s.wafer := rfl
@[simp] theorem State.tally_mem (s : State) (a b c n : Nat) : (s.tally a b c n).mem = s.mem := rfl
@[simp] theorem State.tally_cores (s : State) (a b c n : Nat) : (s.tally a b c n).cores = s.cores := rfl
@[simp] theorem State.tally_sync (s : State) (a b c n : Nat) : (s.tally a b c n).sync = s.sync := rfl
@[simp] theorem State.tally_ledger (s : State) (a b c n : Nat) : (s.tally a b c n).ledger = s.ledger := rfl
@[simp] theorem State.tally_replay (s : State) (a b c n : Nat) : (s.tally a b c n).replay = s.replay := rfl
@[simp] theorem State.tally_tjl (s : State) (a b c n : Nat) : (s.tally a b c n).tjl = s.tjl := rfl
@[simp] theorem State.tally_hosts (s : State) (a b c n : Nat) : (s.tally a b c n).hosts = s.hosts := rfl
@[simp] theorem State.tally_logs (s : State) (a b c n : Nat) : (s.tally a b c n).logs = s.logs := rfl
@[simp] theorem State.tally_guard (s : State) (a b c n : Nat) : (s.tally a b c n).guard = s.guard := rfl
@[simp] theorem State.tally_parts (s : State) (a b c n : Nat) : (s.tally a b c n).parts = s.parts := rfl
@[simp] theorem State.tally_sec (s : State) (a b c n : Nat) : (s.tally a b c n).sec = s.sec := rfl
@[simp] theorem State.tally_boot (s : State) (a b c n : Nat) : (s.tally a b c n).boot = s.boot := rfl
@[simp] theorem State.tally_repo (s : State) (a b c n : Nat) : (s.tally a b c n).repo = s.repo := rfl
@[simp] theorem State.tally_side (s : State) (a b c n : Nat) : (s.tally a b c n).side = s.side := rfl
@[simp] theorem State.tally_rd (s : State) (a b c n : Nat) (fld : Field) (idx : Nat) : (s.tally a b c n).rd fld idx = s.rd fld idx := by simp [State.rd]
@[simp] theorem State.setWord_pending (s : State) (k : Nat) (w : MWord) : (s.setWord k w).pending = s.pending := rfl
@[simp] theorem State.setWord_out (s : State) (k : Nat) (w : MWord) : (s.setWord k w).out = s.out := rfl
@[simp] theorem State.setWord_fresh (s : State) (k : Nat) (w : MWord) : (s.setWord k w).fresh = s.fresh := rfl
@[simp] theorem State.setWord_now (s : State) (k : Nat) (w : MWord) : (s.setWord k w).now = s.now := rfl
@[simp] theorem State.setWord_regs (s : State) (k : Nat) (w : MWord) : (s.setWord k w).regs = s.regs := rfl
@[simp] theorem State.setWord_staged (s : State) (k : Nat) (w : MWord) : (s.setWord k w).staged = s.staged := rfl
@[simp] theorem State.setWord_shadow (s : State) (k : Nat) (w : MWord) : (s.setWord k w).shadow = s.shadow := rfl
@[simp] theorem State.setWord_wafer (s : State) (k : Nat) (w : MWord) : (s.setWord k w).wafer = s.wafer := rfl
@[simp] theorem State.setWord_hdrs (s : State) (k : Nat) (w : MWord) : (s.setWord k w).mem.hdrs = s.mem.hdrs := rfl
@[simp] theorem State.setWord_pages (s : State) (k : Nat) (w : MWord) : (s.setWord k w).mem.pages = s.mem.pages := rfl
@[simp] theorem State.setWord_dir (s : State) (k : Nat) (w : MWord) : (s.setWord k w).mem.dir = s.mem.dir := rfl
@[simp] theorem State.setWord_ckpts (s : State) (k : Nat) (w : MWord) : (s.setWord k w).mem.ckpts = s.mem.ckpts := rfl
@[simp] theorem State.setWord_flips (s : State) (k : Nat) (w : MWord) : (s.setWord k w).mem.flips = s.mem.flips := rfl
@[simp] theorem State.setWord_ages (s : State) (k : Nat) (w : MWord) : (s.setWord k w).mem.ages = s.mem.ages := rfl
@[simp] theorem State.setWord_cores (s : State) (k : Nat) (w : MWord) : (s.setWord k w).cores = s.cores := rfl
@[simp] theorem State.setWord_sync (s : State) (k : Nat) (w : MWord) : (s.setWord k w).sync = s.sync := rfl
@[simp] theorem State.setWord_ledger (s : State) (k : Nat) (w : MWord) : (s.setWord k w).ledger = s.ledger := rfl
@[simp] theorem State.setWord_replay (s : State) (k : Nat) (w : MWord) : (s.setWord k w).replay = s.replay := rfl
@[simp] theorem State.setWord_tjl (s : State) (k : Nat) (w : MWord) : (s.setWord k w).tjl = s.tjl := rfl
@[simp] theorem State.setWord_hosts (s : State) (k : Nat) (w : MWord) : (s.setWord k w).hosts = s.hosts := rfl
@[simp] theorem State.setWord_logs (s : State) (k : Nat) (w : MWord) : (s.setWord k w).logs = s.logs := rfl
@[simp] theorem State.setWord_guard (s : State) (k : Nat) (w : MWord) : (s.setWord k w).guard = s.guard := rfl
@[simp] theorem State.setWord_parts (s : State) (k : Nat) (w : MWord) : (s.setWord k w).parts = s.parts := rfl
@[simp] theorem State.setWord_dbg (s : State) (k : Nat) (w : MWord) : (s.setWord k w).dbg = s.dbg := rfl
@[simp] theorem State.setWord_sec (s : State) (k : Nat) (w : MWord) : (s.setWord k w).sec = s.sec := rfl
@[simp] theorem State.setWord_boot (s : State) (k : Nat) (w : MWord) : (s.setWord k w).boot = s.boot := rfl
@[simp] theorem State.setWord_repo (s : State) (k : Nat) (w : MWord) : (s.setWord k w).repo = s.repo := rfl
@[simp] theorem State.setWord_side (s : State) (k : Nat) (w : MWord) : (s.setWord k w).side = s.side := rfl
@[simp] theorem State.setWord_rd (s : State) (k : Nat) (w : MWord) (fld : Field) (idx : Nat) : (s.setWord k w).rd fld idx = s.rd fld idx := by simp [State.rd]
@[simp] theorem State.setHdr_pending (s : State) (k v : Nat) : (s.setHdr k v).pending = s.pending := rfl
@[simp] theorem State.setHdr_out (s : State) (k v : Nat) : (s.setHdr k v).out = s.out := rfl
@[simp] theorem State.setHdr_fresh (s : State) (k v : Nat) : (s.setHdr k v).fresh = s.fresh := rfl
@[simp] theorem State.setHdr_now (s : State) (k v : Nat) : (s.setHdr k v).now = s.now := rfl
@[simp] theorem State.setHdr_regs (s : State) (k v : Nat) : (s.setHdr k v).regs = s.regs := rfl
@[simp] theorem State.setHdr_staged (s : State) (k v : Nat) : (s.setHdr k v).staged = s.staged := rfl
@[simp] theorem State.setHdr_shadow (s : State) (k v : Nat) : (s.setHdr k v).shadow = s.shadow := rfl
@[simp] theorem State.setHdr_wafer (s : State) (k v : Nat) : (s.setHdr k v).wafer = s.wafer := rfl
@[simp] theorem State.setHdr_words (s : State) (k v : Nat) : (s.setHdr k v).mem.words = s.mem.words := rfl
@[simp] theorem State.setHdr_pages (s : State) (k v : Nat) : (s.setHdr k v).mem.pages = s.mem.pages := rfl
@[simp] theorem State.setHdr_dir (s : State) (k v : Nat) : (s.setHdr k v).mem.dir = s.mem.dir := rfl
@[simp] theorem State.setHdr_ckpts (s : State) (k v : Nat) : (s.setHdr k v).mem.ckpts = s.mem.ckpts := rfl
@[simp] theorem State.setHdr_flips (s : State) (k v : Nat) : (s.setHdr k v).mem.flips = s.mem.flips := rfl
@[simp] theorem State.setHdr_ages (s : State) (k v : Nat) : (s.setHdr k v).mem.ages = s.mem.ages := rfl
@[simp] theorem State.setHdr_cores (s : State) (k v : Nat) : (s.setHdr k v).cores = s.cores := rfl
@[simp] theorem State.setHdr_sync (s : State) (k v : Nat) : (s.setHdr k v).sync = s.sync := rfl
@[simp] theorem State.setHdr_ledger (s : State) (k v : Nat) : (s.setHdr k v).ledger = s.ledger := rfl
@[simp] theorem State.setHdr_replay (s : State) (k v : Nat) : (s.setHdr k v).replay = s.replay := rfl
@[simp] theorem State.setHdr_tjl (s : State) (k v : Nat) : (s.setHdr k v).tjl = s.tjl := rfl
@[simp] theorem State.setHdr_hosts (s : State) (k v : Nat) : (s.setHdr k v).hosts = s.hosts := rfl
@[simp] theorem State.setHdr_logs (s : State) (k v : Nat) : (s.setHdr k v).logs = s.logs := rfl
@[simp] theorem State.setHdr_guard (s : State) (k v : Nat) : (s.setHdr k v).guard = s.guard := rfl
@[simp] theorem State.setHdr_parts (s : State) (k v : Nat) : (s.setHdr k v).parts = s.parts := rfl
@[simp] theorem State.setHdr_dbg (s : State) (k v : Nat) : (s.setHdr k v).dbg = s.dbg := rfl
@[simp] theorem State.setHdr_sec (s : State) (k v : Nat) : (s.setHdr k v).sec = s.sec := rfl
@[simp] theorem State.setHdr_boot (s : State) (k v : Nat) : (s.setHdr k v).boot = s.boot := rfl
@[simp] theorem State.setHdr_repo (s : State) (k v : Nat) : (s.setHdr k v).repo = s.repo := rfl
@[simp] theorem State.setHdr_side (s : State) (k v : Nat) : (s.setHdr k v).side = s.side := rfl
@[simp] theorem State.setHdr_rd (s : State) (k v : Nat) (fld : Field) (idx : Nat) : (s.setHdr k v).rd fld idx = s.rd fld idx := by simp [State.rd]
@[simp] theorem State.setPage_pending (s : State) (k : Nat) (g : Page) : (s.setPage k g).pending = s.pending := rfl
@[simp] theorem State.setPage_out (s : State) (k : Nat) (g : Page) : (s.setPage k g).out = s.out := rfl
@[simp] theorem State.setPage_fresh (s : State) (k : Nat) (g : Page) : (s.setPage k g).fresh = s.fresh := rfl
@[simp] theorem State.setPage_now (s : State) (k : Nat) (g : Page) : (s.setPage k g).now = s.now := rfl
@[simp] theorem State.setPage_regs (s : State) (k : Nat) (g : Page) : (s.setPage k g).regs = s.regs := rfl
@[simp] theorem State.setPage_staged (s : State) (k : Nat) (g : Page) : (s.setPage k g).staged = s.staged := rfl
@[simp] theorem State.setPage_shadow (s : State) (k : Nat) (g : Page) : (s.setPage k g).shadow = s.shadow := rfl
@[simp] theorem State.setPage_wafer (s : State) (k : Nat) (g : Page) : (s.setPage k g).wafer = s.wafer := rfl
@[simp] theorem State.setPage_words (s : State) (k : Nat) (g : Page) : (s.setPage k g).mem.words = s.mem.words := rfl
@[simp] theorem State.setPage_hdrs (s : State) (k : Nat) (g : Page) : (s.setPage k g).mem.hdrs = s.mem.hdrs := rfl
@[simp] theorem State.setPage_dir (s : State) (k : Nat) (g : Page) : (s.setPage k g).mem.dir = s.mem.dir := rfl
@[simp] theorem State.setPage_ckpts (s : State) (k : Nat) (g : Page) : (s.setPage k g).mem.ckpts = s.mem.ckpts := rfl
@[simp] theorem State.setPage_flips (s : State) (k : Nat) (g : Page) : (s.setPage k g).mem.flips = s.mem.flips := rfl
@[simp] theorem State.setPage_ages (s : State) (k : Nat) (g : Page) : (s.setPage k g).mem.ages = s.mem.ages := rfl
@[simp] theorem State.setPage_cores (s : State) (k : Nat) (g : Page) : (s.setPage k g).cores = s.cores := rfl
@[simp] theorem State.setPage_sync (s : State) (k : Nat) (g : Page) : (s.setPage k g).sync = s.sync := rfl
@[simp] theorem State.setPage_ledger (s : State) (k : Nat) (g : Page) : (s.setPage k g).ledger = s.ledger := rfl
@[simp] theorem State.setPage_replay (s : State) (k : Nat) (g : Page) : (s.setPage k g).replay = s.replay := rfl
@[simp] theorem State.setPage_tjl (s : State) (k : Nat) (g : Page) : (s.setPage k g).tjl = s.tjl := rfl
@[simp] theorem State.setPage_hosts (s : State) (k : Nat) (g : Page) : (s.setPage k g).hosts = s.hosts := rfl
@[simp] theorem State.setPage_logs (s : State) (k : Nat) (g : Page) : (s.setPage k g).logs = s.logs := rfl
@[simp] theorem State.setPage_guard (s : State) (k : Nat) (g : Page) : (s.setPage k g).guard = s.guard := rfl
@[simp] theorem State.setPage_parts (s : State) (k : Nat) (g : Page) : (s.setPage k g).parts = s.parts := rfl
@[simp] theorem State.setPage_dbg (s : State) (k : Nat) (g : Page) : (s.setPage k g).dbg = s.dbg := rfl
@[simp] theorem State.setPage_sec (s : State) (k : Nat) (g : Page) : (s.setPage k g).sec = s.sec := rfl
@[simp] theorem State.setPage_boot (s : State) (k : Nat) (g : Page) : (s.setPage k g).boot = s.boot := rfl
@[simp] theorem State.setPage_repo (s : State) (k : Nat) (g : Page) : (s.setPage k g).repo = s.repo := rfl
@[simp] theorem State.setPage_side (s : State) (k : Nat) (g : Page) : (s.setPage k g).side = s.side := rfl
@[simp] theorem State.setPage_rd (s : State) (k : Nat) (g : Page) (fld : Field) (idx : Nat) : (s.setPage k g).rd fld idx = s.rd fld idx := by simp [State.rd]
@[simp] theorem State.setDir_pending (s : State) (p l : Nat) (d : DirEnt) : (s.setDir p l d).pending = s.pending := rfl
@[simp] theorem State.setDir_out (s : State) (p l : Nat) (d : DirEnt) : (s.setDir p l d).out = s.out := rfl
@[simp] theorem State.setDir_fresh (s : State) (p l : Nat) (d : DirEnt) : (s.setDir p l d).fresh = s.fresh := rfl
@[simp] theorem State.setDir_now (s : State) (p l : Nat) (d : DirEnt) : (s.setDir p l d).now = s.now := rfl
@[simp] theorem State.setDir_regs (s : State) (p l : Nat) (d : DirEnt) : (s.setDir p l d).regs = s.regs := rfl
@[simp] theorem State.setDir_staged (s : State) (p l : Nat) (d : DirEnt) : (s.setDir p l d).staged = s.staged := rfl
@[simp] theorem State.setDir_shadow (s : State) (p l : Nat) (d : DirEnt) : (s.setDir p l d).shadow = s.shadow := rfl
@[simp] theorem State.setDir_wafer (s : State) (p l : Nat) (d : DirEnt) : (s.setDir p l d).wafer = s.wafer := rfl
@[simp] theorem State.setDir_words (s : State) (p l : Nat) (d : DirEnt) : (s.setDir p l d).mem.words = s.mem.words := rfl
@[simp] theorem State.setDir_hdrs (s : State) (p l : Nat) (d : DirEnt) : (s.setDir p l d).mem.hdrs = s.mem.hdrs := rfl
@[simp] theorem State.setDir_pages (s : State) (p l : Nat) (d : DirEnt) : (s.setDir p l d).mem.pages = s.mem.pages := rfl
@[simp] theorem State.setDir_ckpts (s : State) (p l : Nat) (d : DirEnt) : (s.setDir p l d).mem.ckpts = s.mem.ckpts := rfl
@[simp] theorem State.setDir_flips (s : State) (p l : Nat) (d : DirEnt) : (s.setDir p l d).mem.flips = s.mem.flips := rfl
@[simp] theorem State.setDir_ages (s : State) (p l : Nat) (d : DirEnt) : (s.setDir p l d).mem.ages = s.mem.ages := rfl
@[simp] theorem State.setDir_cores (s : State) (p l : Nat) (d : DirEnt) : (s.setDir p l d).cores = s.cores := rfl
@[simp] theorem State.setDir_sync (s : State) (p l : Nat) (d : DirEnt) : (s.setDir p l d).sync = s.sync := rfl
@[simp] theorem State.setDir_ledger (s : State) (p l : Nat) (d : DirEnt) : (s.setDir p l d).ledger = s.ledger := rfl
@[simp] theorem State.setDir_replay (s : State) (p l : Nat) (d : DirEnt) : (s.setDir p l d).replay = s.replay := rfl
@[simp] theorem State.setDir_tjl (s : State) (p l : Nat) (d : DirEnt) : (s.setDir p l d).tjl = s.tjl := rfl
@[simp] theorem State.setDir_hosts (s : State) (p l : Nat) (d : DirEnt) : (s.setDir p l d).hosts = s.hosts := rfl
@[simp] theorem State.setDir_logs (s : State) (p l : Nat) (d : DirEnt) : (s.setDir p l d).logs = s.logs := rfl
@[simp] theorem State.setDir_guard (s : State) (p l : Nat) (d : DirEnt) : (s.setDir p l d).guard = s.guard := rfl
@[simp] theorem State.setDir_parts (s : State) (p l : Nat) (d : DirEnt) : (s.setDir p l d).parts = s.parts := rfl
@[simp] theorem State.setDir_dbg (s : State) (p l : Nat) (d : DirEnt) : (s.setDir p l d).dbg = s.dbg := rfl
@[simp] theorem State.setDir_sec (s : State) (p l : Nat) (d : DirEnt) : (s.setDir p l d).sec = s.sec := rfl
@[simp] theorem State.setDir_boot (s : State) (p l : Nat) (d : DirEnt) : (s.setDir p l d).boot = s.boot := rfl
@[simp] theorem State.setDir_repo (s : State) (p l : Nat) (d : DirEnt) : (s.setDir p l d).repo = s.repo := rfl
@[simp] theorem State.setDir_side (s : State) (p l : Nat) (d : DirEnt) : (s.setDir p l d).side = s.side := rfl
@[simp] theorem State.setDir_rd (s : State) (p l : Nat) (d : DirEnt) (fld : Field) (idx : Nat) : (s.setDir p l d).rd fld idx = s.rd fld idx := by simp [State.rd]
@[simp] theorem State.setEntry_pending (s : State) (f n : Nat) (e : Entry) : (s.setEntry f n e).pending = s.pending := rfl
@[simp] theorem State.setEntry_out (s : State) (f n : Nat) (e : Entry) : (s.setEntry f n e).out = s.out := rfl
@[simp] theorem State.setEntry_fresh (s : State) (f n : Nat) (e : Entry) : (s.setEntry f n e).fresh = s.fresh := rfl
@[simp] theorem State.setEntry_now (s : State) (f n : Nat) (e : Entry) : (s.setEntry f n e).now = s.now := rfl
@[simp] theorem State.setEntry_regs (s : State) (f n : Nat) (e : Entry) : (s.setEntry f n e).regs = s.regs := rfl
@[simp] theorem State.setEntry_staged (s : State) (f n : Nat) (e : Entry) : (s.setEntry f n e).staged = s.staged := rfl
@[simp] theorem State.setEntry_shadow (s : State) (f n : Nat) (e : Entry) : (s.setEntry f n e).shadow = s.shadow := rfl
@[simp] theorem State.setEntry_wafer (s : State) (f n : Nat) (e : Entry) : (s.setEntry f n e).wafer = s.wafer := rfl
@[simp] theorem State.setEntry_mem (s : State) (f n : Nat) (e : Entry) : (s.setEntry f n e).mem = s.mem := rfl
@[simp] theorem State.setEntry_cores (s : State) (f n : Nat) (e : Entry) : (s.setEntry f n e).cores = s.cores := rfl
@[simp] theorem State.setEntry_sync (s : State) (f n : Nat) (e : Entry) : (s.setEntry f n e).sync = s.sync := rfl
@[simp] theorem State.setEntry_replay (s : State) (f n : Nat) (e : Entry) : (s.setEntry f n e).replay = s.replay := rfl
@[simp] theorem State.setEntry_tjl (s : State) (f n : Nat) (e : Entry) : (s.setEntry f n e).tjl = s.tjl := rfl
@[simp] theorem State.setEntry_hosts (s : State) (f n : Nat) (e : Entry) : (s.setEntry f n e).hosts = s.hosts := rfl
@[simp] theorem State.setEntry_logs (s : State) (f n : Nat) (e : Entry) : (s.setEntry f n e).logs = s.logs := rfl
@[simp] theorem State.setEntry_guard (s : State) (f n : Nat) (e : Entry) : (s.setEntry f n e).guard = s.guard := rfl
@[simp] theorem State.setEntry_parts (s : State) (f n : Nat) (e : Entry) : (s.setEntry f n e).parts = s.parts := rfl
@[simp] theorem State.setEntry_dbg (s : State) (f n : Nat) (e : Entry) : (s.setEntry f n e).dbg = s.dbg := rfl
@[simp] theorem State.setEntry_sec (s : State) (f n : Nat) (e : Entry) : (s.setEntry f n e).sec = s.sec := rfl
@[simp] theorem State.setEntry_boot (s : State) (f n : Nat) (e : Entry) : (s.setEntry f n e).boot = s.boot := rfl
@[simp] theorem State.setEntry_repo (s : State) (f n : Nat) (e : Entry) : (s.setEntry f n e).repo = s.repo := rfl
@[simp] theorem State.setEntry_side (s : State) (f n : Nat) (e : Entry) : (s.setEntry f n e).side = s.side := rfl
@[simp] theorem State.setEntry_rd (s : State) (f n : Nat) (e : Entry) (fld : Field) (idx : Nat) : (s.setEntry f n e).rd fld idx = s.rd fld idx := by simp [State.rd]
@[simp] theorem State.setSlot_pending (s : State) (f n : Nat) (v : Slot) : (s.setSlot f n v).pending = s.pending := rfl
@[simp] theorem State.setSlot_out (s : State) (f n : Nat) (v : Slot) : (s.setSlot f n v).out = s.out := rfl
@[simp] theorem State.setSlot_fresh (s : State) (f n : Nat) (v : Slot) : (s.setSlot f n v).fresh = s.fresh := rfl
@[simp] theorem State.setSlot_now (s : State) (f n : Nat) (v : Slot) : (s.setSlot f n v).now = s.now := rfl
@[simp] theorem State.setSlot_regs (s : State) (f n : Nat) (v : Slot) : (s.setSlot f n v).regs = s.regs := rfl
@[simp] theorem State.setSlot_staged (s : State) (f n : Nat) (v : Slot) : (s.setSlot f n v).staged = s.staged := rfl
@[simp] theorem State.setSlot_shadow (s : State) (f n : Nat) (v : Slot) : (s.setSlot f n v).shadow = s.shadow := rfl
@[simp] theorem State.setSlot_wafer (s : State) (f n : Nat) (v : Slot) : (s.setSlot f n v).wafer = s.wafer := rfl
@[simp] theorem State.setSlot_mem (s : State) (f n : Nat) (v : Slot) : (s.setSlot f n v).mem = s.mem := rfl
@[simp] theorem State.setSlot_cores (s : State) (f n : Nat) (v : Slot) : (s.setSlot f n v).cores = s.cores := rfl
@[simp] theorem State.setSlot_sync (s : State) (f n : Nat) (v : Slot) : (s.setSlot f n v).sync = s.sync := rfl
@[simp] theorem State.setSlot_ledger (s : State) (f n : Nat) (v : Slot) : (s.setSlot f n v).ledger = s.ledger := rfl
@[simp] theorem State.setSlot_tjl (s : State) (f n : Nat) (v : Slot) : (s.setSlot f n v).tjl = s.tjl := rfl
@[simp] theorem State.setSlot_hosts (s : State) (f n : Nat) (v : Slot) : (s.setSlot f n v).hosts = s.hosts := rfl
@[simp] theorem State.setSlot_logs (s : State) (f n : Nat) (v : Slot) : (s.setSlot f n v).logs = s.logs := rfl
@[simp] theorem State.setSlot_guard (s : State) (f n : Nat) (v : Slot) : (s.setSlot f n v).guard = s.guard := rfl
@[simp] theorem State.setSlot_parts (s : State) (f n : Nat) (v : Slot) : (s.setSlot f n v).parts = s.parts := rfl
@[simp] theorem State.setSlot_dbg (s : State) (f n : Nat) (v : Slot) : (s.setSlot f n v).dbg = s.dbg := rfl
@[simp] theorem State.setSlot_sec (s : State) (f n : Nat) (v : Slot) : (s.setSlot f n v).sec = s.sec := rfl
@[simp] theorem State.setSlot_boot (s : State) (f n : Nat) (v : Slot) : (s.setSlot f n v).boot = s.boot := rfl
@[simp] theorem State.setSlot_repo (s : State) (f n : Nat) (v : Slot) : (s.setSlot f n v).repo = s.repo := rfl
@[simp] theorem State.setSlot_side (s : State) (f n : Nat) (v : Slot) : (s.setSlot f n v).side = s.side := rfl
@[simp] theorem State.setSlot_rd (s : State) (f n : Nat) (v : Slot) (fld : Field) (idx : Nat) : (s.setSlot f n v).rd fld idx = s.rd fld idx := by simp [State.rd]
@[simp] theorem State.setThread_pending (s : State) (k : Nat) (t : Thread) : (s.setThread k t).pending = s.pending := rfl
@[simp] theorem State.setThread_out (s : State) (k : Nat) (t : Thread) : (s.setThread k t).out = s.out := rfl
@[simp] theorem State.setThread_fresh (s : State) (k : Nat) (t : Thread) : (s.setThread k t).fresh = s.fresh := rfl
@[simp] theorem State.setThread_now (s : State) (k : Nat) (t : Thread) : (s.setThread k t).now = s.now := rfl
@[simp] theorem State.setThread_regs (s : State) (k : Nat) (t : Thread) : (s.setThread k t).regs = s.regs := rfl
@[simp] theorem State.setThread_staged (s : State) (k : Nat) (t : Thread) : (s.setThread k t).staged = s.staged := rfl
@[simp] theorem State.setThread_shadow (s : State) (k : Nat) (t : Thread) : (s.setThread k t).shadow = s.shadow := rfl
@[simp] theorem State.setThread_wafer (s : State) (k : Nat) (t : Thread) : (s.setThread k t).wafer = s.wafer := rfl
@[simp] theorem State.setThread_mem (s : State) (k : Nat) (t : Thread) : (s.setThread k t).mem = s.mem := rfl
@[simp] theorem State.setThread_owed (s : State) (k : Nat) (t : Thread) : (s.setThread k t).cores.owed = s.cores.owed := rfl
@[simp] theorem State.setThread_sregs (s : State) (k : Nat) (t : Thread) : (s.setThread k t).cores.sregs = s.cores.sregs := rfl
@[simp] theorem State.setThread_vregs (s : State) (k : Nat) (t : Thread) : (s.setThread k t).cores.vregs = s.cores.vregs := rfl
@[simp] theorem State.setThread_accs (s : State) (k : Nat) (t : Thread) : (s.setThread k t).cores.accs = s.cores.accs := rfl
@[simp] theorem State.setThread_engines (s : State) (k : Nat) (t : Thread) : (s.setThread k t).cores.engines = s.cores.engines := rfl
@[simp] theorem State.setThread_sync (s : State) (k : Nat) (t : Thread) : (s.setThread k t).sync = s.sync := rfl
@[simp] theorem State.setThread_ledger (s : State) (k : Nat) (t : Thread) : (s.setThread k t).ledger = s.ledger := rfl
@[simp] theorem State.setThread_replay (s : State) (k : Nat) (t : Thread) : (s.setThread k t).replay = s.replay := rfl
@[simp] theorem State.setThread_tjl (s : State) (k : Nat) (t : Thread) : (s.setThread k t).tjl = s.tjl := rfl
@[simp] theorem State.setThread_hosts (s : State) (k : Nat) (t : Thread) : (s.setThread k t).hosts = s.hosts := rfl
@[simp] theorem State.setThread_logs (s : State) (k : Nat) (t : Thread) : (s.setThread k t).logs = s.logs := rfl
@[simp] theorem State.setThread_guard (s : State) (k : Nat) (t : Thread) : (s.setThread k t).guard = s.guard := rfl
@[simp] theorem State.setThread_parts (s : State) (k : Nat) (t : Thread) : (s.setThread k t).parts = s.parts := rfl
@[simp] theorem State.setThread_dbg (s : State) (k : Nat) (t : Thread) : (s.setThread k t).dbg = s.dbg := rfl
@[simp] theorem State.setThread_sec (s : State) (k : Nat) (t : Thread) : (s.setThread k t).sec = s.sec := rfl
@[simp] theorem State.setThread_boot (s : State) (k : Nat) (t : Thread) : (s.setThread k t).boot = s.boot := rfl
@[simp] theorem State.setThread_repo (s : State) (k : Nat) (t : Thread) : (s.setThread k t).repo = s.repo := rfl
@[simp] theorem State.setThread_side (s : State) (k : Nat) (t : Thread) : (s.setThread k t).side = s.side := rfl
@[simp] theorem State.setThread_rd (s : State) (k : Nat) (t : Thread) (fld : Field) (idx : Nat) : (s.setThread k t).rd fld idx = s.rd fld idx := by simp [State.rd]
@[simp] theorem State.setSreg_pending (s : State) (k r : Nat) (v : Word) : (s.setSreg k r v).pending = s.pending := rfl
@[simp] theorem State.setSreg_out (s : State) (k r : Nat) (v : Word) : (s.setSreg k r v).out = s.out := rfl
@[simp] theorem State.setSreg_fresh (s : State) (k r : Nat) (v : Word) : (s.setSreg k r v).fresh = s.fresh := rfl
@[simp] theorem State.setSreg_now (s : State) (k r : Nat) (v : Word) : (s.setSreg k r v).now = s.now := rfl
@[simp] theorem State.setSreg_regs (s : State) (k r : Nat) (v : Word) : (s.setSreg k r v).regs = s.regs := rfl
@[simp] theorem State.setSreg_staged (s : State) (k r : Nat) (v : Word) : (s.setSreg k r v).staged = s.staged := rfl
@[simp] theorem State.setSreg_shadow (s : State) (k r : Nat) (v : Word) : (s.setSreg k r v).shadow = s.shadow := rfl
@[simp] theorem State.setSreg_wafer (s : State) (k r : Nat) (v : Word) : (s.setSreg k r v).wafer = s.wafer := rfl
@[simp] theorem State.setSreg_mem (s : State) (k r : Nat) (v : Word) : (s.setSreg k r v).mem = s.mem := rfl
@[simp] theorem State.setSreg_threads (s : State) (k r : Nat) (v : Word) : (s.setSreg k r v).cores.threads = s.cores.threads := rfl
@[simp] theorem State.setSreg_owed (s : State) (k r : Nat) (v : Word) : (s.setSreg k r v).cores.owed = s.cores.owed := rfl
@[simp] theorem State.setSreg_vregs (s : State) (k r : Nat) (v : Word) : (s.setSreg k r v).cores.vregs = s.cores.vregs := rfl
@[simp] theorem State.setSreg_accs (s : State) (k r : Nat) (v : Word) : (s.setSreg k r v).cores.accs = s.cores.accs := rfl
@[simp] theorem State.setSreg_engines (s : State) (k r : Nat) (v : Word) : (s.setSreg k r v).cores.engines = s.cores.engines := rfl
@[simp] theorem State.setSreg_sync (s : State) (k r : Nat) (v : Word) : (s.setSreg k r v).sync = s.sync := rfl
@[simp] theorem State.setSreg_ledger (s : State) (k r : Nat) (v : Word) : (s.setSreg k r v).ledger = s.ledger := rfl
@[simp] theorem State.setSreg_replay (s : State) (k r : Nat) (v : Word) : (s.setSreg k r v).replay = s.replay := rfl
@[simp] theorem State.setSreg_tjl (s : State) (k r : Nat) (v : Word) : (s.setSreg k r v).tjl = s.tjl := rfl
@[simp] theorem State.setSreg_hosts (s : State) (k r : Nat) (v : Word) : (s.setSreg k r v).hosts = s.hosts := rfl
@[simp] theorem State.setSreg_logs (s : State) (k r : Nat) (v : Word) : (s.setSreg k r v).logs = s.logs := rfl
@[simp] theorem State.setSreg_guard (s : State) (k r : Nat) (v : Word) : (s.setSreg k r v).guard = s.guard := rfl
@[simp] theorem State.setSreg_parts (s : State) (k r : Nat) (v : Word) : (s.setSreg k r v).parts = s.parts := rfl
@[simp] theorem State.setSreg_dbg (s : State) (k r : Nat) (v : Word) : (s.setSreg k r v).dbg = s.dbg := rfl
@[simp] theorem State.setSreg_sec (s : State) (k r : Nat) (v : Word) : (s.setSreg k r v).sec = s.sec := rfl
@[simp] theorem State.setSreg_boot (s : State) (k r : Nat) (v : Word) : (s.setSreg k r v).boot = s.boot := rfl
@[simp] theorem State.setSreg_repo (s : State) (k r : Nat) (v : Word) : (s.setSreg k r v).repo = s.repo := rfl
@[simp] theorem State.setSreg_side (s : State) (k r : Nat) (v : Word) : (s.setSreg k r v).side = s.side := rfl
@[simp] theorem State.setSreg_rd (s : State) (k r : Nat) (v : Word) (fld : Field) (idx : Nat) : (s.setSreg k r v).rd fld idx = s.rd fld idx := by simp [State.rd]
@[simp] theorem State.setVreg_pending (s : State) (k r : Nat) (v : Vec) : (s.setVreg k r v).pending = s.pending := rfl
@[simp] theorem State.setVreg_out (s : State) (k r : Nat) (v : Vec) : (s.setVreg k r v).out = s.out := rfl
@[simp] theorem State.setVreg_fresh (s : State) (k r : Nat) (v : Vec) : (s.setVreg k r v).fresh = s.fresh := rfl
@[simp] theorem State.setVreg_now (s : State) (k r : Nat) (v : Vec) : (s.setVreg k r v).now = s.now := rfl
@[simp] theorem State.setVreg_regs (s : State) (k r : Nat) (v : Vec) : (s.setVreg k r v).regs = s.regs := rfl
@[simp] theorem State.setVreg_staged (s : State) (k r : Nat) (v : Vec) : (s.setVreg k r v).staged = s.staged := rfl
@[simp] theorem State.setVreg_shadow (s : State) (k r : Nat) (v : Vec) : (s.setVreg k r v).shadow = s.shadow := rfl
@[simp] theorem State.setVreg_wafer (s : State) (k r : Nat) (v : Vec) : (s.setVreg k r v).wafer = s.wafer := rfl
@[simp] theorem State.setVreg_mem (s : State) (k r : Nat) (v : Vec) : (s.setVreg k r v).mem = s.mem := rfl
@[simp] theorem State.setVreg_threads (s : State) (k r : Nat) (v : Vec) : (s.setVreg k r v).cores.threads = s.cores.threads := rfl
@[simp] theorem State.setVreg_owed (s : State) (k r : Nat) (v : Vec) : (s.setVreg k r v).cores.owed = s.cores.owed := rfl
@[simp] theorem State.setVreg_sregs (s : State) (k r : Nat) (v : Vec) : (s.setVreg k r v).cores.sregs = s.cores.sregs := rfl
@[simp] theorem State.setVreg_accs (s : State) (k r : Nat) (v : Vec) : (s.setVreg k r v).cores.accs = s.cores.accs := rfl
@[simp] theorem State.setVreg_engines (s : State) (k r : Nat) (v : Vec) : (s.setVreg k r v).cores.engines = s.cores.engines := rfl
@[simp] theorem State.setVreg_sync (s : State) (k r : Nat) (v : Vec) : (s.setVreg k r v).sync = s.sync := rfl
@[simp] theorem State.setVreg_ledger (s : State) (k r : Nat) (v : Vec) : (s.setVreg k r v).ledger = s.ledger := rfl
@[simp] theorem State.setVreg_replay (s : State) (k r : Nat) (v : Vec) : (s.setVreg k r v).replay = s.replay := rfl
@[simp] theorem State.setVreg_tjl (s : State) (k r : Nat) (v : Vec) : (s.setVreg k r v).tjl = s.tjl := rfl
@[simp] theorem State.setVreg_hosts (s : State) (k r : Nat) (v : Vec) : (s.setVreg k r v).hosts = s.hosts := rfl
@[simp] theorem State.setVreg_logs (s : State) (k r : Nat) (v : Vec) : (s.setVreg k r v).logs = s.logs := rfl
@[simp] theorem State.setVreg_guard (s : State) (k r : Nat) (v : Vec) : (s.setVreg k r v).guard = s.guard := rfl
@[simp] theorem State.setVreg_parts (s : State) (k r : Nat) (v : Vec) : (s.setVreg k r v).parts = s.parts := rfl
@[simp] theorem State.setVreg_dbg (s : State) (k r : Nat) (v : Vec) : (s.setVreg k r v).dbg = s.dbg := rfl
@[simp] theorem State.setVreg_sec (s : State) (k r : Nat) (v : Vec) : (s.setVreg k r v).sec = s.sec := rfl
@[simp] theorem State.setVreg_boot (s : State) (k r : Nat) (v : Vec) : (s.setVreg k r v).boot = s.boot := rfl
@[simp] theorem State.setVreg_repo (s : State) (k r : Nat) (v : Vec) : (s.setVreg k r v).repo = s.repo := rfl
@[simp] theorem State.setVreg_side (s : State) (k r : Nat) (v : Vec) : (s.setVreg k r v).side = s.side := rfl
@[simp] theorem State.setVreg_rd (s : State) (k r : Nat) (v : Vec) (fld : Field) (idx : Nat) : (s.setVreg k r v).rd fld idx = s.rd fld idx := by simp [State.rd]
@[simp] theorem State.setOwed_pending (s : State) (k : Nat) (l : List (Option Nat)) : (s.setOwed k l).pending = s.pending := rfl
@[simp] theorem State.setOwed_out (s : State) (k : Nat) (l : List (Option Nat)) : (s.setOwed k l).out = s.out := rfl
@[simp] theorem State.setOwed_fresh (s : State) (k : Nat) (l : List (Option Nat)) : (s.setOwed k l).fresh = s.fresh := rfl
@[simp] theorem State.setOwed_now (s : State) (k : Nat) (l : List (Option Nat)) : (s.setOwed k l).now = s.now := rfl
@[simp] theorem State.setOwed_regs (s : State) (k : Nat) (l : List (Option Nat)) : (s.setOwed k l).regs = s.regs := rfl
@[simp] theorem State.setOwed_staged (s : State) (k : Nat) (l : List (Option Nat)) : (s.setOwed k l).staged = s.staged := rfl
@[simp] theorem State.setOwed_shadow (s : State) (k : Nat) (l : List (Option Nat)) : (s.setOwed k l).shadow = s.shadow := rfl
@[simp] theorem State.setOwed_wafer (s : State) (k : Nat) (l : List (Option Nat)) : (s.setOwed k l).wafer = s.wafer := rfl
@[simp] theorem State.setOwed_mem (s : State) (k : Nat) (l : List (Option Nat)) : (s.setOwed k l).mem = s.mem := rfl
@[simp] theorem State.setOwed_threads (s : State) (k : Nat) (l : List (Option Nat)) : (s.setOwed k l).cores.threads = s.cores.threads := rfl
@[simp] theorem State.setOwed_sregs (s : State) (k : Nat) (l : List (Option Nat)) : (s.setOwed k l).cores.sregs = s.cores.sregs := rfl
@[simp] theorem State.setOwed_vregs (s : State) (k : Nat) (l : List (Option Nat)) : (s.setOwed k l).cores.vregs = s.cores.vregs := rfl
@[simp] theorem State.setOwed_accs (s : State) (k : Nat) (l : List (Option Nat)) : (s.setOwed k l).cores.accs = s.cores.accs := rfl
@[simp] theorem State.setOwed_engines (s : State) (k : Nat) (l : List (Option Nat)) : (s.setOwed k l).cores.engines = s.cores.engines := rfl
@[simp] theorem State.setOwed_sync (s : State) (k : Nat) (l : List (Option Nat)) : (s.setOwed k l).sync = s.sync := rfl
@[simp] theorem State.setOwed_ledger (s : State) (k : Nat) (l : List (Option Nat)) : (s.setOwed k l).ledger = s.ledger := rfl
@[simp] theorem State.setOwed_replay (s : State) (k : Nat) (l : List (Option Nat)) : (s.setOwed k l).replay = s.replay := rfl
@[simp] theorem State.setOwed_tjl (s : State) (k : Nat) (l : List (Option Nat)) : (s.setOwed k l).tjl = s.tjl := rfl
@[simp] theorem State.setOwed_hosts (s : State) (k : Nat) (l : List (Option Nat)) : (s.setOwed k l).hosts = s.hosts := rfl
@[simp] theorem State.setOwed_logs (s : State) (k : Nat) (l : List (Option Nat)) : (s.setOwed k l).logs = s.logs := rfl
@[simp] theorem State.setOwed_guard (s : State) (k : Nat) (l : List (Option Nat)) : (s.setOwed k l).guard = s.guard := rfl
@[simp] theorem State.setOwed_parts (s : State) (k : Nat) (l : List (Option Nat)) : (s.setOwed k l).parts = s.parts := rfl
@[simp] theorem State.setOwed_dbg (s : State) (k : Nat) (l : List (Option Nat)) : (s.setOwed k l).dbg = s.dbg := rfl
@[simp] theorem State.setOwed_sec (s : State) (k : Nat) (l : List (Option Nat)) : (s.setOwed k l).sec = s.sec := rfl
@[simp] theorem State.setOwed_boot (s : State) (k : Nat) (l : List (Option Nat)) : (s.setOwed k l).boot = s.boot := rfl
@[simp] theorem State.setOwed_repo (s : State) (k : Nat) (l : List (Option Nat)) : (s.setOwed k l).repo = s.repo := rfl
@[simp] theorem State.setOwed_side (s : State) (k : Nat) (l : List (Option Nat)) : (s.setOwed k l).side = s.side := rfl
@[simp] theorem State.setOwed_rd (s : State) (k : Nat) (l : List (Option Nat)) (fld : Field) (idx : Nat) : (s.setOwed k l).rd fld idx = s.rd fld idx := by simp [State.rd]
@[simp] theorem State.owe_pending (s : State) (k : Nat) : (s.owe k).pending = s.pending := rfl
@[simp] theorem State.owe_out (s : State) (k : Nat) : (s.owe k).out = s.out := rfl
@[simp] theorem State.owe_fresh (s : State) (k : Nat) : (s.owe k).fresh = s.fresh := rfl
@[simp] theorem State.owe_now (s : State) (k : Nat) : (s.owe k).now = s.now := rfl
@[simp] theorem State.owe_regs (s : State) (k : Nat) : (s.owe k).regs = s.regs := rfl
@[simp] theorem State.owe_staged (s : State) (k : Nat) : (s.owe k).staged = s.staged := rfl
@[simp] theorem State.owe_shadow (s : State) (k : Nat) : (s.owe k).shadow = s.shadow := rfl
@[simp] theorem State.owe_wafer (s : State) (k : Nat) : (s.owe k).wafer = s.wafer := rfl
@[simp] theorem State.owe_mem (s : State) (k : Nat) : (s.owe k).mem = s.mem := rfl
@[simp] theorem State.owe_threads (s : State) (k : Nat) : (s.owe k).cores.threads = s.cores.threads := rfl
@[simp] theorem State.owe_sregs (s : State) (k : Nat) : (s.owe k).cores.sregs = s.cores.sregs := rfl
@[simp] theorem State.owe_vregs (s : State) (k : Nat) : (s.owe k).cores.vregs = s.cores.vregs := rfl
@[simp] theorem State.owe_accs (s : State) (k : Nat) : (s.owe k).cores.accs = s.cores.accs := rfl
@[simp] theorem State.owe_engines (s : State) (k : Nat) : (s.owe k).cores.engines = s.cores.engines := rfl
@[simp] theorem State.owe_sync (s : State) (k : Nat) : (s.owe k).sync = s.sync := rfl
@[simp] theorem State.owe_ledger (s : State) (k : Nat) : (s.owe k).ledger = s.ledger := rfl
@[simp] theorem State.owe_replay (s : State) (k : Nat) : (s.owe k).replay = s.replay := rfl
@[simp] theorem State.owe_tjl (s : State) (k : Nat) : (s.owe k).tjl = s.tjl := rfl
@[simp] theorem State.owe_hosts (s : State) (k : Nat) : (s.owe k).hosts = s.hosts := rfl
@[simp] theorem State.owe_logs (s : State) (k : Nat) : (s.owe k).logs = s.logs := rfl
@[simp] theorem State.owe_guard (s : State) (k : Nat) : (s.owe k).guard = s.guard := rfl
@[simp] theorem State.owe_parts (s : State) (k : Nat) : (s.owe k).parts = s.parts := rfl
@[simp] theorem State.owe_dbg (s : State) (k : Nat) : (s.owe k).dbg = s.dbg := rfl
@[simp] theorem State.owe_sec (s : State) (k : Nat) : (s.owe k).sec = s.sec := rfl
@[simp] theorem State.owe_boot (s : State) (k : Nat) : (s.owe k).boot = s.boot := rfl
@[simp] theorem State.owe_repo (s : State) (k : Nat) : (s.owe k).repo = s.repo := rfl
@[simp] theorem State.owe_side (s : State) (k : Nat) : (s.owe k).side = s.side := rfl
@[simp] theorem State.owe_rd (s : State) (k : Nat) (fld : Field) (idx : Nat) : (s.owe k).rd fld idx = s.rd fld idx := by simp [State.rd]
@[simp] theorem State.setEngine_pending (s : State) (k : Nat) (e : Engine) : (s.setEngine k e).pending = s.pending := rfl
@[simp] theorem State.setEngine_out (s : State) (k : Nat) (e : Engine) : (s.setEngine k e).out = s.out := rfl
@[simp] theorem State.setEngine_fresh (s : State) (k : Nat) (e : Engine) : (s.setEngine k e).fresh = s.fresh := rfl
@[simp] theorem State.setEngine_now (s : State) (k : Nat) (e : Engine) : (s.setEngine k e).now = s.now := rfl
@[simp] theorem State.setEngine_regs (s : State) (k : Nat) (e : Engine) : (s.setEngine k e).regs = s.regs := rfl
@[simp] theorem State.setEngine_staged (s : State) (k : Nat) (e : Engine) : (s.setEngine k e).staged = s.staged := rfl
@[simp] theorem State.setEngine_shadow (s : State) (k : Nat) (e : Engine) : (s.setEngine k e).shadow = s.shadow := rfl
@[simp] theorem State.setEngine_wafer (s : State) (k : Nat) (e : Engine) : (s.setEngine k e).wafer = s.wafer := rfl
@[simp] theorem State.setEngine_mem (s : State) (k : Nat) (e : Engine) : (s.setEngine k e).mem = s.mem := rfl
@[simp] theorem State.setEngine_threads (s : State) (k : Nat) (e : Engine) : (s.setEngine k e).cores.threads = s.cores.threads := rfl
@[simp] theorem State.setEngine_owed (s : State) (k : Nat) (e : Engine) : (s.setEngine k e).cores.owed = s.cores.owed := rfl
@[simp] theorem State.setEngine_sregs (s : State) (k : Nat) (e : Engine) : (s.setEngine k e).cores.sregs = s.cores.sregs := rfl
@[simp] theorem State.setEngine_vregs (s : State) (k : Nat) (e : Engine) : (s.setEngine k e).cores.vregs = s.cores.vregs := rfl
@[simp] theorem State.setEngine_accs (s : State) (k : Nat) (e : Engine) : (s.setEngine k e).cores.accs = s.cores.accs := rfl
@[simp] theorem State.setEngine_sync (s : State) (k : Nat) (e : Engine) : (s.setEngine k e).sync = s.sync := rfl
@[simp] theorem State.setEngine_ledger (s : State) (k : Nat) (e : Engine) : (s.setEngine k e).ledger = s.ledger := rfl
@[simp] theorem State.setEngine_replay (s : State) (k : Nat) (e : Engine) : (s.setEngine k e).replay = s.replay := rfl
@[simp] theorem State.setEngine_tjl (s : State) (k : Nat) (e : Engine) : (s.setEngine k e).tjl = s.tjl := rfl
@[simp] theorem State.setEngine_hosts (s : State) (k : Nat) (e : Engine) : (s.setEngine k e).hosts = s.hosts := rfl
@[simp] theorem State.setEngine_logs (s : State) (k : Nat) (e : Engine) : (s.setEngine k e).logs = s.logs := rfl
@[simp] theorem State.setEngine_guard (s : State) (k : Nat) (e : Engine) : (s.setEngine k e).guard = s.guard := rfl
@[simp] theorem State.setEngine_parts (s : State) (k : Nat) (e : Engine) : (s.setEngine k e).parts = s.parts := rfl
@[simp] theorem State.setEngine_dbg (s : State) (k : Nat) (e : Engine) : (s.setEngine k e).dbg = s.dbg := rfl
@[simp] theorem State.setEngine_sec (s : State) (k : Nat) (e : Engine) : (s.setEngine k e).sec = s.sec := rfl
@[simp] theorem State.setEngine_boot (s : State) (k : Nat) (e : Engine) : (s.setEngine k e).boot = s.boot := rfl
@[simp] theorem State.setEngine_repo (s : State) (k : Nat) (e : Engine) : (s.setEngine k e).repo = s.repo := rfl
@[simp] theorem State.setEngine_side (s : State) (k : Nat) (e : Engine) : (s.setEngine k e).side = s.side := rfl
@[simp] theorem State.setEngine_rd (s : State) (k : Nat) (e : Engine) (fld : Field) (idx : Nat) : (s.setEngine k e).rd fld idx = s.rd fld idx := by simp [State.rd]
@[simp] theorem State.setObj_pending (s : State) (k : Nat) (o : SyncObj) : (s.setObj k o).pending = s.pending := rfl
@[simp] theorem State.setObj_out (s : State) (k : Nat) (o : SyncObj) : (s.setObj k o).out = s.out := rfl
@[simp] theorem State.setObj_fresh (s : State) (k : Nat) (o : SyncObj) : (s.setObj k o).fresh = s.fresh := rfl
@[simp] theorem State.setObj_now (s : State) (k : Nat) (o : SyncObj) : (s.setObj k o).now = s.now := rfl
@[simp] theorem State.setObj_regs (s : State) (k : Nat) (o : SyncObj) : (s.setObj k o).regs = s.regs := rfl
@[simp] theorem State.setObj_staged (s : State) (k : Nat) (o : SyncObj) : (s.setObj k o).staged = s.staged := rfl
@[simp] theorem State.setObj_shadow (s : State) (k : Nat) (o : SyncObj) : (s.setObj k o).shadow = s.shadow := rfl
@[simp] theorem State.setObj_wafer (s : State) (k : Nat) (o : SyncObj) : (s.setObj k o).wafer = s.wafer := rfl
@[simp] theorem State.setObj_mem (s : State) (k : Nat) (o : SyncObj) : (s.setObj k o).mem = s.mem := rfl
@[simp] theorem State.setObj_cores (s : State) (k : Nat) (o : SyncObj) : (s.setObj k o).cores = s.cores := rfl
@[simp] theorem State.setObj_ledger (s : State) (k : Nat) (o : SyncObj) : (s.setObj k o).ledger = s.ledger := rfl
@[simp] theorem State.setObj_replay (s : State) (k : Nat) (o : SyncObj) : (s.setObj k o).replay = s.replay := rfl
@[simp] theorem State.setObj_tjl (s : State) (k : Nat) (o : SyncObj) : (s.setObj k o).tjl = s.tjl := rfl
@[simp] theorem State.setObj_hosts (s : State) (k : Nat) (o : SyncObj) : (s.setObj k o).hosts = s.hosts := rfl
@[simp] theorem State.setObj_logs (s : State) (k : Nat) (o : SyncObj) : (s.setObj k o).logs = s.logs := rfl
@[simp] theorem State.setObj_guard (s : State) (k : Nat) (o : SyncObj) : (s.setObj k o).guard = s.guard := rfl
@[simp] theorem State.setObj_parts (s : State) (k : Nat) (o : SyncObj) : (s.setObj k o).parts = s.parts := rfl
@[simp] theorem State.setObj_dbg (s : State) (k : Nat) (o : SyncObj) : (s.setObj k o).dbg = s.dbg := rfl
@[simp] theorem State.setObj_sec (s : State) (k : Nat) (o : SyncObj) : (s.setObj k o).sec = s.sec := rfl
@[simp] theorem State.setObj_boot (s : State) (k : Nat) (o : SyncObj) : (s.setObj k o).boot = s.boot := rfl
@[simp] theorem State.setObj_repo (s : State) (k : Nat) (o : SyncObj) : (s.setObj k o).repo = s.repo := rfl
@[simp] theorem State.setObj_side (s : State) (k : Nat) (o : SyncObj) : (s.setObj k o).side = s.side := rfl
@[simp] theorem State.setObj_rd (s : State) (k : Nat) (o : SyncObj) (fld : Field) (idx : Nat) : (s.setObj k o).rd fld idx = s.rd fld idx := by simp [State.rd]
@[simp] theorem State.inc_pending (s : State) (f : Field) (i : Nat) : (s.inc f i).pending = s.pending := rfl
@[simp] theorem State.inc_out (s : State) (f : Field) (i : Nat) : (s.inc f i).out = s.out := rfl
@[simp] theorem State.inc_fresh (s : State) (f : Field) (i : Nat) : (s.inc f i).fresh = s.fresh := rfl
@[simp] theorem State.inc_now (s : State) (f : Field) (i : Nat) : (s.inc f i).now = s.now := rfl
@[simp] theorem State.inc_staged (s : State) (f : Field) (i : Nat) : (s.inc f i).staged = s.staged := rfl
@[simp] theorem State.inc_shadow (s : State) (f : Field) (i : Nat) : (s.inc f i).shadow = s.shadow := rfl
@[simp] theorem State.inc_wafer (s : State) (f : Field) (i : Nat) : (s.inc f i).wafer = s.wafer := rfl
@[simp] theorem State.inc_mem (s : State) (f : Field) (i : Nat) : (s.inc f i).mem = s.mem := rfl
@[simp] theorem State.inc_cores (s : State) (f : Field) (i : Nat) : (s.inc f i).cores = s.cores := rfl
@[simp] theorem State.inc_sync (s : State) (f : Field) (i : Nat) : (s.inc f i).sync = s.sync := rfl
@[simp] theorem State.inc_ledger (s : State) (f : Field) (i : Nat) : (s.inc f i).ledger = s.ledger := rfl
@[simp] theorem State.inc_replay (s : State) (f : Field) (i : Nat) : (s.inc f i).replay = s.replay := rfl
@[simp] theorem State.inc_tjl (s : State) (f : Field) (i : Nat) : (s.inc f i).tjl = s.tjl := rfl
@[simp] theorem State.inc_hosts (s : State) (f : Field) (i : Nat) : (s.inc f i).hosts = s.hosts := rfl
@[simp] theorem State.inc_logs (s : State) (f : Field) (i : Nat) : (s.inc f i).logs = s.logs := rfl
@[simp] theorem State.inc_guard (s : State) (f : Field) (i : Nat) : (s.inc f i).guard = s.guard := rfl
@[simp] theorem State.inc_parts (s : State) (f : Field) (i : Nat) : (s.inc f i).parts = s.parts := rfl
@[simp] theorem State.inc_dbg (s : State) (f : Field) (i : Nat) : (s.inc f i).dbg = s.dbg := rfl
@[simp] theorem State.inc_sec (s : State) (f : Field) (i : Nat) : (s.inc f i).sec = s.sec := rfl
@[simp] theorem State.inc_boot (s : State) (f : Field) (i : Nat) : (s.inc f i).boot = s.boot := rfl
@[simp] theorem State.inc_repo (s : State) (f : Field) (i : Nat) : (s.inc f i).repo = s.repo := rfl
@[simp] theorem State.inc_side (s : State) (f : Field) (i : Nat) : (s.inc f i).side = s.side := rfl
@[simp] theorem State.sbpOut_pending (s : State) (n : Nat) (v : Option Bool) : (s.sbpOut n v).pending = s.pending := by
  unfold State.sbpOut; split
  · rfl
  · split <;> rfl
@[simp] theorem State.sbpOut_fresh (s : State) (n : Nat) (v : Option Bool) : (s.sbpOut n v).fresh = s.fresh := by
  unfold State.sbpOut; split
  · rfl
  · split <;> rfl
@[simp] theorem State.sbpOut_now (s : State) (n : Nat) (v : Option Bool) : (s.sbpOut n v).now = s.now := by
  unfold State.sbpOut; split
  · rfl
  · split <;> rfl
@[simp] theorem State.sbpOut_regs (s : State) (n : Nat) (v : Option Bool) : (s.sbpOut n v).regs = s.regs := by
  unfold State.sbpOut; split
  · rfl
  · split <;> rfl
@[simp] theorem State.sbpOut_staged (s : State) (n : Nat) (v : Option Bool) : (s.sbpOut n v).staged = s.staged := by
  unfold State.sbpOut; split
  · rfl
  · split <;> rfl
@[simp] theorem State.sbpOut_shadow (s : State) (n : Nat) (v : Option Bool) : (s.sbpOut n v).shadow = s.shadow := by
  unfold State.sbpOut; split
  · rfl
  · split <;> rfl
@[simp] theorem State.sbpOut_wafer (s : State) (n : Nat) (v : Option Bool) : (s.sbpOut n v).wafer = s.wafer := by
  unfold State.sbpOut; split
  · rfl
  · split <;> rfl
@[simp] theorem State.sbpOut_mem (s : State) (n : Nat) (v : Option Bool) : (s.sbpOut n v).mem = s.mem := by
  unfold State.sbpOut; split
  · rfl
  · split <;> rfl
@[simp] theorem State.sbpOut_cores (s : State) (n : Nat) (v : Option Bool) : (s.sbpOut n v).cores = s.cores := by
  unfold State.sbpOut; split
  · rfl
  · split <;> rfl
@[simp] theorem State.sbpOut_sync (s : State) (n : Nat) (v : Option Bool) : (s.sbpOut n v).sync = s.sync := by
  unfold State.sbpOut; split
  · rfl
  · split <;> rfl
@[simp] theorem State.sbpOut_ledger (s : State) (n : Nat) (v : Option Bool) : (s.sbpOut n v).ledger = s.ledger := by
  unfold State.sbpOut; split
  · rfl
  · split <;> rfl
@[simp] theorem State.sbpOut_replay (s : State) (n : Nat) (v : Option Bool) : (s.sbpOut n v).replay = s.replay := by
  unfold State.sbpOut; split
  · rfl
  · split <;> rfl
@[simp] theorem State.sbpOut_tjl (s : State) (n : Nat) (v : Option Bool) : (s.sbpOut n v).tjl = s.tjl := by
  unfold State.sbpOut; split
  · rfl
  · split <;> rfl
@[simp] theorem State.sbpOut_hosts (s : State) (n : Nat) (v : Option Bool) : (s.sbpOut n v).hosts = s.hosts := by
  unfold State.sbpOut; split
  · rfl
  · split <;> rfl
@[simp] theorem State.sbpOut_logs (s : State) (n : Nat) (v : Option Bool) : (s.sbpOut n v).logs = s.logs := by
  unfold State.sbpOut; split
  · rfl
  · split <;> rfl
@[simp] theorem State.sbpOut_guard (s : State) (n : Nat) (v : Option Bool) : (s.sbpOut n v).guard = s.guard := by
  unfold State.sbpOut; split
  · rfl
  · split <;> rfl
@[simp] theorem State.sbpOut_parts (s : State) (n : Nat) (v : Option Bool) : (s.sbpOut n v).parts = s.parts := by
  unfold State.sbpOut; split
  · rfl
  · split <;> rfl
@[simp] theorem State.sbpOut_dbg (s : State) (n : Nat) (v : Option Bool) : (s.sbpOut n v).dbg = s.dbg := by
  unfold State.sbpOut; split
  · rfl
  · split <;> rfl
@[simp] theorem State.sbpOut_sec (s : State) (n : Nat) (v : Option Bool) : (s.sbpOut n v).sec = s.sec := by
  unfold State.sbpOut; split
  · rfl
  · split <;> rfl
@[simp] theorem State.sbpOut_boot (s : State) (n : Nat) (v : Option Bool) : (s.sbpOut n v).boot = s.boot := by
  unfold State.sbpOut; split
  · rfl
  · split <;> rfl
@[simp] theorem State.sbpOut_repo (s : State) (n : Nat) (v : Option Bool) : (s.sbpOut n v).repo = s.repo := by
  unfold State.sbpOut; split
  · rfl
  · split <;> rfl
@[simp] theorem State.sbpOut_side (s : State) (n : Nat) (v : Option Bool) : (s.sbpOut n v).side = s.side := by
  unfold State.sbpOut; split
  · rfl
  · split <;> rfl
@[simp] theorem State.sbpOut_rd (s : State) (n : Nat) (v : Option Bool) (fld : Field) (idx : Nat) : (s.sbpOut n v).rd fld idx = s.rd fld idx := by simp [State.rd]
@[simp] theorem State.alertCheck_pending (s : State)  : s.alertCheck.pending = s.pending := by
  have h : ∀ (t : State) (l : List Nat) (v : Option Bool), (t.each l fun s n => s.sbpOut n v).pending = t.pending := fun t l v => State.each_keeps (·.pending) _ _ _ (fun _ _ => by simp)
  unfold State.alertCheck; simp only; split
  · rfl
  · repeat' split
    all_goals simp [h]
@[simp] theorem State.alertCheck_fresh (s : State)  : s.alertCheck.fresh = s.fresh := by
  have h : ∀ (t : State) (l : List Nat) (v : Option Bool), (t.each l fun s n => s.sbpOut n v).fresh = t.fresh := fun t l v => State.each_keeps (·.fresh) _ _ _ (fun _ _ => by simp)
  unfold State.alertCheck; simp only; split
  · rfl
  · repeat' split
    all_goals simp [h]
@[simp] theorem State.alertCheck_now (s : State)  : s.alertCheck.now = s.now := by
  have h : ∀ (t : State) (l : List Nat) (v : Option Bool), (t.each l fun s n => s.sbpOut n v).now = t.now := fun t l v => State.each_keeps (·.now) _ _ _ (fun _ _ => by simp)
  unfold State.alertCheck; simp only; split
  · rfl
  · repeat' split
    all_goals simp [h]
@[simp] theorem State.alertCheck_regs (s : State)  : s.alertCheck.regs = s.regs := by
  have h : ∀ (t : State) (l : List Nat) (v : Option Bool), (t.each l fun s n => s.sbpOut n v).regs = t.regs := fun t l v => State.each_keeps (·.regs) _ _ _ (fun _ _ => by simp)
  unfold State.alertCheck; simp only; split
  · rfl
  · repeat' split
    all_goals simp [h]
@[simp] theorem State.alertCheck_staged (s : State)  : s.alertCheck.staged = s.staged := by
  have h : ∀ (t : State) (l : List Nat) (v : Option Bool), (t.each l fun s n => s.sbpOut n v).staged = t.staged := fun t l v => State.each_keeps (·.staged) _ _ _ (fun _ _ => by simp)
  unfold State.alertCheck; simp only; split
  · rfl
  · repeat' split
    all_goals simp [h]
@[simp] theorem State.alertCheck_shadow (s : State)  : s.alertCheck.shadow = s.shadow := by
  have h : ∀ (t : State) (l : List Nat) (v : Option Bool), (t.each l fun s n => s.sbpOut n v).shadow = t.shadow := fun t l v => State.each_keeps (·.shadow) _ _ _ (fun _ _ => by simp)
  unfold State.alertCheck; simp only; split
  · rfl
  · repeat' split
    all_goals simp [h]
@[simp] theorem State.alertCheck_wafer (s : State)  : s.alertCheck.wafer = s.wafer := by
  have h : ∀ (t : State) (l : List Nat) (v : Option Bool), (t.each l fun s n => s.sbpOut n v).wafer = t.wafer := fun t l v => State.each_keeps (·.wafer) _ _ _ (fun _ _ => by simp)
  unfold State.alertCheck; simp only; split
  · rfl
  · repeat' split
    all_goals simp [h]
@[simp] theorem State.alertCheck_mem (s : State)  : s.alertCheck.mem = s.mem := by
  have h : ∀ (t : State) (l : List Nat) (v : Option Bool), (t.each l fun s n => s.sbpOut n v).mem = t.mem := fun t l v => State.each_keeps (·.mem) _ _ _ (fun _ _ => by simp)
  unfold State.alertCheck; simp only; split
  · rfl
  · repeat' split
    all_goals simp [h]
@[simp] theorem State.alertCheck_cores (s : State)  : s.alertCheck.cores = s.cores := by
  have h : ∀ (t : State) (l : List Nat) (v : Option Bool), (t.each l fun s n => s.sbpOut n v).cores = t.cores := fun t l v => State.each_keeps (·.cores) _ _ _ (fun _ _ => by simp)
  unfold State.alertCheck; simp only; split
  · rfl
  · repeat' split
    all_goals simp [h]
@[simp] theorem State.alertCheck_sync (s : State)  : s.alertCheck.sync = s.sync := by
  have h : ∀ (t : State) (l : List Nat) (v : Option Bool), (t.each l fun s n => s.sbpOut n v).sync = t.sync := fun t l v => State.each_keeps (·.sync) _ _ _ (fun _ _ => by simp)
  unfold State.alertCheck; simp only; split
  · rfl
  · repeat' split
    all_goals simp [h]
@[simp] theorem State.alertCheck_ledger (s : State)  : s.alertCheck.ledger = s.ledger := by
  have h : ∀ (t : State) (l : List Nat) (v : Option Bool), (t.each l fun s n => s.sbpOut n v).ledger = t.ledger := fun t l v => State.each_keeps (·.ledger) _ _ _ (fun _ _ => by simp)
  unfold State.alertCheck; simp only; split
  · rfl
  · repeat' split
    all_goals simp [h]
@[simp] theorem State.alertCheck_replay (s : State)  : s.alertCheck.replay = s.replay := by
  have h : ∀ (t : State) (l : List Nat) (v : Option Bool), (t.each l fun s n => s.sbpOut n v).replay = t.replay := fun t l v => State.each_keeps (·.replay) _ _ _ (fun _ _ => by simp)
  unfold State.alertCheck; simp only; split
  · rfl
  · repeat' split
    all_goals simp [h]
@[simp] theorem State.alertCheck_tjl (s : State)  : s.alertCheck.tjl = s.tjl := by
  have h : ∀ (t : State) (l : List Nat) (v : Option Bool), (t.each l fun s n => s.sbpOut n v).tjl = t.tjl := fun t l v => State.each_keeps (·.tjl) _ _ _ (fun _ _ => by simp)
  unfold State.alertCheck; simp only; split
  · rfl
  · repeat' split
    all_goals simp [h]
@[simp] theorem State.alertCheck_hosts (s : State)  : s.alertCheck.hosts = s.hosts := by
  have h : ∀ (t : State) (l : List Nat) (v : Option Bool), (t.each l fun s n => s.sbpOut n v).hosts = t.hosts := fun t l v => State.each_keeps (·.hosts) _ _ _ (fun _ _ => by simp)
  unfold State.alertCheck; simp only; split
  · rfl
  · repeat' split
    all_goals simp [h]
@[simp] theorem State.alertCheck_logs (s : State)  : s.alertCheck.logs = s.logs := by
  have h : ∀ (t : State) (l : List Nat) (v : Option Bool), (t.each l fun s n => s.sbpOut n v).logs = t.logs := fun t l v => State.each_keeps (·.logs) _ _ _ (fun _ _ => by simp)
  unfold State.alertCheck; simp only; split
  · rfl
  · repeat' split
    all_goals simp [h]
@[simp] theorem State.alertCheck_guard (s : State)  : s.alertCheck.guard = s.guard := by
  have h : ∀ (t : State) (l : List Nat) (v : Option Bool), (t.each l fun s n => s.sbpOut n v).guard = t.guard := fun t l v => State.each_keeps (·.guard) _ _ _ (fun _ _ => by simp)
  unfold State.alertCheck; simp only; split
  · rfl
  · repeat' split
    all_goals simp [h]
@[simp] theorem State.alertCheck_parts (s : State)  : s.alertCheck.parts = s.parts := by
  have h : ∀ (t : State) (l : List Nat) (v : Option Bool), (t.each l fun s n => s.sbpOut n v).parts = t.parts := fun t l v => State.each_keeps (·.parts) _ _ _ (fun _ _ => by simp)
  unfold State.alertCheck; simp only; split
  · rfl
  · repeat' split
    all_goals simp [h]
@[simp] theorem State.alertCheck_dbg (s : State)  : s.alertCheck.dbg = s.dbg := by
  have h : ∀ (t : State) (l : List Nat) (v : Option Bool), (t.each l fun s n => s.sbpOut n v).dbg = t.dbg := fun t l v => State.each_keeps (·.dbg) _ _ _ (fun _ _ => by simp)
  unfold State.alertCheck; simp only; split
  · rfl
  · repeat' split
    all_goals simp [h]
@[simp] theorem State.alertCheck_sec (s : State)  : s.alertCheck.sec = s.sec := by
  have h : ∀ (t : State) (l : List Nat) (v : Option Bool), (t.each l fun s n => s.sbpOut n v).sec = t.sec := fun t l v => State.each_keeps (·.sec) _ _ _ (fun _ _ => by simp)
  unfold State.alertCheck; simp only; split
  · rfl
  · repeat' split
    all_goals simp [h]
@[simp] theorem State.alertCheck_boot (s : State)  : s.alertCheck.boot = s.boot := by
  have h : ∀ (t : State) (l : List Nat) (v : Option Bool), (t.each l fun s n => s.sbpOut n v).boot = t.boot := fun t l v => State.each_keeps (·.boot) _ _ _ (fun _ _ => by simp)
  unfold State.alertCheck; simp only; split
  · rfl
  · repeat' split
    all_goals simp [h]
@[simp] theorem State.alertCheck_repo (s : State)  : s.alertCheck.repo = s.repo := by
  have h : ∀ (t : State) (l : List Nat) (v : Option Bool), (t.each l fun s n => s.sbpOut n v).repo = t.repo := fun t l v => State.each_keeps (·.repo) _ _ _ (fun _ _ => by simp)
  unfold State.alertCheck; simp only; split
  · rfl
  · repeat' split
    all_goals simp [h]
@[simp] theorem State.alertCheck_rd (s : State)  (fld : Field) (idx : Nat) : s.alertCheck.rd fld idx = s.rd fld idx := by simp [State.rd]
@[simp] theorem State.vector_pending (s : State) (x pf v : Nat) : (s.vector x pf v).pending = s.pending := by
  unfold State.vector; split
  · rfl
  · simp only; split <;> rfl
@[simp] theorem State.vector_fresh (s : State) (x pf v : Nat) : (s.vector x pf v).fresh = s.fresh := by
  unfold State.vector; split
  · rfl
  · simp only; split <;> rfl
@[simp] theorem State.vector_now (s : State) (x pf v : Nat) : (s.vector x pf v).now = s.now := by
  unfold State.vector; split
  · rfl
  · simp only; split <;> rfl
@[simp] theorem State.vector_regs (s : State) (x pf v : Nat) : (s.vector x pf v).regs = s.regs := by
  unfold State.vector; split
  · rfl
  · simp only; split <;> rfl
@[simp] theorem State.vector_staged (s : State) (x pf v : Nat) : (s.vector x pf v).staged = s.staged := by
  unfold State.vector; split
  · rfl
  · simp only; split <;> rfl
@[simp] theorem State.vector_shadow (s : State) (x pf v : Nat) : (s.vector x pf v).shadow = s.shadow := by
  unfold State.vector; split
  · rfl
  · simp only; split <;> rfl
@[simp] theorem State.vector_wafer (s : State) (x pf v : Nat) : (s.vector x pf v).wafer = s.wafer := by
  unfold State.vector; split
  · rfl
  · simp only; split <;> rfl
@[simp] theorem State.vector_mem (s : State) (x pf v : Nat) : (s.vector x pf v).mem = s.mem := by
  unfold State.vector; split
  · rfl
  · simp only; split <;> rfl
@[simp] theorem State.vector_cores (s : State) (x pf v : Nat) : (s.vector x pf v).cores = s.cores := by
  unfold State.vector; split
  · rfl
  · simp only; split <;> rfl
@[simp] theorem State.vector_sync (s : State) (x pf v : Nat) : (s.vector x pf v).sync = s.sync := by
  unfold State.vector; split
  · rfl
  · simp only; split <;> rfl
@[simp] theorem State.vector_ledger (s : State) (x pf v : Nat) : (s.vector x pf v).ledger = s.ledger := by
  unfold State.vector; split
  · rfl
  · simp only; split <;> rfl
@[simp] theorem State.vector_replay (s : State) (x pf v : Nat) : (s.vector x pf v).replay = s.replay := by
  unfold State.vector; split
  · rfl
  · simp only; split <;> rfl
@[simp] theorem State.vector_tjl (s : State) (x pf v : Nat) : (s.vector x pf v).tjl = s.tjl := by
  unfold State.vector; split
  · rfl
  · simp only; split <;> rfl
@[simp] theorem State.vector_logs (s : State) (x pf v : Nat) : (s.vector x pf v).logs = s.logs := by
  unfold State.vector; split
  · rfl
  · simp only; split <;> rfl
@[simp] theorem State.vector_guard (s : State) (x pf v : Nat) : (s.vector x pf v).guard = s.guard := by
  unfold State.vector; split
  · rfl
  · simp only; split <;> rfl
@[simp] theorem State.vector_parts (s : State) (x pf v : Nat) : (s.vector x pf v).parts = s.parts := by
  unfold State.vector; split
  · rfl
  · simp only; split <;> rfl
@[simp] theorem State.vector_dbg (s : State) (x pf v : Nat) : (s.vector x pf v).dbg = s.dbg := by
  unfold State.vector; split
  · rfl
  · simp only; split <;> rfl
@[simp] theorem State.vector_sec (s : State) (x pf v : Nat) : (s.vector x pf v).sec = s.sec := by
  unfold State.vector; split
  · rfl
  · simp only; split <;> rfl
@[simp] theorem State.vector_boot (s : State) (x pf v : Nat) : (s.vector x pf v).boot = s.boot := by
  unfold State.vector; split
  · rfl
  · simp only; split <;> rfl
@[simp] theorem State.vector_repo (s : State) (x pf v : Nat) : (s.vector x pf v).repo = s.repo := by
  unfold State.vector; split
  · rfl
  · simp only; split <;> rfl
@[simp] theorem State.vector_side (s : State) (x pf v : Nat) : (s.vector x pf v).side = s.side := by
  unfold State.vector; split
  · rfl
  · simp only; split <;> rfl
@[simp] theorem State.vector_rd (s : State) (x pf v : Nat) (fld : Field) (idx : Nat) : (s.vector x pf v).rd fld idx = s.rd fld idx := by simp [State.rd]
@[simp] theorem State.vector0_pending (s : State) (x pf : Nat) : (s.vector0 x pf).pending = s.pending := by unfold State.vector0; split <;> simp
@[simp] theorem State.vector0_fresh (s : State) (x pf : Nat) : (s.vector0 x pf).fresh = s.fresh := by unfold State.vector0; split <;> simp
@[simp] theorem State.vector0_now (s : State) (x pf : Nat) : (s.vector0 x pf).now = s.now := by unfold State.vector0; split <;> simp
@[simp] theorem State.vector0_regs (s : State) (x pf : Nat) : (s.vector0 x pf).regs = s.regs := by unfold State.vector0; split <;> simp
@[simp] theorem State.vector0_staged (s : State) (x pf : Nat) : (s.vector0 x pf).staged = s.staged := by unfold State.vector0; split <;> simp
@[simp] theorem State.vector0_shadow (s : State) (x pf : Nat) : (s.vector0 x pf).shadow = s.shadow := by unfold State.vector0; split <;> simp
@[simp] theorem State.vector0_wafer (s : State) (x pf : Nat) : (s.vector0 x pf).wafer = s.wafer := by unfold State.vector0; split <;> simp
@[simp] theorem State.vector0_mem (s : State) (x pf : Nat) : (s.vector0 x pf).mem = s.mem := by unfold State.vector0; split <;> simp
@[simp] theorem State.vector0_cores (s : State) (x pf : Nat) : (s.vector0 x pf).cores = s.cores := by unfold State.vector0; split <;> simp
@[simp] theorem State.vector0_sync (s : State) (x pf : Nat) : (s.vector0 x pf).sync = s.sync := by unfold State.vector0; split <;> simp
@[simp] theorem State.vector0_ledger (s : State) (x pf : Nat) : (s.vector0 x pf).ledger = s.ledger := by unfold State.vector0; split <;> simp
@[simp] theorem State.vector0_replay (s : State) (x pf : Nat) : (s.vector0 x pf).replay = s.replay := by unfold State.vector0; split <;> simp
@[simp] theorem State.vector0_tjl (s : State) (x pf : Nat) : (s.vector0 x pf).tjl = s.tjl := by unfold State.vector0; split <;> simp
@[simp] theorem State.vector0_logs (s : State) (x pf : Nat) : (s.vector0 x pf).logs = s.logs := by unfold State.vector0; split <;> simp
@[simp] theorem State.vector0_guard (s : State) (x pf : Nat) : (s.vector0 x pf).guard = s.guard := by unfold State.vector0; split <;> simp
@[simp] theorem State.vector0_parts (s : State) (x pf : Nat) : (s.vector0 x pf).parts = s.parts := by unfold State.vector0; split <;> simp
@[simp] theorem State.vector0_dbg (s : State) (x pf : Nat) : (s.vector0 x pf).dbg = s.dbg := by unfold State.vector0; split <;> simp
@[simp] theorem State.vector0_sec (s : State) (x pf : Nat) : (s.vector0 x pf).sec = s.sec := by unfold State.vector0; split <;> simp
@[simp] theorem State.vector0_boot (s : State) (x pf : Nat) : (s.vector0 x pf).boot = s.boot := by unfold State.vector0; split <;> simp
@[simp] theorem State.vector0_repo (s : State) (x pf : Nat) : (s.vector0 x pf).repo = s.repo := by unfold State.vector0; split <;> simp
@[simp] theorem State.vector0_side (s : State) (x pf : Nat) : (s.vector0 x pf).side = s.side := by unfold State.vector0; split <;> simp
@[simp] theorem State.vector0_rd (s : State) (x pf : Nat) (fld : Field) (idx : Nat) : (s.vector0 x pf).rd fld idx = s.rd fld idx := by simp [State.rd]
@[simp] theorem State.vector3_pending (s : State) (x pf : Nat) : (s.vector3 x pf).pending = s.pending := by unfold State.vector3; split <;> simp
@[simp] theorem State.vector3_fresh (s : State) (x pf : Nat) : (s.vector3 x pf).fresh = s.fresh := by unfold State.vector3; split <;> simp
@[simp] theorem State.vector3_now (s : State) (x pf : Nat) : (s.vector3 x pf).now = s.now := by unfold State.vector3; split <;> simp
@[simp] theorem State.vector3_regs (s : State) (x pf : Nat) : (s.vector3 x pf).regs = s.regs := by unfold State.vector3; split <;> simp
@[simp] theorem State.vector3_staged (s : State) (x pf : Nat) : (s.vector3 x pf).staged = s.staged := by unfold State.vector3; split <;> simp
@[simp] theorem State.vector3_shadow (s : State) (x pf : Nat) : (s.vector3 x pf).shadow = s.shadow := by unfold State.vector3; split <;> simp
@[simp] theorem State.vector3_wafer (s : State) (x pf : Nat) : (s.vector3 x pf).wafer = s.wafer := by unfold State.vector3; split <;> simp
@[simp] theorem State.vector3_mem (s : State) (x pf : Nat) : (s.vector3 x pf).mem = s.mem := by unfold State.vector3; split <;> simp
@[simp] theorem State.vector3_cores (s : State) (x pf : Nat) : (s.vector3 x pf).cores = s.cores := by unfold State.vector3; split <;> simp
@[simp] theorem State.vector3_sync (s : State) (x pf : Nat) : (s.vector3 x pf).sync = s.sync := by unfold State.vector3; split <;> simp
@[simp] theorem State.vector3_ledger (s : State) (x pf : Nat) : (s.vector3 x pf).ledger = s.ledger := by unfold State.vector3; split <;> simp
@[simp] theorem State.vector3_replay (s : State) (x pf : Nat) : (s.vector3 x pf).replay = s.replay := by unfold State.vector3; split <;> simp
@[simp] theorem State.vector3_tjl (s : State) (x pf : Nat) : (s.vector3 x pf).tjl = s.tjl := by unfold State.vector3; split <;> simp
@[simp] theorem State.vector3_logs (s : State) (x pf : Nat) : (s.vector3 x pf).logs = s.logs := by unfold State.vector3; split <;> simp
@[simp] theorem State.vector3_guard (s : State) (x pf : Nat) : (s.vector3 x pf).guard = s.guard := by unfold State.vector3; split <;> simp
@[simp] theorem State.vector3_parts (s : State) (x pf : Nat) : (s.vector3 x pf).parts = s.parts := by unfold State.vector3; split <;> simp
@[simp] theorem State.vector3_dbg (s : State) (x pf : Nat) : (s.vector3 x pf).dbg = s.dbg := by unfold State.vector3; split <;> simp
@[simp] theorem State.vector3_sec (s : State) (x pf : Nat) : (s.vector3 x pf).sec = s.sec := by unfold State.vector3; split <;> simp
@[simp] theorem State.vector3_boot (s : State) (x pf : Nat) : (s.vector3 x pf).boot = s.boot := by unfold State.vector3; split <;> simp
@[simp] theorem State.vector3_repo (s : State) (x pf : Nat) : (s.vector3 x pf).repo = s.repo := by unfold State.vector3; split <;> simp
@[simp] theorem State.vector3_side (s : State) (x pf : Nat) : (s.vector3 x pf).side = s.side := by unfold State.vector3; split <;> simp
@[simp] theorem State.vector3_rd (s : State) (x pf : Nat) (fld : Field) (idx : Nat) : (s.vector3 x pf).rd fld idx = s.rd fld idx := by simp [State.rd]
@[simp] theorem State.tellSteward_pending (s : State) (p : Nat) : (s.tellSteward p).pending = s.pending := by
  simp only [State.tellSteward, State.alertCheck_pending, State.onSide_pending]
  exact State.each_keeps (·.pending) _ _ _ (fun _ _ => by simp)
@[simp] theorem State.tellSteward_fresh (s : State) (p : Nat) : (s.tellSteward p).fresh = s.fresh := by
  simp only [State.tellSteward, State.alertCheck_fresh, State.onSide_fresh]
  exact State.each_keeps (·.fresh) _ _ _ (fun _ _ => by simp)
@[simp] theorem State.tellSteward_now (s : State) (p : Nat) : (s.tellSteward p).now = s.now := by
  simp only [State.tellSteward, State.alertCheck_now, State.onSide_now]
  exact State.each_keeps (·.now) _ _ _ (fun _ _ => by simp)
@[simp] theorem State.tellSteward_regs (s : State) (p : Nat) : (s.tellSteward p).regs = s.regs := by
  simp only [State.tellSteward, State.alertCheck_regs, State.onSide_regs]
  exact State.each_keeps (·.regs) _ _ _ (fun _ _ => by simp)
@[simp] theorem State.tellSteward_staged (s : State) (p : Nat) : (s.tellSteward p).staged = s.staged := by
  simp only [State.tellSteward, State.alertCheck_staged, State.onSide_staged]
  exact State.each_keeps (·.staged) _ _ _ (fun _ _ => by simp)
@[simp] theorem State.tellSteward_shadow (s : State) (p : Nat) : (s.tellSteward p).shadow = s.shadow := by
  simp only [State.tellSteward, State.alertCheck_shadow, State.onSide_shadow]
  exact State.each_keeps (·.shadow) _ _ _ (fun _ _ => by simp)
@[simp] theorem State.tellSteward_wafer (s : State) (p : Nat) : (s.tellSteward p).wafer = s.wafer := by
  simp only [State.tellSteward, State.alertCheck_wafer, State.onSide_wafer]
  exact State.each_keeps (·.wafer) _ _ _ (fun _ _ => by simp)
@[simp] theorem State.tellSteward_mem (s : State) (p : Nat) : (s.tellSteward p).mem = s.mem := by
  simp only [State.tellSteward, State.alertCheck_mem, State.onSide_mem]
  exact State.each_keeps (·.mem) _ _ _ (fun _ _ => by simp)
@[simp] theorem State.tellSteward_cores (s : State) (p : Nat) : (s.tellSteward p).cores = s.cores := by
  simp only [State.tellSteward, State.alertCheck_cores, State.onSide_cores]
  exact State.each_keeps (·.cores) _ _ _ (fun _ _ => by simp)
@[simp] theorem State.tellSteward_sync (s : State) (p : Nat) : (s.tellSteward p).sync = s.sync := by
  simp only [State.tellSteward, State.alertCheck_sync, State.onSide_sync]
  exact State.each_keeps (·.sync) _ _ _ (fun _ _ => by simp)
@[simp] theorem State.tellSteward_ledger (s : State) (p : Nat) : (s.tellSteward p).ledger = s.ledger := by
  simp only [State.tellSteward, State.alertCheck_ledger, State.onSide_ledger]
  exact State.each_keeps (·.ledger) _ _ _ (fun _ _ => by simp)
@[simp] theorem State.tellSteward_replay (s : State) (p : Nat) : (s.tellSteward p).replay = s.replay := by
  simp only [State.tellSteward, State.alertCheck_replay, State.onSide_replay]
  exact State.each_keeps (·.replay) _ _ _ (fun _ _ => by simp)
@[simp] theorem State.tellSteward_tjl (s : State) (p : Nat) : (s.tellSteward p).tjl = s.tjl := by
  simp only [State.tellSteward, State.alertCheck_tjl, State.onSide_tjl]
  exact State.each_keeps (·.tjl) _ _ _ (fun _ _ => by simp)
@[simp] theorem State.tellSteward_logs (s : State) (p : Nat) : (s.tellSteward p).logs = s.logs := by
  simp only [State.tellSteward, State.alertCheck_logs, State.onSide_logs]
  exact State.each_keeps (·.logs) _ _ _ (fun _ _ => by simp)
@[simp] theorem State.tellSteward_guard (s : State) (p : Nat) : (s.tellSteward p).guard = s.guard := by
  simp only [State.tellSteward, State.alertCheck_guard, State.onSide_guard]
  exact State.each_keeps (·.guard) _ _ _ (fun _ _ => by simp)
@[simp] theorem State.tellSteward_parts (s : State) (p : Nat) : (s.tellSteward p).parts = s.parts := by
  simp only [State.tellSteward, State.alertCheck_parts, State.onSide_parts]
  exact State.each_keeps (·.parts) _ _ _ (fun _ _ => by simp)
@[simp] theorem State.tellSteward_dbg (s : State) (p : Nat) : (s.tellSteward p).dbg = s.dbg := by
  simp only [State.tellSteward, State.alertCheck_dbg, State.onSide_dbg]
  exact State.each_keeps (·.dbg) _ _ _ (fun _ _ => by simp)
@[simp] theorem State.tellSteward_sec (s : State) (p : Nat) : (s.tellSteward p).sec = s.sec := by
  simp only [State.tellSteward, State.alertCheck_sec, State.onSide_sec]
  exact State.each_keeps (·.sec) _ _ _ (fun _ _ => by simp)
@[simp] theorem State.tellSteward_boot (s : State) (p : Nat) : (s.tellSteward p).boot = s.boot := by
  simp only [State.tellSteward, State.alertCheck_boot, State.onSide_boot]
  exact State.each_keeps (·.boot) _ _ _ (fun _ _ => by simp)
@[simp] theorem State.tellSteward_repo (s : State) (p : Nat) : (s.tellSteward p).repo = s.repo := by
  simp only [State.tellSteward, State.alertCheck_repo, State.onSide_repo]
  exact State.each_keeps (·.repo) _ _ _ (fun _ _ => by simp)
@[simp] theorem State.tellSteward_rd (s : State) (p : Nat) (fld : Field) (idx : Nat) : (s.tellSteward p).rd fld idx = s.rd fld idx := by simp [State.rd]
@[simp] theorem State.tellDevice_pending (s : State)  : s.tellDevice.pending = s.pending := by
  simp only [State.tellDevice, State.alertCheck_pending, State.onSide_pending]
  exact State.each_keeps (·.pending) _ _ _ (fun _ _ => by simp)
@[simp] theorem State.tellDevice_fresh (s : State)  : s.tellDevice.fresh = s.fresh := by
  simp only [State.tellDevice, State.alertCheck_fresh, State.onSide_fresh]
  exact State.each_keeps (·.fresh) _ _ _ (fun _ _ => by simp)
@[simp] theorem State.tellDevice_now (s : State)  : s.tellDevice.now = s.now := by
  simp only [State.tellDevice, State.alertCheck_now, State.onSide_now]
  exact State.each_keeps (·.now) _ _ _ (fun _ _ => by simp)
@[simp] theorem State.tellDevice_regs (s : State)  : s.tellDevice.regs = s.regs := by
  simp only [State.tellDevice, State.alertCheck_regs, State.onSide_regs]
  exact State.each_keeps (·.regs) _ _ _ (fun _ _ => by simp)
@[simp] theorem State.tellDevice_staged (s : State)  : s.tellDevice.staged = s.staged := by
  simp only [State.tellDevice, State.alertCheck_staged, State.onSide_staged]
  exact State.each_keeps (·.staged) _ _ _ (fun _ _ => by simp)
@[simp] theorem State.tellDevice_shadow (s : State)  : s.tellDevice.shadow = s.shadow := by
  simp only [State.tellDevice, State.alertCheck_shadow, State.onSide_shadow]
  exact State.each_keeps (·.shadow) _ _ _ (fun _ _ => by simp)
@[simp] theorem State.tellDevice_wafer (s : State)  : s.tellDevice.wafer = s.wafer := by
  simp only [State.tellDevice, State.alertCheck_wafer, State.onSide_wafer]
  exact State.each_keeps (·.wafer) _ _ _ (fun _ _ => by simp)
@[simp] theorem State.tellDevice_mem (s : State)  : s.tellDevice.mem = s.mem := by
  simp only [State.tellDevice, State.alertCheck_mem, State.onSide_mem]
  exact State.each_keeps (·.mem) _ _ _ (fun _ _ => by simp)
@[simp] theorem State.tellDevice_cores (s : State)  : s.tellDevice.cores = s.cores := by
  simp only [State.tellDevice, State.alertCheck_cores, State.onSide_cores]
  exact State.each_keeps (·.cores) _ _ _ (fun _ _ => by simp)
@[simp] theorem State.tellDevice_sync (s : State)  : s.tellDevice.sync = s.sync := by
  simp only [State.tellDevice, State.alertCheck_sync, State.onSide_sync]
  exact State.each_keeps (·.sync) _ _ _ (fun _ _ => by simp)
@[simp] theorem State.tellDevice_ledger (s : State)  : s.tellDevice.ledger = s.ledger := by
  simp only [State.tellDevice, State.alertCheck_ledger, State.onSide_ledger]
  exact State.each_keeps (·.ledger) _ _ _ (fun _ _ => by simp)
@[simp] theorem State.tellDevice_replay (s : State)  : s.tellDevice.replay = s.replay := by
  simp only [State.tellDevice, State.alertCheck_replay, State.onSide_replay]
  exact State.each_keeps (·.replay) _ _ _ (fun _ _ => by simp)
@[simp] theorem State.tellDevice_tjl (s : State)  : s.tellDevice.tjl = s.tjl := by
  simp only [State.tellDevice, State.alertCheck_tjl, State.onSide_tjl]
  exact State.each_keeps (·.tjl) _ _ _ (fun _ _ => by simp)
@[simp] theorem State.tellDevice_logs (s : State)  : s.tellDevice.logs = s.logs := by
  simp only [State.tellDevice, State.alertCheck_logs, State.onSide_logs]
  exact State.each_keeps (·.logs) _ _ _ (fun _ _ => by simp)
@[simp] theorem State.tellDevice_guard (s : State)  : s.tellDevice.guard = s.guard := by
  simp only [State.tellDevice, State.alertCheck_guard, State.onSide_guard]
  exact State.each_keeps (·.guard) _ _ _ (fun _ _ => by simp)
@[simp] theorem State.tellDevice_parts (s : State)  : s.tellDevice.parts = s.parts := by
  simp only [State.tellDevice, State.alertCheck_parts, State.onSide_parts]
  exact State.each_keeps (·.parts) _ _ _ (fun _ _ => by simp)
@[simp] theorem State.tellDevice_dbg (s : State)  : s.tellDevice.dbg = s.dbg := by
  simp only [State.tellDevice, State.alertCheck_dbg, State.onSide_dbg]
  exact State.each_keeps (·.dbg) _ _ _ (fun _ _ => by simp)
@[simp] theorem State.tellDevice_sec (s : State)  : s.tellDevice.sec = s.sec := by
  simp only [State.tellDevice, State.alertCheck_sec, State.onSide_sec]
  exact State.each_keeps (·.sec) _ _ _ (fun _ _ => by simp)
@[simp] theorem State.tellDevice_boot (s : State)  : s.tellDevice.boot = s.boot := by
  simp only [State.tellDevice, State.alertCheck_boot, State.onSide_boot]
  exact State.each_keeps (·.boot) _ _ _ (fun _ _ => by simp)
@[simp] theorem State.tellDevice_repo (s : State)  : s.tellDevice.repo = s.repo := by
  simp only [State.tellDevice, State.alertCheck_repo, State.onSide_repo]
  exact State.each_keeps (·.repo) _ _ _ (fun _ _ => by simp)
@[simp] theorem State.tellDevice_rd (s : State)  (fld : Field) (idx : Nat) : s.tellDevice.rd fld idx = s.rd fld idx := by simp [State.rd]
@[simp] theorem State.event_pending (s : State) (f : Field) (i p : Nat) : (s.event f i p).pending = s.pending := by simp [State.event]
@[simp] theorem State.event_fresh (s : State) (f : Field) (i p : Nat) : (s.event f i p).fresh = s.fresh := by simp [State.event]
@[simp] theorem State.event_now (s : State) (f : Field) (i p : Nat) : (s.event f i p).now = s.now := by simp [State.event]
@[simp] theorem State.event_staged (s : State) (f : Field) (i p : Nat) : (s.event f i p).staged = s.staged := by simp [State.event]
@[simp] theorem State.event_shadow (s : State) (f : Field) (i p : Nat) : (s.event f i p).shadow = s.shadow := by simp [State.event]
@[simp] theorem State.event_wafer (s : State) (f : Field) (i p : Nat) : (s.event f i p).wafer = s.wafer := by simp [State.event]
@[simp] theorem State.event_mem (s : State) (f : Field) (i p : Nat) : (s.event f i p).mem = s.mem := by simp [State.event]
@[simp] theorem State.event_cores (s : State) (f : Field) (i p : Nat) : (s.event f i p).cores = s.cores := by simp [State.event]
@[simp] theorem State.event_sync (s : State) (f : Field) (i p : Nat) : (s.event f i p).sync = s.sync := by simp [State.event]
@[simp] theorem State.event_ledger (s : State) (f : Field) (i p : Nat) : (s.event f i p).ledger = s.ledger := by simp [State.event]
@[simp] theorem State.event_replay (s : State) (f : Field) (i p : Nat) : (s.event f i p).replay = s.replay := by simp [State.event]
@[simp] theorem State.event_tjl (s : State) (f : Field) (i p : Nat) : (s.event f i p).tjl = s.tjl := by simp [State.event]
@[simp] theorem State.event_logs (s : State) (f : Field) (i p : Nat) : (s.event f i p).logs = s.logs := by simp [State.event]
@[simp] theorem State.event_guard (s : State) (f : Field) (i p : Nat) : (s.event f i p).guard = s.guard := by simp [State.event]
@[simp] theorem State.event_parts (s : State) (f : Field) (i p : Nat) : (s.event f i p).parts = s.parts := by simp [State.event]
@[simp] theorem State.event_dbg (s : State) (f : Field) (i p : Nat) : (s.event f i p).dbg = s.dbg := by simp [State.event]
@[simp] theorem State.event_sec (s : State) (f : Field) (i p : Nat) : (s.event f i p).sec = s.sec := by simp [State.event]
@[simp] theorem State.event_boot (s : State) (f : Field) (i p : Nat) : (s.event f i p).boot = s.boot := by simp [State.event]
@[simp] theorem State.event_repo (s : State) (f : Field) (i p : Nat) : (s.event f i p).repo = s.repo := by simp [State.event]
@[simp] theorem State.event_regs (s : State) (f : Field) (i p : Nat) : (s.event f i p).regs = (s.wr f i 1).regs := by simp [State.event]
@[simp] theorem State.event_rd (s : State) (f : Field) (i p : Nat) (x : Field) (j : Nat) : (s.event f i p).rd x j = (s.wr f i 1).rd x j := by simp [State.event]
@[simp] theorem State.log_pending (s : State) (e : Err) : (s.log e).pending = s.pending := by
  have h : ∀ t : State, ∀ l : List Nat, (t.each l fun s x => s.vector3 x 0).pending = t.pending := fun t l => State.each_keeps (·.pending) _ _ _ (fun _ _ => by simp)
  have g : ∀ t : State, (t.each e.parts fun s p => s.each (s.stewPorts p) fun s x => (s.vector3 x (p + 1)).vector3 x 0).pending = t.pending := fun t =>
    State.each_keeps (·.pending) _ _ _ (fun _ _ => State.each_keeps (·.pending) _ _ _ (fun _ _ => by simp))
  have k : ∀ t : State, (t.each e.parts (·.tellSteward ·)).pending = t.pending := fun t => State.each_keeps (·.pending) _ _ _ (fun _ _ => by simp)
  unfold State.log; simp only; repeat' split
  all_goals simp [h, g, k]
@[simp] theorem State.log_fresh (s : State) (e : Err) : (s.log e).fresh = s.fresh := by
  have h : ∀ t : State, ∀ l : List Nat, (t.each l fun s x => s.vector3 x 0).fresh = t.fresh := fun t l => State.each_keeps (·.fresh) _ _ _ (fun _ _ => by simp)
  have g : ∀ t : State, (t.each e.parts fun s p => s.each (s.stewPorts p) fun s x => (s.vector3 x (p + 1)).vector3 x 0).fresh = t.fresh := fun t =>
    State.each_keeps (·.fresh) _ _ _ (fun _ _ => State.each_keeps (·.fresh) _ _ _ (fun _ _ => by simp))
  have k : ∀ t : State, (t.each e.parts (·.tellSteward ·)).fresh = t.fresh := fun t => State.each_keeps (·.fresh) _ _ _ (fun _ _ => by simp)
  unfold State.log; simp only; repeat' split
  all_goals simp [h, g, k]
@[simp] theorem State.log_now (s : State) (e : Err) : (s.log e).now = s.now := by
  have h : ∀ t : State, ∀ l : List Nat, (t.each l fun s x => s.vector3 x 0).now = t.now := fun t l => State.each_keeps (·.now) _ _ _ (fun _ _ => by simp)
  have g : ∀ t : State, (t.each e.parts fun s p => s.each (s.stewPorts p) fun s x => (s.vector3 x (p + 1)).vector3 x 0).now = t.now := fun t =>
    State.each_keeps (·.now) _ _ _ (fun _ _ => State.each_keeps (·.now) _ _ _ (fun _ _ => by simp))
  have k : ∀ t : State, (t.each e.parts (·.tellSteward ·)).now = t.now := fun t => State.each_keeps (·.now) _ _ _ (fun _ _ => by simp)
  unfold State.log; simp only; repeat' split
  all_goals simp [h, g, k]
@[simp] theorem State.log_regs (s : State) (e : Err) : (s.log e).regs = s.regs := by
  have h : ∀ t : State, ∀ l : List Nat, (t.each l fun s x => s.vector3 x 0).regs = t.regs := fun t l => State.each_keeps (·.regs) _ _ _ (fun _ _ => by simp)
  have g : ∀ t : State, (t.each e.parts fun s p => s.each (s.stewPorts p) fun s x => (s.vector3 x (p + 1)).vector3 x 0).regs = t.regs := fun t =>
    State.each_keeps (·.regs) _ _ _ (fun _ _ => State.each_keeps (·.regs) _ _ _ (fun _ _ => by simp))
  have k : ∀ t : State, (t.each e.parts (·.tellSteward ·)).regs = t.regs := fun t => State.each_keeps (·.regs) _ _ _ (fun _ _ => by simp)
  unfold State.log; simp only; repeat' split
  all_goals simp [h, g, k]
@[simp] theorem State.log_staged (s : State) (e : Err) : (s.log e).staged = s.staged := by
  have h : ∀ t : State, ∀ l : List Nat, (t.each l fun s x => s.vector3 x 0).staged = t.staged := fun t l => State.each_keeps (·.staged) _ _ _ (fun _ _ => by simp)
  have g : ∀ t : State, (t.each e.parts fun s p => s.each (s.stewPorts p) fun s x => (s.vector3 x (p + 1)).vector3 x 0).staged = t.staged := fun t =>
    State.each_keeps (·.staged) _ _ _ (fun _ _ => State.each_keeps (·.staged) _ _ _ (fun _ _ => by simp))
  have k : ∀ t : State, (t.each e.parts (·.tellSteward ·)).staged = t.staged := fun t => State.each_keeps (·.staged) _ _ _ (fun _ _ => by simp)
  unfold State.log; simp only; repeat' split
  all_goals simp [h, g, k]
@[simp] theorem State.log_shadow (s : State) (e : Err) : (s.log e).shadow = s.shadow := by
  have h : ∀ t : State, ∀ l : List Nat, (t.each l fun s x => s.vector3 x 0).shadow = t.shadow := fun t l => State.each_keeps (·.shadow) _ _ _ (fun _ _ => by simp)
  have g : ∀ t : State, (t.each e.parts fun s p => s.each (s.stewPorts p) fun s x => (s.vector3 x (p + 1)).vector3 x 0).shadow = t.shadow := fun t =>
    State.each_keeps (·.shadow) _ _ _ (fun _ _ => State.each_keeps (·.shadow) _ _ _ (fun _ _ => by simp))
  have k : ∀ t : State, (t.each e.parts (·.tellSteward ·)).shadow = t.shadow := fun t => State.each_keeps (·.shadow) _ _ _ (fun _ _ => by simp)
  unfold State.log; simp only; repeat' split
  all_goals simp [h, g, k]
@[simp] theorem State.log_wafer (s : State) (e : Err) : (s.log e).wafer = s.wafer := by
  have h : ∀ t : State, ∀ l : List Nat, (t.each l fun s x => s.vector3 x 0).wafer = t.wafer := fun t l => State.each_keeps (·.wafer) _ _ _ (fun _ _ => by simp)
  have g : ∀ t : State, (t.each e.parts fun s p => s.each (s.stewPorts p) fun s x => (s.vector3 x (p + 1)).vector3 x 0).wafer = t.wafer := fun t =>
    State.each_keeps (·.wafer) _ _ _ (fun _ _ => State.each_keeps (·.wafer) _ _ _ (fun _ _ => by simp))
  have k : ∀ t : State, (t.each e.parts (·.tellSteward ·)).wafer = t.wafer := fun t => State.each_keeps (·.wafer) _ _ _ (fun _ _ => by simp)
  unfold State.log; simp only; repeat' split
  all_goals simp [h, g, k]
@[simp] theorem State.log_mem (s : State) (e : Err) : (s.log e).mem = s.mem := by
  have h : ∀ t : State, ∀ l : List Nat, (t.each l fun s x => s.vector3 x 0).mem = t.mem := fun t l => State.each_keeps (·.mem) _ _ _ (fun _ _ => by simp)
  have g : ∀ t : State, (t.each e.parts fun s p => s.each (s.stewPorts p) fun s x => (s.vector3 x (p + 1)).vector3 x 0).mem = t.mem := fun t =>
    State.each_keeps (·.mem) _ _ _ (fun _ _ => State.each_keeps (·.mem) _ _ _ (fun _ _ => by simp))
  have k : ∀ t : State, (t.each e.parts (·.tellSteward ·)).mem = t.mem := fun t => State.each_keeps (·.mem) _ _ _ (fun _ _ => by simp)
  unfold State.log; simp only; repeat' split
  all_goals simp [h, g, k]
@[simp] theorem State.log_cores (s : State) (e : Err) : (s.log e).cores = s.cores := by
  have h : ∀ t : State, ∀ l : List Nat, (t.each l fun s x => s.vector3 x 0).cores = t.cores := fun t l => State.each_keeps (·.cores) _ _ _ (fun _ _ => by simp)
  have g : ∀ t : State, (t.each e.parts fun s p => s.each (s.stewPorts p) fun s x => (s.vector3 x (p + 1)).vector3 x 0).cores = t.cores := fun t =>
    State.each_keeps (·.cores) _ _ _ (fun _ _ => State.each_keeps (·.cores) _ _ _ (fun _ _ => by simp))
  have k : ∀ t : State, (t.each e.parts (·.tellSteward ·)).cores = t.cores := fun t => State.each_keeps (·.cores) _ _ _ (fun _ _ => by simp)
  unfold State.log; simp only; repeat' split
  all_goals simp [h, g, k]
@[simp] theorem State.log_sync (s : State) (e : Err) : (s.log e).sync = s.sync := by
  have h : ∀ t : State, ∀ l : List Nat, (t.each l fun s x => s.vector3 x 0).sync = t.sync := fun t l => State.each_keeps (·.sync) _ _ _ (fun _ _ => by simp)
  have g : ∀ t : State, (t.each e.parts fun s p => s.each (s.stewPorts p) fun s x => (s.vector3 x (p + 1)).vector3 x 0).sync = t.sync := fun t =>
    State.each_keeps (·.sync) _ _ _ (fun _ _ => State.each_keeps (·.sync) _ _ _ (fun _ _ => by simp))
  have k : ∀ t : State, (t.each e.parts (·.tellSteward ·)).sync = t.sync := fun t => State.each_keeps (·.sync) _ _ _ (fun _ _ => by simp)
  unfold State.log; simp only; repeat' split
  all_goals simp [h, g, k]
@[simp] theorem State.log_ledger (s : State) (e : Err) : (s.log e).ledger = s.ledger := by
  have h : ∀ t : State, ∀ l : List Nat, (t.each l fun s x => s.vector3 x 0).ledger = t.ledger := fun t l => State.each_keeps (·.ledger) _ _ _ (fun _ _ => by simp)
  have g : ∀ t : State, (t.each e.parts fun s p => s.each (s.stewPorts p) fun s x => (s.vector3 x (p + 1)).vector3 x 0).ledger = t.ledger := fun t =>
    State.each_keeps (·.ledger) _ _ _ (fun _ _ => State.each_keeps (·.ledger) _ _ _ (fun _ _ => by simp))
  have k : ∀ t : State, (t.each e.parts (·.tellSteward ·)).ledger = t.ledger := fun t => State.each_keeps (·.ledger) _ _ _ (fun _ _ => by simp)
  unfold State.log; simp only; repeat' split
  all_goals simp [h, g, k]
@[simp] theorem State.log_replay (s : State) (e : Err) : (s.log e).replay = s.replay := by
  have h : ∀ t : State, ∀ l : List Nat, (t.each l fun s x => s.vector3 x 0).replay = t.replay := fun t l => State.each_keeps (·.replay) _ _ _ (fun _ _ => by simp)
  have g : ∀ t : State, (t.each e.parts fun s p => s.each (s.stewPorts p) fun s x => (s.vector3 x (p + 1)).vector3 x 0).replay = t.replay := fun t =>
    State.each_keeps (·.replay) _ _ _ (fun _ _ => State.each_keeps (·.replay) _ _ _ (fun _ _ => by simp))
  have k : ∀ t : State, (t.each e.parts (·.tellSteward ·)).replay = t.replay := fun t => State.each_keeps (·.replay) _ _ _ (fun _ _ => by simp)
  unfold State.log; simp only; repeat' split
  all_goals simp [h, g, k]
@[simp] theorem State.log_tjl (s : State) (e : Err) : (s.log e).tjl = s.tjl := by
  have h : ∀ t : State, ∀ l : List Nat, (t.each l fun s x => s.vector3 x 0).tjl = t.tjl := fun t l => State.each_keeps (·.tjl) _ _ _ (fun _ _ => by simp)
  have g : ∀ t : State, (t.each e.parts fun s p => s.each (s.stewPorts p) fun s x => (s.vector3 x (p + 1)).vector3 x 0).tjl = t.tjl := fun t =>
    State.each_keeps (·.tjl) _ _ _ (fun _ _ => State.each_keeps (·.tjl) _ _ _ (fun _ _ => by simp))
  have k : ∀ t : State, (t.each e.parts (·.tellSteward ·)).tjl = t.tjl := fun t => State.each_keeps (·.tjl) _ _ _ (fun _ _ => by simp)
  unfold State.log; simp only; repeat' split
  all_goals simp [h, g, k]
@[simp] theorem State.log_guard (s : State) (e : Err) : (s.log e).guard = s.guard := by
  have h : ∀ t : State, ∀ l : List Nat, (t.each l fun s x => s.vector3 x 0).guard = t.guard := fun t l => State.each_keeps (·.guard) _ _ _ (fun _ _ => by simp)
  have g : ∀ t : State, (t.each e.parts fun s p => s.each (s.stewPorts p) fun s x => (s.vector3 x (p + 1)).vector3 x 0).guard = t.guard := fun t =>
    State.each_keeps (·.guard) _ _ _ (fun _ _ => State.each_keeps (·.guard) _ _ _ (fun _ _ => by simp))
  have k : ∀ t : State, (t.each e.parts (·.tellSteward ·)).guard = t.guard := fun t => State.each_keeps (·.guard) _ _ _ (fun _ _ => by simp)
  unfold State.log; simp only; repeat' split
  all_goals simp [h, g, k]
@[simp] theorem State.log_parts (s : State) (e : Err) : (s.log e).parts = s.parts := by
  have h : ∀ t : State, ∀ l : List Nat, (t.each l fun s x => s.vector3 x 0).parts = t.parts := fun t l => State.each_keeps (·.parts) _ _ _ (fun _ _ => by simp)
  have g : ∀ t : State, (t.each e.parts fun s p => s.each (s.stewPorts p) fun s x => (s.vector3 x (p + 1)).vector3 x 0).parts = t.parts := fun t =>
    State.each_keeps (·.parts) _ _ _ (fun _ _ => State.each_keeps (·.parts) _ _ _ (fun _ _ => by simp))
  have k : ∀ t : State, (t.each e.parts (·.tellSteward ·)).parts = t.parts := fun t => State.each_keeps (·.parts) _ _ _ (fun _ _ => by simp)
  unfold State.log; simp only; repeat' split
  all_goals simp [h, g, k]
@[simp] theorem State.log_dbg (s : State) (e : Err) : (s.log e).dbg = s.dbg := by
  have h : ∀ t : State, ∀ l : List Nat, (t.each l fun s x => s.vector3 x 0).dbg = t.dbg := fun t l => State.each_keeps (·.dbg) _ _ _ (fun _ _ => by simp)
  have g : ∀ t : State, (t.each e.parts fun s p => s.each (s.stewPorts p) fun s x => (s.vector3 x (p + 1)).vector3 x 0).dbg = t.dbg := fun t =>
    State.each_keeps (·.dbg) _ _ _ (fun _ _ => State.each_keeps (·.dbg) _ _ _ (fun _ _ => by simp))
  have k : ∀ t : State, (t.each e.parts (·.tellSteward ·)).dbg = t.dbg := fun t => State.each_keeps (·.dbg) _ _ _ (fun _ _ => by simp)
  unfold State.log; simp only; repeat' split
  all_goals simp [h, g, k]
@[simp] theorem State.log_sec (s : State) (e : Err) : (s.log e).sec = s.sec := by
  have h : ∀ t : State, ∀ l : List Nat, (t.each l fun s x => s.vector3 x 0).sec = t.sec := fun t l => State.each_keeps (·.sec) _ _ _ (fun _ _ => by simp)
  have g : ∀ t : State, (t.each e.parts fun s p => s.each (s.stewPorts p) fun s x => (s.vector3 x (p + 1)).vector3 x 0).sec = t.sec := fun t =>
    State.each_keeps (·.sec) _ _ _ (fun _ _ => State.each_keeps (·.sec) _ _ _ (fun _ _ => by simp))
  have k : ∀ t : State, (t.each e.parts (·.tellSteward ·)).sec = t.sec := fun t => State.each_keeps (·.sec) _ _ _ (fun _ _ => by simp)
  unfold State.log; simp only; repeat' split
  all_goals simp [h, g, k]
@[simp] theorem State.log_boot (s : State) (e : Err) : (s.log e).boot = s.boot := by
  have h : ∀ t : State, ∀ l : List Nat, (t.each l fun s x => s.vector3 x 0).boot = t.boot := fun t l => State.each_keeps (·.boot) _ _ _ (fun _ _ => by simp)
  have g : ∀ t : State, (t.each e.parts fun s p => s.each (s.stewPorts p) fun s x => (s.vector3 x (p + 1)).vector3 x 0).boot = t.boot := fun t =>
    State.each_keeps (·.boot) _ _ _ (fun _ _ => State.each_keeps (·.boot) _ _ _ (fun _ _ => by simp))
  have k : ∀ t : State, (t.each e.parts (·.tellSteward ·)).boot = t.boot := fun t => State.each_keeps (·.boot) _ _ _ (fun _ _ => by simp)
  unfold State.log; simp only; repeat' split
  all_goals simp [h, g, k]
@[simp] theorem State.log_repo (s : State) (e : Err) : (s.log e).repo = s.repo := by
  have h : ∀ t : State, ∀ l : List Nat, (t.each l fun s x => s.vector3 x 0).repo = t.repo := fun t l => State.each_keeps (·.repo) _ _ _ (fun _ _ => by simp)
  have g : ∀ t : State, (t.each e.parts fun s p => s.each (s.stewPorts p) fun s x => (s.vector3 x (p + 1)).vector3 x 0).repo = t.repo := fun t =>
    State.each_keeps (·.repo) _ _ _ (fun _ _ => State.each_keeps (·.repo) _ _ _ (fun _ _ => by simp))
  have k : ∀ t : State, (t.each e.parts (·.tellSteward ·)).repo = t.repo := fun t => State.each_keeps (·.repo) _ _ _ (fun _ _ => by simp)
  unfold State.log; simp only; repeat' split
  all_goals simp [h, g, k]
@[simp] theorem State.log_rd (s : State) (e : Err) (fld : Field) (idx : Nat) : (s.log e).rd fld idx = s.rd fld idx := by simp [State.rd]
@[simp] theorem State.logAccess_pending (s : State) (code : Nat) (parts : List Nat) (off : Nat) : (s.logAccess code parts off).pending = s.pending := by simp [State.logAccess]
@[simp] theorem State.logAccess_fresh (s : State) (code : Nat) (parts : List Nat) (off : Nat) : (s.logAccess code parts off).fresh = s.fresh := by simp [State.logAccess]
@[simp] theorem State.logAccess_now (s : State) (code : Nat) (parts : List Nat) (off : Nat) : (s.logAccess code parts off).now = s.now := by simp [State.logAccess]
@[simp] theorem State.logAccess_regs (s : State) (code : Nat) (parts : List Nat) (off : Nat) : (s.logAccess code parts off).regs = s.regs := by simp [State.logAccess]
@[simp] theorem State.logAccess_staged (s : State) (code : Nat) (parts : List Nat) (off : Nat) : (s.logAccess code parts off).staged = s.staged := by simp [State.logAccess]
@[simp] theorem State.logAccess_shadow (s : State) (code : Nat) (parts : List Nat) (off : Nat) : (s.logAccess code parts off).shadow = s.shadow := by simp [State.logAccess]
@[simp] theorem State.logAccess_wafer (s : State) (code : Nat) (parts : List Nat) (off : Nat) : (s.logAccess code parts off).wafer = s.wafer := by simp [State.logAccess]
@[simp] theorem State.logAccess_mem (s : State) (code : Nat) (parts : List Nat) (off : Nat) : (s.logAccess code parts off).mem = s.mem := by simp [State.logAccess]
@[simp] theorem State.logAccess_cores (s : State) (code : Nat) (parts : List Nat) (off : Nat) : (s.logAccess code parts off).cores = s.cores := by simp [State.logAccess]
@[simp] theorem State.logAccess_sync (s : State) (code : Nat) (parts : List Nat) (off : Nat) : (s.logAccess code parts off).sync = s.sync := by simp [State.logAccess]
@[simp] theorem State.logAccess_ledger (s : State) (code : Nat) (parts : List Nat) (off : Nat) : (s.logAccess code parts off).ledger = s.ledger := by simp [State.logAccess]
@[simp] theorem State.logAccess_replay (s : State) (code : Nat) (parts : List Nat) (off : Nat) : (s.logAccess code parts off).replay = s.replay := by simp [State.logAccess]
@[simp] theorem State.logAccess_tjl (s : State) (code : Nat) (parts : List Nat) (off : Nat) : (s.logAccess code parts off).tjl = s.tjl := by simp [State.logAccess]
@[simp] theorem State.logAccess_guard (s : State) (code : Nat) (parts : List Nat) (off : Nat) : (s.logAccess code parts off).guard = s.guard := by simp [State.logAccess]
@[simp] theorem State.logAccess_parts (s : State) (code : Nat) (parts : List Nat) (off : Nat) : (s.logAccess code parts off).parts = s.parts := by simp [State.logAccess]
@[simp] theorem State.logAccess_dbg (s : State) (code : Nat) (parts : List Nat) (off : Nat) : (s.logAccess code parts off).dbg = s.dbg := by simp [State.logAccess]
@[simp] theorem State.logAccess_sec (s : State) (code : Nat) (parts : List Nat) (off : Nat) : (s.logAccess code parts off).sec = s.sec := by simp [State.logAccess]
@[simp] theorem State.logAccess_boot (s : State) (code : Nat) (parts : List Nat) (off : Nat) : (s.logAccess code parts off).boot = s.boot := by simp [State.logAccess]
@[simp] theorem State.logAccess_repo (s : State) (code : Nat) (parts : List Nat) (off : Nat) : (s.logAccess code parts off).repo = s.repo := by simp [State.logAccess]
@[simp] theorem State.logAccess_rd (s : State) (code : Nat) (parts : List Nat) (off : Nat) (fld : Field) (idx : Nat) : (s.logAccess code parts off).rd fld idx = s.rd fld idx := by simp [State.rd]
@[simp] theorem State.status_pending (s : State) (k v : Nat) : (s.status k v).pending = s.pending := by unfold State.status; split <;> rfl
@[simp] theorem State.status_out (s : State) (k v : Nat) : (s.status k v).out = s.out := by unfold State.status; split <;> rfl
@[simp] theorem State.status_fresh (s : State) (k v : Nat) : (s.status k v).fresh = s.fresh := by unfold State.status; split <;> rfl
@[simp] theorem State.status_now (s : State) (k v : Nat) : (s.status k v).now = s.now := by unfold State.status; split <;> rfl
@[simp] theorem State.status_regs (s : State) (k v : Nat) : (s.status k v).regs = s.regs := by unfold State.status; split <;> rfl
@[simp] theorem State.status_staged (s : State) (k v : Nat) : (s.status k v).staged = s.staged := by unfold State.status; split <;> rfl
@[simp] theorem State.status_shadow (s : State) (k v : Nat) : (s.status k v).shadow = s.shadow := by unfold State.status; split <;> rfl
@[simp] theorem State.status_wafer (s : State) (k v : Nat) : (s.status k v).wafer = s.wafer := by unfold State.status; split <;> rfl
@[simp] theorem State.status_mem (s : State) (k v : Nat) : (s.status k v).mem = s.mem := by unfold State.status; split <;> rfl
@[simp] theorem State.status_threads (s : State) (k v : Nat) : (s.status k v).cores.threads = s.cores.threads := by unfold State.status; split <;> rfl
@[simp] theorem State.status_vregs (s : State) (k v : Nat) : (s.status k v).cores.vregs = s.cores.vregs := by unfold State.status; split <;> rfl
@[simp] theorem State.status_accs (s : State) (k v : Nat) : (s.status k v).cores.accs = s.cores.accs := by unfold State.status; split <;> rfl
@[simp] theorem State.status_engines (s : State) (k v : Nat) : (s.status k v).cores.engines = s.cores.engines := by unfold State.status; split <;> rfl
@[simp] theorem State.status_sync (s : State) (k v : Nat) : (s.status k v).sync = s.sync := by unfold State.status; split <;> rfl
@[simp] theorem State.status_ledger (s : State) (k v : Nat) : (s.status k v).ledger = s.ledger := by unfold State.status; split <;> rfl
@[simp] theorem State.status_replay (s : State) (k v : Nat) : (s.status k v).replay = s.replay := by unfold State.status; split <;> rfl
@[simp] theorem State.status_tjl (s : State) (k v : Nat) : (s.status k v).tjl = s.tjl := by unfold State.status; split <;> rfl
@[simp] theorem State.status_hosts (s : State) (k v : Nat) : (s.status k v).hosts = s.hosts := by unfold State.status; split <;> rfl
@[simp] theorem State.status_logs (s : State) (k v : Nat) : (s.status k v).logs = s.logs := by unfold State.status; split <;> rfl
@[simp] theorem State.status_guard (s : State) (k v : Nat) : (s.status k v).guard = s.guard := by unfold State.status; split <;> rfl
@[simp] theorem State.status_parts (s : State) (k v : Nat) : (s.status k v).parts = s.parts := by unfold State.status; split <;> rfl
@[simp] theorem State.status_dbg (s : State) (k v : Nat) : (s.status k v).dbg = s.dbg := by unfold State.status; split <;> rfl
@[simp] theorem State.status_sec (s : State) (k v : Nat) : (s.status k v).sec = s.sec := by unfold State.status; split <;> rfl
@[simp] theorem State.status_boot (s : State) (k v : Nat) : (s.status k v).boot = s.boot := by unfold State.status; split <;> rfl
@[simp] theorem State.status_repo (s : State) (k v : Nat) : (s.status k v).repo = s.repo := by unfold State.status; split <;> rfl
@[simp] theorem State.status_side (s : State) (k v : Nat) : (s.status k v).side = s.side := by unfold State.status; split <;> rfl
@[simp] theorem State.status_rd (s : State) (k v : Nat) (fld : Field) (idx : Nat) : (s.status k v).rd fld idx = s.rd fld idx := by simp [State.rd]

/-! ### What is read after a write -/

@[simp] theorem State.thread_setThread_same (s : State) (k : Nat) (t : Thread) : (s.setThread k t).thread k = t := by
  simp [State.thread, State.setThread]
theorem State.thread_setThread_ne (s : State) (k j : Nat) (t : Thread) (h : j ≠ k) : (s.setThread k t).thread j = s.thread j := by
  simp [State.thread, State.setThread, Store.get_set_ne _ _ _ _ _ h]
@[simp] theorem State.sreg_setSreg_same (s : State) (k r : Nat) (v : Word) : (s.setSreg k r v).sreg k r = v := by
  simp [State.sreg, State.setSreg]
theorem State.sreg_setSreg_ne (s : State) (k r j q : Nat) (v : Word) (h : j * 32 + q ≠ k * 32 + r) : (s.setSreg k r v).sreg j q = s.sreg j q := by
  simp [State.sreg, State.setSreg, Store.get_set_ne _ _ _ _ _ h]
@[simp] theorem State.vreg_setVreg_same (s : State) (k r : Nat) (v : Vec) : (s.setVreg k r v).vreg k r = v := by
  simp [State.vreg, State.setVreg]
@[simp] theorem State.word_setWord_same (s : State) (k : Nat) (w : MWord) : (s.setWord k w).word k = w := by
  simp [State.word, State.setWord]
theorem State.word_setWord_ne (s : State) (k j : Nat) (w : MWord) (h : j ≠ k) : (s.setWord k w).word j = s.word j := by
  simp [State.word, State.setWord, Store.get_set_ne _ _ _ _ _ h]
@[simp] theorem State.hdr_setHdr_same (s : State) (k v : Nat) : (s.setHdr k v).hdr k = v % 2 ^ 512 := by
  simp [State.hdr, State.setHdr]
theorem State.hdr_setHdr_ne (s : State) (k j v : Nat) (h : j ≠ k) : (s.setHdr k v).hdr j = s.hdr j := by
  simp [State.hdr, State.setHdr, Store.get_set_ne _ _ _ _ _ h]
@[simp] theorem State.page_setPage_same (s : State) (k : Nat) (g : Page) : (s.setPage k g).page k = g := by
  simp [State.page, State.setPage]
theorem State.page_setPage_ne (s : State) (k j : Nat) (g : Page) (h : j ≠ k) : (s.setPage k g).page j = s.page j := by
  simp [State.page, State.setPage, Store.get_set_ne _ _ _ _ _ h]
@[simp] theorem State.dir_setDir_same (s : State) (p l : Nat) (d : DirEnt) : (s.setDir p l d).dir p l = d := by
  simp [State.dir, State.setDir]
@[simp] theorem State.entry_setEntry_same (s : State) (f n : Nat) (e : Entry) : (s.setEntry f n e).entry f n = e := by
  simp [State.entry, State.setEntry]
@[simp] theorem State.slot_setSlot_same (s : State) (f n : Nat) (v : Slot) : (s.setSlot f n v).slot f n = v := by
  simp [State.slot, State.setSlot]
@[simp] theorem State.engine_setEngine_same (s : State) (k : Nat) (e : Engine) : (s.setEngine k e).engine k = e := by
  simp [State.engine, State.setEngine]
@[simp] theorem State.obj_setObj_same (s : State) (k : Nat) (o : SyncObj) : (s.setObj k o).obj k = o := by
  simp [State.obj, State.setObj]
@[simp] theorem State.owed_setOwed_same (s : State) (k : Nat) (l : List (Option Nat)) : (s.setOwed k l).owed k = l := by
  simp [State.owed, State.setOwed]
@[simp] theorem State.part_setPart_same (s : State) (p : Nat) (v : PartSt) : (s.setPart p v).part p = v := by
  simp [State.part, State.setPart]
@[simp] theorem State.vol_setVol_same (s : State) (p v : Nat) (x : Vol) : (s.setVol p v x).vol p v = x := by
  simp [State.vol, State.setVol, State.onRepo]

/-! ### The canonical form of the memory -/

theorem State.setWord_wf (s : State) (k : Nat) (w : MWord) (h : Memory.wf s.mem = true) : Memory.wf (s.setWord k w).mem = true := by
  simp only [Memory.wf, Bool.and_eq_true] at h ⊢
  exact ⟨⟨⟨Store.wf_set _ _ _ _ h.1.1.1, h.1.1.2⟩, h.1.2⟩, h.2⟩
theorem State.setHdr_wf (s : State) (k v : Nat) (h : Memory.wf s.mem = true) : Memory.wf (s.setHdr k v).mem = true := by
  simp only [Memory.wf, Bool.and_eq_true] at h ⊢
  exact ⟨⟨⟨h.1.1.1, Store.wf_set _ _ _ _ h.1.1.2⟩, h.1.2⟩, h.2⟩
theorem State.setPage_wf (s : State) (k : Nat) (g : Page) (h : Memory.wf s.mem = true) : Memory.wf (s.setPage k g).mem = true := by
  simp only [Memory.wf, Bool.and_eq_true] at h ⊢
  exact ⟨⟨⟨h.1.1.1, h.1.1.2⟩, Store.wf_set _ _ _ _ h.1.2⟩, h.2⟩
theorem State.setDir_wf (s : State) (p l : Nat) (d : DirEnt) (h : Memory.wf s.mem = true) : Memory.wf (s.setDir p l d).mem = true := by
  simp only [Memory.wf, Bool.and_eq_true] at h ⊢
  exact ⟨⟨⟨h.1.1.1, h.1.1.2⟩, h.1.2⟩, Store.wf_set _ _ _ _ h.2⟩
/-- The memory after reset is in canonical form. -/
theorem State.reset_wf : Memory.wf State.reset.mem = true := by decide

/-! ### Frames -/

theorem SameBut.refl (l : List Comp) (s : State) : SameBut l s s := fun q _ => by cases q <;> rfl
theorem SameBut.trans {l : List Comp} {s t u : State} (h : SameBut l s t) (k : SameBut l t u) : SameBut l s u := fun q hq => by
  have a := h q hq
  have b := k q hq
  cases q <;> exact Eq.trans b a
theorem RegsBut.refl (l : List (Field × Nat)) (s : State) : RegsBut l s s := fun _ _ _ => rfl
theorem RegsBut.trans {l : List (Field × Nat)} {s t u : State} (h : RegsBut l s t) (k : RegsBut l t u) : RegsBut l s u :=
  fun f i w => (k f i w).trans (h f i w)
theorem RegsBut.wr {l : List (Field × Nat)} (s : State) (f : Field) (i v : Nat) (h : (f, i) ∈ l) : RegsBut l s (s.wr f i v) :=
  fun g j w => by simp only [State.rd, State.wr]; exact Store.get_keyed _ _ _ _ _ _ (w (f, i) h)

end Sys2Proof.Machine
end

