-- ==== Sys2Proof/Laws/Time.lean ====
section
/-! SUPPORT. What the passing of time leaves alone: a tick touches the counters, the trace, the tasks' busy counts and the mark of a wrap. -/

namespace Sys2Proof.Machine

variable {β : Type}

/-- What no pin, register and trace record belongs to is as before once a record has been traced. -/
theorem State.trace_keeps (π : State → β) (hd : ∀ (s : State) d, π { s with dbg := d } = π s) (hw : ∀ s f i v, π (State.wr s f i v) = π s)
    (ho : ∀ s n v, π (State.sbpOut s n v) = π s) (hs : ∀ s g, π (State.onSide s g) = π s) (s : State) (k p f m u : Nat) (l : List Nat) :
    π (s.trace k p f m u l) = π s := by
  have hp : ∀ t n, π (State.pulse t n) = π t := fun t n => by
    unfold State.pulse; simp only; split
    · exact hw ..
    · split <;> simp [hw, ho, hs]
  have ht : ∀ t, π (State.stopTrace t) = π t := fun t => by
    unfold State.stopTrace State.trigOut; split
    · rw [State.each_keeps π _ _ _ fun t a => hp t a, hw]
    · rfl
  unfold State.trace
  split
  · simp only; split <;> simp only [ht, hw, hd]
  · rfl

theorem State.charge_keeps (π : State → β) (ht : ∀ s a b c n, π (State.tally s a b c n) = π s)
    (hr : ∀ s k p f m u l, π (State.trace s k p f m u l) = π s) (hd : ∀ (s : State) d, π { s with dbg := d } = π s) (s : State) (n c : Nat) :
    π (s.charge n c) = π s := by
  unfold State.charge
  split
  · rfl
  · generalize h : (if s.quiet c then s.tally 0 c 0x0B n else s) = s1
    have e : π s1 = π s := by subst h; split <;> simp [ht]
    simp only
    split
    · split <;> simp [ht, hr, hd, e]
    · split <;> simp [ht, e]

theorem State.chargeTasks_keeps (π : State → β) (hw : ∀ s f i v, π (State.wr s f i v) = π s) (hg : ∀ s g, π (State.onGuard s g) = π s)
    (s : State) (n p : Nat) : π (s.chargeTasks n p) = π s := by
  unfold State.chargeTasks
  split
  · rfl
  · apply State.each_keeps
    intro t a
    split <;> simp [hw, hg]

/-- What no counter, trace, busy count or wrap mark belongs to is as before once a tick has been reached. -/
theorem State.reach_keeps (π : State → β) (ht : ∀ s a b c n, π (State.tally s a b c n) = π s)
    (hr : ∀ s k p f m u l, π (State.trace s k p f m u l) = π s) (hd : ∀ (s : State) d, π { s with dbg := d } = π s)
    (hw : ∀ s f i v, π (State.wr s f i v) = π s) (hg : ∀ s g, π (State.onGuard s g) = π s) (hn : ∀ (s : State) t, π { s with now := t } = π s)
    (s : State) (t : Nat) : π (s.reach t) = π s := by
  unfold State.reach
  split
  · simp only
    have e : ∀ n, π ((s.each s.mapped fun s c => s.charge n c).each [0, 1, 2, 3] fun s p => s.chargeTasks n p) = π s := fun n => by
      rw [State.each_keeps π _ _ _ fun t a => State.chargeTasks_keeps π hw hg t n a,
        State.each_keeps π _ _ _ fun t a => State.charge_keeps π ht hr hd t n a]
    split
    · rw [hw, hn]; exact e _
    · rw [hn]; exact e _
  · rfl

@[simp] theorem State.reach_pending (s : State) (t : Nat) : (s.reach t).pending = s.pending :=
  State.reach_keeps (·.pending) (fun _ _ _ _ _ => rfl) (State.trace_keeps _ (fun _ _ => rfl) (fun _ _ _ _ => rfl) (by intros; simp) (fun _ _ => rfl)) (fun _ _ => rfl) (fun _ _ _ _ => rfl) (fun _ _ => rfl) (fun _ _ => rfl) s t
@[simp] theorem State.reach_fresh (s : State) (t : Nat) : (s.reach t).fresh = s.fresh :=
  State.reach_keeps (·.fresh) (fun _ _ _ _ _ => rfl) (State.trace_keeps _ (fun _ _ => rfl) (fun _ _ _ _ => rfl) (by intros; simp) (fun _ _ => rfl)) (fun _ _ => rfl) (fun _ _ _ _ => rfl) (fun _ _ => rfl) (fun _ _ => rfl) s t
@[simp] theorem State.reach_wafer (s : State) (t : Nat) : (s.reach t).wafer = s.wafer :=
  State.reach_keeps (·.wafer) (fun _ _ _ _ _ => rfl) (State.trace_keeps _ (fun _ _ => rfl) (fun _ _ _ _ => rfl) (by intros; simp) (fun _ _ => rfl)) (fun _ _ => rfl) (fun _ _ _ _ => rfl) (fun _ _ => rfl) (fun _ _ => rfl) s t
@[simp] theorem State.reach_mem (s : State) (t : Nat) : (s.reach t).mem = s.mem :=
  State.reach_keeps (·.mem) (fun _ _ _ _ _ => rfl) (State.trace_keeps _ (fun _ _ => rfl) (fun _ _ _ _ => rfl) (by intros; simp) (fun _ _ => rfl)) (fun _ _ => rfl) (fun _ _ _ _ => rfl) (fun _ _ => rfl) (fun _ _ => rfl) s t
@[simp] theorem State.reach_cores (s : State) (t : Nat) : (s.reach t).cores = s.cores :=
  State.reach_keeps (·.cores) (fun _ _ _ _ _ => rfl) (State.trace_keeps _ (fun _ _ => rfl) (fun _ _ _ _ => rfl) (by intros; simp) (fun _ _ => rfl)) (fun _ _ => rfl) (fun _ _ _ _ => rfl) (fun _ _ => rfl) (fun _ _ => rfl) s t
@[simp] theorem State.reach_sync (s : State) (t : Nat) : (s.reach t).sync = s.sync :=
  State.reach_keeps (·.sync) (fun _ _ _ _ _ => rfl) (State.trace_keeps _ (fun _ _ => rfl) (fun _ _ _ _ => rfl) (by intros; simp) (fun _ _ => rfl)) (fun _ _ => rfl) (fun _ _ _ _ => rfl) (fun _ _ => rfl) (fun _ _ => rfl) s t
@[simp] theorem State.reach_ledger (s : State) (t : Nat) : (s.reach t).ledger = s.ledger :=
  State.reach_keeps (·.ledger) (fun _ _ _ _ _ => rfl) (State.trace_keeps _ (fun _ _ => rfl) (fun _ _ _ _ => rfl) (by intros; simp) (fun _ _ => rfl)) (fun _ _ => rfl) (fun _ _ _ _ => rfl) (fun _ _ => rfl) (fun _ _ => rfl) s t
@[simp] theorem State.reach_replay (s : State) (t : Nat) : (s.reach t).replay = s.replay :=
  State.reach_keeps (·.replay) (fun _ _ _ _ _ => rfl) (State.trace_keeps _ (fun _ _ => rfl) (fun _ _ _ _ => rfl) (by intros; simp) (fun _ _ => rfl)) (fun _ _ => rfl) (fun _ _ _ _ => rfl) (fun _ _ => rfl) (fun _ _ => rfl) s t
@[simp] theorem State.reach_tjl (s : State) (t : Nat) : (s.reach t).tjl = s.tjl :=
  State.reach_keeps (·.tjl) (fun _ _ _ _ _ => rfl) (State.trace_keeps _ (fun _ _ => rfl) (fun _ _ _ _ => rfl) (by intros; simp) (fun _ _ => rfl)) (fun _ _ => rfl) (fun _ _ _ _ => rfl) (fun _ _ => rfl) (fun _ _ => rfl) s t
@[simp] theorem State.reach_hosts (s : State) (t : Nat) : (s.reach t).hosts = s.hosts :=
  State.reach_keeps (·.hosts) (fun _ _ _ _ _ => rfl) (State.trace_keeps _ (fun _ _ => rfl) (fun _ _ _ _ => rfl) (by intros; simp) (fun _ _ => rfl)) (fun _ _ => rfl) (fun _ _ _ _ => rfl) (fun _ _ => rfl) (fun _ _ => rfl) s t
@[simp] theorem State.reach_logs (s : State) (t : Nat) : (s.reach t).logs = s.logs :=
  State.reach_keeps (·.logs) (fun _ _ _ _ _ => rfl) (State.trace_keeps _ (fun _ _ => rfl) (fun _ _ _ _ => rfl) (by intros; simp) (fun _ _ => rfl)) (fun _ _ => rfl) (fun _ _ _ _ => rfl) (fun _ _ => rfl) (fun _ _ => rfl) s t
@[simp] theorem State.reach_parts (s : State) (t : Nat) : (s.reach t).parts = s.parts :=
  State.reach_keeps (·.parts) (fun _ _ _ _ _ => rfl) (State.trace_keeps _ (fun _ _ => rfl) (fun _ _ _ _ => rfl) (by intros; simp) (fun _ _ => rfl)) (fun _ _ => rfl) (fun _ _ _ _ => rfl) (fun _ _ => rfl) (fun _ _ => rfl) s t
@[simp] theorem State.reach_sec (s : State) (t : Nat) : (s.reach t).sec = s.sec :=
  State.reach_keeps (·.sec) (fun _ _ _ _ _ => rfl) (State.trace_keeps _ (fun _ _ => rfl) (fun _ _ _ _ => rfl) (by intros; simp) (fun _ _ => rfl)) (fun _ _ => rfl) (fun _ _ _ _ => rfl) (fun _ _ => rfl) (fun _ _ => rfl) s t
@[simp] theorem State.reach_boot (s : State) (t : Nat) : (s.reach t).boot = s.boot :=
  State.reach_keeps (·.boot) (fun _ _ _ _ _ => rfl) (State.trace_keeps _ (fun _ _ => rfl) (fun _ _ _ _ => rfl) (by intros; simp) (fun _ _ => rfl)) (fun _ _ => rfl) (fun _ _ _ _ => rfl) (fun _ _ => rfl) (fun _ _ => rfl) s t
@[simp] theorem State.reach_repo (s : State) (t : Nat) : (s.reach t).repo = s.repo :=
  State.reach_keeps (·.repo) (fun _ _ _ _ _ => rfl) (State.trace_keeps _ (fun _ _ => rfl) (fun _ _ _ _ => rfl) (by intros; simp) (fun _ _ => rfl)) (fun _ _ => rfl) (fun _ _ _ _ => rfl) (fun _ _ => rfl) (fun _ _ => rfl) s t
@[simp] theorem State.reach_staged (s : State) (t : Nat) : (s.reach t).staged = s.staged :=
  State.reach_keeps (·.staged) (fun _ _ _ _ _ => rfl) (State.trace_keeps _ (fun _ _ => rfl) (fun _ _ _ _ => rfl) (by intros; simp) (fun _ _ => rfl)) (fun _ _ => rfl) (fun _ _ _ _ => rfl) (fun _ _ => rfl) (fun _ _ => rfl) s t
@[simp] theorem State.reach_shadow (s : State) (t : Nat) : (s.reach t).shadow = s.shadow :=
  State.reach_keeps (·.shadow) (fun _ _ _ _ _ => rfl) (State.trace_keeps _ (fun _ _ => rfl) (fun _ _ _ _ => rfl) (by intros; simp) (fun _ _ => rfl)) (fun _ _ => rfl) (fun _ _ _ _ => rfl) (fun _ _ => rfl) (fun _ _ => rfl) s t

/-- The count stands at the tick reached, or where it stood if that tick is past or the timebase stands still. -/
theorem State.reach_now (s : State) (t : Nat) : (s.reach t).now = s.after t := by
  unfold State.reach State.after
  split
  · simp only; split <;> rfl
  · rfl

/-- A step on a queue that is not empty is `exec` of its front. -/
theorem step_cons (s : State) (c : Instr) (r : List Instr) (h : s.pending = c :: r) : step s = exec c { s with pending := r } := by
  simp [step, h]

end Sys2Proof.Machine
end

