-- ==== Sys2Proof/Tests/Slice0.lean ====
section
/-! SUPPORT. The author's tests: states and operands that meet the hypotheses of each statement, one or two small steps, and an ill-formed
term for each check of WellFormed. -/

section

open Sys2Proof Sys2Proof.Machine

set_option Elab.async false

namespace Tests

/-- Register fields set: field, copy, value. -/
def put (l : List (Field × Nat × Nat)) (s : State) : State := l.foldl (fun s x => s.wr x.1 x.2.1 x.2.2) s

def fplan : FieldPlan := ⟨4, [4, 4], 64, 4, 16, 4, 1000, 100, 2000, 100⟩
def plan : Plan := ⟨100, 2, 8, [0, 0], 10, 10, 10, 10, 10, [(0, fplan), (8, fplan)], [], []⟩
def pdir : PageDir := ⟨4, [⟨0, 8, 2, 0, false, false, 0, 1, none, 0, 7, 0, false, []⟩, ⟨100, 16, 2, 4, false, false, 0, 1, none, 0, 7, 0, false, []⟩]⟩
def prog : Program := ⟨[⟨0, 5, true, 3⟩, ⟨1, 7, false, 0⟩], none, [], [], [], [], []⟩
def sec : Section :=
  { mode := 0, auto := true, steward := 1, target := 0, stgBase := 100, stgPages := 16, placements := [(0, ⟨0, 0, 0, none, 0, 0⟩)], plans := [(0, plan)], programs := [(0, prog)], coremaps := [(0, [⟨0, 0, 0⟩, ⟨0, 1, 0⟩])],
    pagedirs := [(0, pdir)], sync := ⟨[], [⟨3, 0, 1, 1, 1, false⟩], [], []⟩, fence := [⟨0, 1, [⟨0, 0, 0, 0⟩]⟩], links := ⟨[], [], [], []⟩, spans := [], regions := [], replayKey := 0, checker := none, guard := none, regset := [] }

/-- P0 with column 0, RUNNING; HPA UP and its host the steward; thread T0 of core 0 of F00 READY at word 5. -/
def w0 : State :=
  put [(PAR_LAYOUT.COL_P0, 0, 1), (PAR_STATE.STATE, 0, 3), (HPT_PORT.STATE, 0, 2), (SYS_BOOT_STAT.PHASE, 0, 12)]
    { State.reset with
      now := 1000
      wafer := { State.reset.wafer with running := true, cmap := [(0, 1), (1, 2)] }
      parts := { State.reset.parts with sect := [(0, some sec)] }
      hosts := { State.reset.hosts with sems := [(0, ⟨1, 1, 5, false⟩)] }
      cores := { State.reset.cores with threads := [(0, ⟨.ready, 5, .idle, 0⟩)] } }

def t0 : Thr := ⟨0, 0, 0⟩
def hA : Req := .host 0 0

def stp (n : Nat) (s : State) : State := put [(PAR_STATE.STATE,0,n)] s
def pr (f : PartSt → PartSt) (s : State) : State := s.updPart 0 f
def park (l : List Park) (s : State) : State := { s with sync := { s.sync with parks := l } }
def thr (k : Nat) (t : Thread) (s : State) : State := { s with cores := { s.cores with threads := Store.set thread0 s.cores.threads k t } }
def dbg (s : State) : State := put [(SEC_DBG_STAT.UNLOCKED,0,1),(SEC_DBG_STAT.CAPS,0,31),(SEC_DBG_STAT.SCOPE,0,31)] s
def eng (e : Engine) (s : State) : State := { s with cores := { s.cores with engines := Store.set engine0 s.cores.engines 1 e } }
def pages (l : List (Nat × Page)) (d : List (Nat × DirEnt)) (s : State) : State := { s with mem := { s.mem with pages := l, dir := d } }
def secd (c : Section) (s : State) : State := { s with parts := { s.parts with sect := [(0, some c)] } }
def obj (k n : Nat) (s : State) : State := { s with sync := { s.sync with objs := [(k, { obj0 with count := n, live := true })] } }
def owe (k : Nat) (s : State) : State := { s with cores := { s.cores with owed := [(k, [none])] } }
def secOk : Section :=
  { mode := 0, auto := true, steward := 1, target := 0, stgBase := 0, stgPages := 0, placements := [(0, ⟨0, 0, 0, none, 0, 0⟩)], plans := [(0, ⟨0, 0, 0, [], 1, 1, 1, 1, 1, [], [], []⟩)], programs := [], coremaps := [(0, [])], pagedirs := [(0, ⟨0, []⟩)],
    sync := ⟨[], [], [], []⟩, fence := [], links := ⟨[], [], [], []⟩, spans := [], regions := [], replayKey := 0, checker := none, guard := none, regset := [] }
end Tests

namespace Tests.Threads

def x1 : BitVec 64 := (0x80000-1024)
def wm : State := (w0.setWord (localWord 0 0 0xFFFF) ⟨0x8122334455667788, true, false⟩).setWord (localWord 0 0 0x10) ⟨0xF122334455667788, true, true⟩
def wst : State := ((wm.setSreg 0 4 0xA1B2C3D4E5F60718).setVreg 0 2 0x123456789ABCDEF0FEDCBA9876543210)
def st4 : State := (put [(CORE_FLT.VALID,0,1)] wst)
def st5 : State := (put [(SYS_BOOT_STAT.DONE,0,1),(PAR_EVT.T2_LOW,2,1)] w0)
def st6 : State := (put [(GRD_TEST_WAIT.MAX_TK,2,77)] w0)
def st7 : State := (put [(SYS_TB_STAT.FOLLOW,0,1)] {w0 with wafer := {w0.wafer with pps := some 900}})
def meas : List FieldMeas := List.replicate 64 ⟨990, 60, 5⟩
def st9 : State := {w0 with wafer := {w0.wafer with crc := [(574,[900])], swap := [(57,5)]}}

/-- `Obligations.ComputeWritesOneRegister`: its hypotheses are met. -/
theorem test_witness_ComputeWritesOneRegister :
    (Issuable w0 t0) := by
  decide +kernel

/-- `Obligations.ControlMovesProgramCounter`: its hypotheses are met. -/
theorem test_witness_ControlMovesProgramCounter :
    (Issuable w0 t0 ∧ BitVec.toNat (w0.sreg (thrOf t0) 2) ≤ 8191) := by
  and_intros <;> decide +kernel

/-- `Obligations.MatrixOnClaimedBank`: its hypotheses are met. -/
theorem test_witness_MatrixOnClaimedBank :
    (Issuable w0 t0 ∧ bit (w0.banksOf t0) 1 = true ∧ (x1.toNat % 8 = 0) ∧ (x1.toNat + 1024 ≤ 524288) ∧
     w0.scrOk (thrOf t0) x1.toNat 1024 = true ∧ (∀ (i : Nat), i < 128 → (w0.lword t0 (x1.toNat / 8 + i)).poison = false)) := by
  and_intros <;> decide +kernel

/-- `Obligations.LoadsReadLocalMemory`: its hypotheses are met. -/
theorem test_witness_LoadsReadLocalMemory :
    (Issuable wm t0 ∧ (524287 % 2 ^ 0 = 0) ∧ (524287 + 2 ^ 0 ≤ 524288) ∧ (wm.scrOk (thrOf t0) 524287 (2 ^ 0) = true) ∧
     ((wm.lword t0 (524287 / 8)).poison = false)) ∧
    (Issuable wm t0 ∧ (524224 % 8 = 0) ∧ (524224 + 64 ≤ 524288) ∧ wm.scrOk (thrOf t0) 524224 64 = true ∧
     (∀ (i : Nat), i < 8 → (wm.lword t0 (524224 / 8 + i)).poison = false)) := by
  and_intros <;> decide +kernel

/-- `Obligations.StoresWriteLocalMemory`: its hypotheses are met. -/
theorem test_witness_StoresWriteLocalMemory :
    (Issuable wst t0 ∧ (524287 % 2 ^ 0 = 0) ∧ (524287 + 2 ^ 0 ≤ 524288) ∧ (wst.scrOk (thrOf t0) 524287 (2 ^ 0) = true) ∧
     ((wst.lword t0 (524287 / 8)).poison = false ∨ (0 : Fin 4) = (3 : Fin 4))) ∧
    (Issuable wst t0 ∧ (128 % 8 = 0) ∧ (128 + 64 ≤ 524288) ∧ wst.scrOk (thrOf t0) 128 64 = true) := by
  and_intros <;> decide +kernel

/-- `Obligations.ThreadFaultsAreRecorded`: its hypotheses are met. -/
theorem test_witness_ThreadFaultsAreRecorded :
    (Issuable wst t0 ∧ wst.partRun (thrOf t0) = none ∧ (((wst.program ↑t0.f ↑t0.m).bind fun x => x.handler) = none) ∧
     (524286 % 2 ^ 2 ≠ 0 ∨ 524288 < 524286 + 2 ^ 2)) ∧
    (Issuable st4 t0 ∧ st4.partRun (thrOf t0) = none ∧ (((st4.program ↑t0.f ↑t0.m).bind fun x => x.handler) = none) ∧ (128 % 2 ^ 2 = 0) ∧
     (128 + 2 ^ 2 ≤ 524288) ∧ ((st4.lword t0 (128 / 8)).poison = true) ∧ ((2 : Fin 4) ≠ (3 : Fin 4))) := by
  and_intros <;> decide +kernel

/-- `Obligations.RegisterWriteFollowsAccessCode`: its hypotheses are met. -/
theorem test_witness_RegisterWriteFollowsAccessCode :
    (w0.reqOn hA = true ∧ reqPart hA = none ∧ w0.rd SEC_STAT.EVAL 0 = 0 ∧ (4000 < 2 ^ 32) ∧ (4000 ≤ 4000 % 65536) ∧
     (4000 % 65536 ≤ 18500) ∧ w0.rd SYS_BOOT_STAT.DONE 0 = 0 ∧ (1 ≤ 4000 % 256) ∧ (4000 % 256 ≤ 168)) ∧
    (w0.reqOn hA = true ∧ reqPart hA = none ∧ w0.rd SEC_STAT.EVAL 0 = 0 ∧ (18501 < 2 ^ 32) ∧
     (18501 % 65536 < 4000 ∨ 18500 < 18501 % 65536)) ∧
    (st5.reqOn hA = true ∧ reqPart hA = none ∧ st5.rd SEC_STAT.EVAL 0 = 0 ∧ (3 < 2 ^ 32) ∧ st5.rd SYS_BOOT_STAT.DONE 0 = 1 ∧
     (3 % 256 ≠ st5.rd TIER_SCRUB.HOURS 0) ∧ st5.rd TIER_SCRUB.HOURS 0 < 256) := by
  and_intros <;> decide +kernel

/-- `Obligations.AccessesAreSplitOrRefused`: its hypotheses are met. -/
theorem test_witness_AccessesAreSplitOrRefused :
    (w0.fnOn 0 0 = true ∧ (¬(516 % 4 = 0 ∧ 3 = 4)) ∧ (¬(516 % 8 = 0 ∧ 3 = 8)) ∧ (0 < 2 ^ 32)) ∧
    ((518 % 4 ≠ 0)) ∧
    ((512 % 8 = 0)) := by
  and_intros <;> decide +kernel

/-- `Obligations.ReadsAnswerAndClear`: its hypotheses are met. -/
theorem test_witness_ReadsAnswerAndClear :
    ((st6.reqOn (Req.host 0 (0 : Fin 5)) = true)) := by
  decide +kernel

/-- `Obligations.TimebaseEventsSetTheirFlags`: its hypotheses are met. -/
theorem test_witness_TimebaseEventsSetTheirFlags :
    (w0.devWriter hA = true ∧ ((BitVec.toInt (100000 : BitVec 32)).natAbs ≤ 100000) ∧ w0.rd SYS_TB_STAT.FOLLOW 0 = 0 ∧
     (∀ (t : Nat), t ∈ w0.wafer.pps → t + 900000000 ≤ w0.now) ∧ w0.wafer.running = true ∧ w0.rd SYS_TB_STAT.HOLDOVER 0 = 0 ∧
     (noRepeat (List.map (fun x => x.fst) [((3 : Fin 92), (5 : Int))]) = true)) ∧
    (st7.devWriter hA = true ∧ ((BitVec.toInt (100000 : BitVec 32)).natAbs ≤ 100000) ∧ st7.rd SYS_TB_STAT.FOLLOW 0 = 1 ∧
     st7.wafer.pps = some 900 ∧ (st7.now < 900 + 900000000) ∧ st7.wafer.running = true) := by
  and_intros <;> decide +kernel

/-- `Obligations.GovernorPeriodRecordsMeasurements`: its hypotheses are met. -/
theorem test_witness_GovernorPeriodRecordsMeasurements :
    (6 ≤ w0.rd SYS_BOOT_STAT.PHASE 0 ∧ meas.length = 64 ∧ (65535 < 2 ^ 16)) := by
  and_intros <;> decide +kernel

/-- `Obligations.LinkGroupsSwapInSpares`: its hypotheses are met. -/
theorem test_witness_LinkGroupsSwapInSpares :
    (bit (w0.rd SYS_XING.USED 57) 4 = true ∧
     ((List.filter (fun t => decide (w0.now < t + 1000000)) (Store.get [] w0.wafer.crc (57 * 10 + 4))).length < 2) ∧
     (w0.rd SYS_XING.USED 57 < 2 ^ 10) ∧ (w0.rd SYS_XING.FAILED 57 < 2 ^ 10) ∧ bit (w0.rd SYS_XING.FAILED 57) 4 = false ∧
     w0.rd SYS_XING.LOST 57 ≠ 1 ∧ bit (w0.rd SYS_XING.USED 57) 8 = false ∧ bit (w0.rd SYS_XING.FAILED 57) 8 = false ∧
     (∀ (j : Fin 10), j < (8 : Fin 10) → bit (w0.rd SYS_XING.USED 57) ↑j = true ∨ bit (w0.rd SYS_XING.FAILED 57) ↑j = true) ∧
     ((8 : Fin 10) ≠ (4 : Fin 10))) ∧
    (bit (st9.rd SYS_XING.USED 57) 4 = true ∧ Store.get 0 st9.wafer.swap 57 ≠ 0 ∧ (∀ (p : Nat), st9.frames p = [])) := by
  and_intros <;> first | decide +kernel | (exact fun _ => rfl)

end Tests.Threads

namespace Tests.Partitions

def st1 : State := (stp stAdmitted w0)
def st2 : State := (stp stSuspended w0)
def st3 : State := (stp stOff w0)
def st6 : State := { w0 with hosts := { w0.hosts with last := [(parSrc 0, 6)] } }
def st8 : State := (pr (fun r => {r with save := 1, began := 500}) w0)
def st9 : State := (pr (fun r => {r with save := 2, began := 500, cmd := 1}) w0)
def st10 : State := (stp stSuspended (pr (fun r => {r with save := 3, began := 500, cmd := 1, frozen := true}) w0))
def st11 : State := (pr (fun r => {r with halting := true, began := 500}) w0)
def st12 : State := (pr (fun r => {r with next := 2, keep := false}) w0)
def wp1 (s : State) : State := put [(HPT_PORT.STATE,1,2)] s
def st13 : State := (wp1 w0)
def x14 : Req := (.host 1 0)
def wl : State := stp stLoading (pr (fun r => {r with loaded := true}) w0)
def wlx : State := { wl with parts := { wl.parts with sect := [(0, some { sec with auto := false, plans := [(0, {plan with t3 := 0})] })] } }
def x15 : Section := { sec with auto := false, plans := [(0, {plan with t3 := 0})] }
def x16 : Plan := {plan with t3 := 0}
def wly : State := { wl with parts := { wl.parts with sect := [(0, some { sec with plans := [(0, {plan with fields := plan.fields ++ [(1,fplan)]})] })] } }
def x18 : Section := { sec with plans := [(0, {plan with fields := plan.fields ++ [(1,fplan)]})] }
def wsh : State := { w0 with cores := { w0.cores with engines := [(0, { engine0 with halt := some ⟨0x20, 100, 100⟩ })] } }
def x20 : Halt := ⟨0x20, 100, 100⟩
def wsh3 : State := { w0 with cores := { w0.cores with engines := [(0, { engine0 with halt := some ⟨0x23, 100, 100⟩ })] } }
def x21 : Halt := ⟨0x23, 100, 100⟩
def st22 : State := (pr (fun r => {r with save := 1, began := 500}) (thr 0 thread0 w0))

/-- `Obligations.PartitionCommandsAnswer`: its hypotheses are met. -/
theorem test_witness_PartitionCommandsAnswer :
    (Ordered st1 hA 0 0 0 (parSrc 0) 5 ∧ st1.pst 0 = stAdmitted ∧ st1.rd PAR_STATE.BUSY 0 = 0 ∧ (st1.part 0).next = 0 ∧
     st1.startBarred 0 = false ∧ stAdmitted ≤ st1.pst 0 ∧ st1.pst 0 ≤ stSafe ∧ (st1.part 0).next ≠ 2 ∧ st1.pst 0 ≠ stRunning ∧
     st1.pst 0 ≠ stSuspended) ∧
    (Ordered w0 hA 0 0 0 (parSrc 0) 5 ∧ w0.pst 0 = stRunning ∧ w0.guarded 0 = false ∧ (w0.part 0).halting = false ∧ (w0.part 0).next = 0 ∧
     (w0.part 0).save = 0 ∧ w0.pst 0 ≠ stAdmitted) ∧
    (Ordered st2 hA 0 0 0 (parSrc 0) 5 ∧ st2.pst 0 = stSuspended ∧ (st2.part 0).next = 0 ∧ (st2.part 0).save = 0 ∧
     (st2.part 0).recover = false) ∧
    (Ordered st3 hA 0 0 0 (parSrc 0) 5 ∧ st3.pst 0 < stAdmitted ∧ st3.pst 0 = stOff) ∧
    ((st6.hostOn hA 0 = some (0, 0)) ∧ st6.isSteward 0 0 = true ∧ st6.dupSeq (parSrc 0) 5 = true ∧ st6.rd PAR_CMD_STAT.SEQ 0 ≠ 5) ∧
    ((st13.hostOn x14 0 = some (1, 0)) ∧ st13.isSteward 0 1 = false) := by
  and_intros <;> decide +kernel

/-- `Obligations.SaveRestoreAndAbortProgress`: its hypotheses are met. -/
theorem test_witness_SaveRestoreAndAbortProgress :
    (st8.pst 0 = stRunning ∧ (st8.part 0).save = 1) ∧
    (st9.pst 0 = stRunning ∧ (st9.part 0).save = 2 ∧ st9.landed 0 = true) ∧
    (st10.pst 0 = stSuspended ∧ (st10.part 0).save = 3 ∧ st10.calm) ∧
    ((st11.part 0).halting = true) ∧
    ((st12.part 0).next = 2 ∧ (st12.part 0).keep = false) ∧
    (st22.pst 0 = stRunning ∧ (st22.part 0).save = 1 ∧ st22.drained 0 = true) := by
  and_intros <;> decide +kernel

/-- `Obligations.AdmissionAndExhaustion`: its hypotheses are met. -/
theorem test_witness_AdmissionAndExhaustion :
    (wlx.sect 0 = some x15 ∧ wlx.pst 0 = stLoading ∧ (wlx.part 0).loaded = true ∧ wlx.turn 0 = true ∧
     (∀ (d : Nat), d ∈ wlx.flashDies 0 → Store.get false wlx.boot.flash d = true) ∧ (wlx.part 0).recovering = false ∧
     x15.columns = wlx.columnsOf 0 ∧ wlx.edgesOk 0 = true ∧ x15.mode ≠ 2 ∧ x15.regset = [] ∧ x15.auto = false ∧ (wlx.part 0).after = 0 ∧
     (wlx.pick 0 x15 = Sum.inl (0, 0, x16))) ∧
    (wly.sect 0 = some x18 ∧ wly.pst 0 = stLoading ∧ (wly.part 0).loaded = true ∧ wly.turn 0 = true ∧
     (∀ (d : Nat), d ∈ wly.flashDies 0 → Store.get false wly.boot.flash d = true) ∧ (wly.part 0).recovering = false ∧
     x18.columns ≠ wly.columnsOf 0) ∧
    (wsh.pst 0 = stRunning ∧ wsh.shortEngines 0 0 32 = [x20]) ∧
    (wsh3.pst 0 = stRunning ∧ wsh3.shortEngines 0 0 35 = [x21]) := by
  and_intros <;> decide +kernel

end Tests.Partitions

namespace Tests.Cores

def st1 : State := (w0.setVreg 0 3 0x10002000300040005000600070008)
def x2 : ThreadDecl := ⟨1, 7, false, 0⟩
def ins (f : Bool) : SyncIns := ⟨1, f, 3, 4, 5, 0, 0⟩
def fe (full : Bool) : State := (((w0.setSreg 0 4 (0xFFFF*8)).setSreg 0 5 77).setWord (localWord 0 0 0xFFFF) ⟨0x8122334455667788, full, false⟩)
def st3 : State := (fe true)
def x4 : SyncIns := (ins false)
def st5 : State := (fe true)
def x6 : SyncIns := (ins true)
def st7 : State := (fe false)
def x8 : SyncIns := (ins true)
def st9 : State := (park [⟨.thread 1, .word (localWord 0 0 0xFFFF), true, 0, 2, 50, 0⟩] (thr 1 ⟨.parked, 9, .idle, 0⟩ (fe false)))
def x10 : SyncIns := (ins true)
def st11 : State := (dbg w0)
def d0 : Nat := 1 + 1*2^16 + 0x4000*2^32 + 0x8000*2^96
def batch (l : List Nat) (a : Nat) (s : State) : State := (l.zipIdx.flatMap fun x => [(x.2*4, x.1), (x.2*4+1,x.1/2^64), (x.2*4+2,x.1/2^128),(x.2*4+3,x.1/2^192)]).foldl (fun s y => s.setWord (localWord 0 0 (a/8+y.1)) ⟨BitVec.ofNat 64 y.2, true, false⟩) s
def wk (sl : Nat) : Work := ⟨sl, 0, descOfBits d0, 0, 0, false, false, false, 0⟩
def st13 : State := (batch [0, d0, d0] 0x400 w0)
def st14 : State := (eng ⟨[wk 0, wk 1], [], 255, some ⟨0x20,1,2⟩, 0, [], .none⟩ (batch [0, d0, d0] 0x400 w0))
def st15 : State := (eng ⟨[wk 0, wk 1, wk 2, wk 3], [], 254, none, 0, [], .none⟩ (batch [0, d0, d0] 0x400 w0))
def fl (st : FlightSt) : Flight := ⟨0, 0, 0, st, true, none, none, 5, 12345, [(0,5),(7,9)]⟩
def st16 : State := (eng ⟨[wk 0], [], 0, none, 0, [], .none⟩ w0)
def x17 : Work := (wk 0)
def st19 : State := (eng ⟨[wk 0], [fl .issued], 0, none, 0, [], .none⟩ w0)
def x20 : Work := (wk 0)
def x21 : Flight := (fl .issued)
def st22 : State := (eng ⟨[wk 0], [fl .out], 0, none, 0, [], .none⟩ w0)
def x23 : Work := (wk 0)
def x24 : Flight := (fl .out)
def wkp : Work := ⟨0, 0, descOfBits (1 + 4*2^16 + (2^62 + 2 + 1*2^40)*2^32 + 0x8000*2^96), 1, 0, false, false, false, 0⟩
def pgs : State := { eng ⟨[wkp], [], 0, none, 0, [], .none⟩ w0 with mem := { w0.mem with pages := [(pageKey 2 0 33, ⟨.sealed, 2, 0, 2, 0, .none, 1, 15, 0, false, false⟩)], dir := [(dirKey 0 2, ⟨some (pageKey 2 0 33), none, none, none, 0⟩)] } }
def x26 : Nat := (pageKey 2 0 33)
def wf2 : State := let s := park [⟨.thread 0, .fence 0 0 0, false, 0, 0, 5, 0⟩] (thr 0 ⟨.parked,5,.idle,0⟩ w0); { s with sync := { s.sync with lanes := [(laneKey 0 0 0, ⟨[0], true, [7]⟩)] } }
def x28 : Group := ⟨0, 1, [⟨0, 0, 0, 0⟩]⟩

/-- `Obligations.HeadersAndThreadStart`: its hypotheses are met. -/
theorem test_witness_HeadersAndThreadStart :
    (Issuable st1 t0 ∧ st1.partRun (thrOf t0) = none ∧ st1.program ↑t0.f ↑t0.m = some prog ∧
     (List.find? (fun x => decide (x.t = 1)) prog.threads = some x2) ∧ prog.spans.contains 1 = false ∧
     ((st1.thread (thrKey ↑t0.f ↑t0.m 1)).st = ThrSt.idle ∨ (st1.thread (thrKey ↑t0.f ↑t0.m 1)).st = ThrSt.done)) := by
  and_intros <;> decide +kernel

/-- `Obligations.FullEmptyInstructions`: its hypotheses are met. -/
theorem test_witness_FullEmptyInstructions :
    (Issuable st3 t0 ∧ (x4.rsv = (0 : BitVec 22)) ∧ (BitVec.toNat (st3.sreg (thrOf t0) ↑x4.sa) = 65535 * 8) ∧ 65535 < 65536 ∧
     (st3.scrOk (thrOf t0) (65535 * 8) 8 = true) ∧ (st3.lword t0 65535).poison = false ∧
     (∀ (pk : Park), pk ∈ st3.sync.parks → pk.tgt ≠ Target.word (localWord ↑t0.f ↑t0.m 65535)) ∧ (st3.lword t0 65535).full = true ∧
     x4.f = false) ∧
    (Issuable st5 t0 ∧ (x6.rsv = (0 : BitVec 22)) ∧ (BitVec.toNat (st5.sreg (thrOf t0) ↑x6.sa) = 65535 * 8) ∧ 65535 < 65536 ∧
     (st5.scrOk (thrOf t0) (65535 * 8) 8 = true) ∧ (st5.lword t0 65535).poison = false ∧
     (∀ (pk : Park), pk ∈ st5.sync.parks → pk.tgt ≠ Target.word (localWord ↑t0.f ↑t0.m 65535)) ∧
     ((st5.lword t0 65535).full = false ∨ x6.f = true)) ∧
    (Issuable st7 t0 ∧ (x8.rsv = (0 : BitVec 22)) ∧ (BitVec.toNat (st7.sreg (thrOf t0) ↑x8.sa) = 65535 * 8) ∧ 65535 < 65536 ∧
     (st7.scrOk (thrOf t0) (65535 * 8) 8 = true) ∧ (st7.lword t0 65535).poison = false ∧
     (∀ (pk : Park), pk ∈ st7.sync.parks → pk.tgt ≠ Target.word (localWord ↑t0.f ↑t0.m 65535)) ∧ (st7.lword t0 65535).full = false) ∧
    (Issuable st9 t0 ∧ (x10.rsv = (0 : BitVec 22)) ∧ (BitVec.toNat (st9.sreg (thrOf t0) ↑x10.sa) = 65535 * 8) ∧ 65535 < 65536 ∧
     (st9.scrOk (thrOf t0) (65535 * 8) 8 = true) ∧ (st9.lword t0 65535).poison = false ∧
     (st9.sync.parks = [{ who := Who.thread 1, tgt := Target.word (localWord ↑t0.f ↑t0.m 65535), take := true, n := 0, tag := 2, since := 50, sd := 0 : Park }]) ∧
     (st9.thread 1).st = ThrSt.parked ∧ 1 ≠ thrOf t0 ∧ 0 < 32 ∧ (st9.lword t0 65535).full = false) := by
  and_intros <;> decide +kernel

/-- `Obligations.CoreMemoryWindowWrites`: its hypotheses are met. -/
theorem test_witness_CoreMemoryWindowWrites :
    (st11.memWrites hA (coreKey 0 0) = true ∧
     (BitVec.getLsbD (1 : BitVec 32) 0 = false ∨ ∀ (pk : Park), pk ∈ st11.sync.parks → pk.tgt ≠ Target.word (st11.memSel hA (coreKey 0 0)))) := by
  and_intros <;> decide +kernel

/-- `Obligations.StreamInstructions`: its hypotheses are met. -/
theorem test_witness_StreamInstructions :
    (Issuable st13 t0 ∧ st13.sync.parks = [] ∧ (1024 % 256 = 0) ∧ (1024 + 256 ≤ 524288) ∧
     freeBatch (st13.engine (ownEng (thrOf t0) 1)) = some 0 ∧ (∀ (i : Nat), i < 32 → (st13.lword t0 (1024 / 8 + i)).poison = false) ∧
     st13.partRun (thrOf t0) = none ∧
     (∀ (x : Nat × Nat), x ∈ List.filter (fun x => decide (bits x.fst 3 0 ≠ 0)) (st13.batch t0 1024).zipIdx → st13.descOk (st13.thrSource (thrOf t0)).part (↑t0.f) (↑t0.m) x.fst = true) ∧
     (st13.engine (ownEng (thrOf t0) 1)).kicks < 255 ∧ (st13.engine (ownEng (thrOf t0) 1)).halt = none) ∧
    (Issuable st14 t0 ∧ st14.sync.parks = [] ∧ 255 ≤ (st14.engine (ownEng (thrOf t0) 1)).kicks ∧
     (st14.engine (ownEng (thrOf t0) 1)).halt ≠ none) ∧
    (Issuable st15 t0 ∧ st15.sync.parks = [] ∧ (1024 % 256 = 0) ∧ (1024 + 256 ≤ 524288) ∧
     freeBatch (st15.engine (ownEng (thrOf t0) 1)) = none) := by
  and_intros <;> decide +kernel

/-- `Obligations.TilesMoveThroughAnEngine`: its hypotheses are met. -/
theorem test_witness_TilesMoveThroughAnEngine :
    (st16.sync.parks = [] ∧ x17.d.takeSrc = 0 ∧ x17.d.takeDst = 0 ∧ x17.d.sigSrc = 0 ∧ x17.d.sigDst = 0 ∧ x17.d.gate = false ∧
     aSpace x17.d.dst = 0 ∧ (st16.engReady (engOf (Eng.core 0 0 (1 : Fin 4))) = true) ∧
     (inFlight (st16.engine (engOf (Eng.core 0 0 (1 : Fin 4)))) < 4) ∧
     (∀ (y : Flight), y ∈ (st16.engine (engOf (Eng.core 0 0 (1 : Fin 4)))).flight → y.st ≠ FlightSt.failed) ∧
     (nextWork (st16.engine (engOf (Eng.core 0 0 (1 : Fin 4)))) = some x17) ∧ aSpace x17.d.src = 0) ∧
    (st19.sync.parks = [] ∧ x20.d.takeSrc = 0 ∧ x20.d.takeDst = 0 ∧ x20.d.sigSrc = 0 ∧ x20.d.sigDst = 0 ∧ x20.d.gate = false ∧
     aSpace x20.d.dst = 0 ∧ aSpace x20.d.src = 0 ∧ st19.heldCore (coreKey 0 0) = false ∧
     ((st19.engine (engOf (Eng.core 0 0 (1 : Fin 4)))).work = [x20]) ∧ ((st19.engine (engOf (Eng.core 0 0 (1 : Fin 4)))).flight = [x21]) ∧
     x21.slot = x20.slot ∧ x21.idx = x20.idx ∧ x21.st = FlightSt.issued ∧
     (st19.readCheck (localTile 0 0 (aByte x20.d.src / 16384 + x21.tile % (x20.d.sbufs + 1))) false = 0)) ∧
    (st22.sync.parks = [] ∧ x23.d.takeSrc = 0 ∧ x23.d.takeDst = 0 ∧ x23.d.sigSrc = 0 ∧ x23.d.sigDst = 0 ∧ x23.d.gate = false ∧
     aSpace x23.d.dst = 0 ∧ aSpace x23.d.src = 0 ∧ st22.heldCore (coreKey 0 0) = false ∧
     ((st22.engine (engOf (Eng.core 0 0 (1 : Fin 4)))).work = [x23]) ∧ ((st22.engine (engOf (Eng.core 0 0 (1 : Fin 4)))).flight = [x24]) ∧
     x24.slot = x23.slot ∧ x24.idx = x23.idx ∧ x24.st = FlightSt.out ∧ x24.sig = true ∧ x24.rpage = none ∧ x24.wpage = none ∧
     x23.d.seals = false ∧ x23.d.fin = false) ∧
    (pgs.sync.parks = [] ∧ wkp.d.takeSrc = 0 ∧ wkp.d.takeDst = 0 ∧ wkp.d.sigSrc = 0 ∧ wkp.d.sigDst = 0 ∧ wkp.d.gate = false ∧
     aSpace wkp.d.dst = 0 ∧ (pgs.engReady (engOf (Eng.core 0 0 (1 : Fin 4))) = true) ∧
     (inFlight (pgs.engine (engOf (Eng.core 0 0 (1 : Fin 4)))) < 4) ∧
     (∀ (y : Flight), y ∈ (pgs.engine (engOf (Eng.core 0 0 (1 : Fin 4)))).flight → y.st ≠ FlightSt.failed) ∧
     (nextWork (pgs.engine (engOf (Eng.core 0 0 (1 : Fin 4)))) = some wkp) ∧
     (srcPlace (engOf (Eng.core 0 0 (1 : Fin 4))) wkp.d wkp.issued = Place.page 2 2) ∧
     (pgs.readLog ((pgs.partOf 0).getD 0) (engOf (Eng.core 0 0 (1 : Fin 4))) 2 = Rd.page x26) ∧
     pgs.groupOf ((pgs.partOf 0).getD 0) 2 = none) := by
  and_intros <;> decide +kernel

/-- `Obligations.FencesParkAndComplete`: its hypotheses are met. -/
theorem test_witness_FencesParkAndComplete :
    (Issuable w0 t0 ∧ w0.partRun (thrOf t0) = none ∧ w0.partOf ↑t0.f = some 0 ∧ (w0.lanesOf (thrOf t0) = [(0, 0)])) ∧
    (wf2.group 0 0 = some x28 ∧ wf2.running 0 = true ∧ (wf2.part 0).frozen = false ∧ 0 < x28.lanes ∧ wf2.rd TJL_PSTAT.HALT 0 = 0 ∧
     (wf2.part 0).stopped.contains 0 = false ∧ wf2.fenceDone 0 x28 0 = true ∧ x28.g = 0 ∧ (wf2.part 0).halting = false ∧
     wf2.suspending 0 = false ∧ wf2.ledger.entries = [] ∧ wf2.ledger.moves = [] ∧ wf2.ledger.invoc = [] ∧ wf2.replay.queue = [] ∧
     (wf2.sync.parks = [{ who := Who.thread 0, tgt := Target.fence 0 0 0, take := false, n := 0, tag := 0, since := 5, sd := 0 : Park }]) ∧
     (wf2.thread 0).st = ThrSt.parked ∧ wf2.owed 0 = []) := by
  and_intros <;> decide +kernel

end Tests.Cores

namespace Tests.Memory

def r0 : Range := (pdir.ranges.headD ⟨0,0,0,0,false,false,0,0,none,0,0,0,false,[]⟩)
def pg (st : PgSt) : Page := ⟨st, 2, 0, 2, 0, .engine 1, 0, 5, 0, false, false⟩
def K : Nat := pageKey 2 0 33
def wp (st : PgSt) : State := pages [(K, pg st)] [(dirKey 0 2, ⟨some K, none, some (pageKey 2 0 34), none, 6⟩), (dirKey 1 2, ⟨some K, none, some (pageKey 2 0 34), none, 7⟩)] w0
def st1 : State := (wp .opened)
def st2 : State := (wp .sealed)
def rg : Range := ⟨0, 2, 2, 0, false, false, 0, 1, some 3, 0, 7, 0, false, []⟩
def pdg : PageDir := ⟨4, [rg]⟩
def wg : State := pages [(K, {pg .sealed with lpage := 0}), (K+1, {pg .sealed with lpage := 1})] [(dirKey 0 0, ⟨none, some K, none, none, 6⟩), (dirKey 0 1, ⟨none, some (K+1), none, none, 6⟩)] (secd {sec with pagedirs := [(0, pdg)]} w0)
def hdr (k v : Nat) (s : State) : State := { s with mem := { s.mem with hdrs := Store.set 0 s.mem.hdrs k v } }
def st3 : State := (owe 0 (hdr (tileKey K 0) 0xABCDEF123456789 ((pages [(K, {pg .opened with sealReq := true, sealer := 1, region := false})] [(dirKey 0 2, ⟨some K, none, some (pageKey 2 0 34), none, 6⟩)] w0).setWord (tileWord (tileKey K 2) 5) ⟨77, true, false⟩)))
def st5 : State := (wp .freeing)
def st7 : State := (owe 0 { wg with mem := { wg.mem with flips := [⟨0,3,0⟩] } })
def x8 : FlipReq := ⟨0,3,0⟩
def en : State := put [(TIER_CTL.SCRUB_EN,0,1),(TIER_CTL.HEAT_EN,0,1)] ((wp .sealed).setWord (tileWord (tileKey K 2) 5) ⟨77, true, false⟩)
def goodHdr : Nat := hdrWord { hdrOf 0 with flags := 0 } 0
def wmi : State := (List.range 4).foldl (fun s t => hdr (tileKey K t) goodHdr s) (pages [(K, pg .sealed), (K+1, {pg .opened with writer := .heat})] [(dirKey 0 2, ⟨some K, none, none, some (K+1, K), 6⟩)] w0)
def x9 : Nat := (K+1)
def si (f : Bool) (imm : Nat) : SyncIns := ⟨1, f, 3, 4, 5, 0, BitVec.ofNat 16 imm⟩
def O : Nat := objKey 0 0 7
def ws (n : Nat) (d : BitVec 64) : State := obj O n ((w0.setSreg 0 4 (BitVec.ofNat 64 (2^22 + 7))).setSreg 0 5 d)
def st10 : State := (ws 5 3)
def x11 : SyncIns := (si false 5)
def st14 : State := (ws countMax (-3))
def x15 : SyncIns := (si false 5)
def st16 : State := (ws 2 (-3))
def x17 : SyncIns := (si true 5)
def st18 : State := (ws 2 (-3))
def x19 : SyncIns := (si false 5)
def bi (f : Bool) (imm : Nat) : SyncIns := ⟨1, f, 3, 4, 5, 0, BitVec.ofNat 16 imm⟩
def bd : BarDef := ⟨3, 0, 1, 1, 1, false⟩
def x20 : SyncIns := (bi false 3)
def st21 : State := (w0.setSreg 0 4 1)
def x22 : SyncIns := (bi false 3)
def bst (v : BarSt) (s : State) : State := { s with sync := { s.sync with bars := [(barKey 0 3, v)] } }
def st25 : State := (park [⟨.thread 0, .barrier 0 3 0, false,0,1,9,0⟩] (thr 0 ⟨.parked,5,.idle,0⟩ (bst ⟨65535,0,[(0,1)],0,0,false,false⟩ w0)))
def bell (x : Nat) (b : Bell) (s : State) : State := { s with hosts := { s.hosts with bells := [(x, b)] } }
def wd (arg n : Nat) : State := obj (poolKey 0) n (bell (64+5) { bell0 with arg := arg } { w0 with sync := { w0.sync with blocks := [(0,1)] } })
def cmdd (seq : Nat) : BitVec 64 := BitVec.ofNat 64 (seq*2^48 + 3*2^22)
def st27 : State := (wd (5+ 9*2^40) 5)
def x28 : BitVec 64 := (cmdd 17)
def x29 : Nat := (poolKey 0)
def st33 : State := (wd (5+2^46 + 2^32+ 9*2^40) 4)
def x34 : BitVec 64 := (cmdd 17)
def x35 : Nat := (poolKey 0)
def st36 : State := (wd (2^32-3) 4)
def x37 : BitVec 64 := (cmdd 17)
def x38 : Nat := (poolKey 0)
def st39 : State := (secd { sec with sync := ⟨[], [⟨3, 0, 1, 1, 1, true⟩], [], []⟩} (wd 3 4))
def x40 : BitVec 64 := (cmdd 17)
def x42 : BarDef := ⟨3, 0, 1, 1, 1, true⟩
def st43 : State := (park [⟨.host 1 5, .obj (poolKey 0), true, 5, 3, 3, 0⟩] (bell (64+5) { bell0 with state := 1, op := 2} (wd 3 4)))
def x44 : BitVec 64 := (cmdd 17)

/-- `Obligations.PageInstructions`: its hypotheses are met. -/
theorem test_witness_PageInstructions :
    (Issuable st1 t0 ∧ st1.lpage ((st1.partOf ↑t0.f).getD 0) 2 = LPage.range r0 0 ∧ (r0.tier = 1 ∨ r0.tier = 2) ∧
     st1.target ((st1.partOf ↑t0.f).getD 0) 2 = some K ∧ (st1.page K).st = PgSt.opened ∧ pageTier K ≠ 1 ∧
     ownEngine (st1.page K) (thrOf t0) = true ∧ st1.partRun (thrOf t0) = none ∧ st1.flipRefusal ((st1.partOf ↑t0.f).getD 0) 0 = 0) ∧
    (Issuable st2 t0 ∧ st2.lpage ((st2.partOf ↑t0.f).getD 0) 2 = LPage.range r0 0 ∧ st2.target ((st2.partOf ↑t0.f).getD 0) 2 = some K ∧
     st2.partRun (thrOf t0) = none ∧ ((st2.page K).st = PgSt.sealed ∨ (st2.page K).st = PgSt.invalid) ∧ r0.group = none) ∧
    (Issuable wg t0 ∧ wg.lpage ((wg.partOf ↑t0.f).getD 0) 0 = LPage.range rg 0 ∧ rg.tier = 2 ∧
     wg.target ((wg.partOf ↑t0.f).getD 0) 0 = some K ∧ (wg.page K).st = PgSt.sealed ∧ rg.group ≠ none) ∧
    (Issuable wg t0 ∧ wg.partRun (thrOf t0) = none ∧ wg.flipRefusal ((wg.partOf ↑t0.f).getD 0) 4 ≠ 0 ∧
     wg.flipRefusal ((wg.partOf ↑t0.f).getD 0) 4 ≠ 37) := by
  and_intros <;> decide +kernel

/-- `Obligations.PageCommits`: its hypotheses are met. -/
theorem test_witness_PageCommits :
    (st3.target 0 2 = some K ∧ (st3.page K).st = PgSt.opened ∧ (st3.page K).sealReq = true ∧
     (∀ (e : Nat × Engine), e ∈ st3.cores.engines → ∀ (x : Flight), x ∈ e.snd.flight → x.wpage = some K → x.st = FlightSt.landed) ∧
     ((st3.page K).sealer = 0 + 1) ∧ st3.owed 0 = [none] ∧ (∀ (e : Nat), (st3.page K).writer = Writer.engine e → (st3.engine e).work = [])) ∧
    (((st5.page (pageKey 2 (if 2 = 3 then 0 else 0) 33)).st = PgSt.freeing) ∧
     ((st5.page (pageKey 2 (if 2 = 3 then 0 else 0) 33)).readers = 0) ∧ ((st5.page (pageKey 2 (if 2 = 3 then 0 else 0) 33)).part = 0)) ∧
    ((List.find? (fun q => decide (q.part = 0) && decide (q.group = 3)) st7.mem.flips = some x8) ∧ st7.flipRefusal 0 3 = 0 ∧
     st7.groupHeld 0 3 = false ∧ (st7.groupPages 0 3).Nodup ∧ st7.replay.slots = [] ∧ st7.owed x8.thr = [none]) := by
  and_intros <;> first | decide +kernel | (intro e h; cases (show Writer.engine 1 = Writer.engine e from h); decide +kernel)

/-- `Obligations.ScrubAgingAndMirrors`: its hypotheses are met. -/
theorem test_witness_ScrubAgingAndMirrors :
    (Memory.wf en.mem = true ∧ en.rd TIER_CTL.SCRUB_EN 0 = 1 ∧ (en.page (pageKey 2 0 33)).st ≠ PgSt.free ∧ ((5 : Fin 16) ≠ (0 : Fin 16)) ∧
     en.running 0 = true ∧ en.rd TIER_CTL.HEAT_EN 0 = 1) ∧
    (Memory.wf wmi.mem = true ∧ (wmi.dir 0 2).copy = some (x9, K) ∧ (wmi.dir 0 2).mirror = none ∧
     wmi.pageCheck K = 0 ∧ x9 ≠ K) := by
  and_intros <;> decide +kernel

/-- `Obligations.SignalsAndWaits`: its hypotheses are met. -/
theorem test_witness_SignalsAndWaits :
    (Issuable st10 t0 ∧ (x11.rsv = (0 : BitVec 22)) ∧ st10.partRun (thrOf t0) = none ∧
     (st10.resolve (st10.thrSource (thrOf t0)) (BitVec.toNat (st10.sreg (thrOf t0) ↑x11.sa) % 2 ^ 24) false = Named.obj O) ∧
     (st10.obj O).live = true ∧ (st10.obj O).broken = false ∧ st10.exportOf O = none ∧ st10.objHeld O = false ∧
     st10.urgentBusy ↑t0.f ↑t0.m = false ∧ (∀ (pk : Park), pk ∈ st10.sync.parks → pk.tgt ≠ Target.obj O) ∧ (x11.imm ≠ (0 : BitVec 16)) ∧
     ((st10.obj O).count + x11.imm.toNat ≤ countMax) ∧ x11.f = false ∧
     ((0 : Int) ≤ (BitVec.ofNat 32 (BitVec.toNat (st10.sreg (thrOf t0) ↑x11.sb))).toInt) ∧
     ((st10.obj O).count + (BitVec.ofNat 32 (BitVec.toNat (st10.sreg (thrOf t0) ↑x11.sb))).toInt.toNat ≤ countMax) ∧
     bits (BitVec.toNat (st10.sreg (thrOf t0) ↑x11.sa)) 23 22 ≠ 2 ∧ x11.imm.toNat ≤ (st10.obj O).count) ∧
    (Issuable st14 t0 ∧ (x15.rsv = (0 : BitVec 22)) ∧ st14.partRun (thrOf t0) = none ∧
     (st14.resolve (st14.thrSource (thrOf t0)) (BitVec.toNat (st14.sreg (thrOf t0) ↑x15.sa) % 2 ^ 24) false = Named.obj O) ∧
     (st14.obj O).live = true ∧ (st14.obj O).broken = false ∧ st14.exportOf O = none ∧ st14.objHeld O = false ∧
     st14.urgentBusy ↑t0.f ↑t0.m = false ∧ (∀ (pk : Park), pk ∈ st14.sync.parks → pk.tgt ≠ Target.obj O) ∧ (x15.imm ≠ (0 : BitVec 16)) ∧
     (st14.obj O).count ≤ countMax ∧ (countMax < (st14.obj O).count + x15.imm.toNat) ∧ x15.f = false ∧
     ((BitVec.ofNat 32 (BitVec.toNat (st14.sreg (thrOf t0) ↑x15.sb))).toInt < (0 : Int)) ∧
     (BitVec.ofNat 32 (BitVec.toNat (st14.sreg (thrOf t0) ↑x15.sb))).toInt.natAbs ≤ (st14.obj O).count) ∧
    (Issuable st16 t0 ∧ (x17.rsv = (0 : BitVec 22)) ∧ st16.partRun (thrOf t0) = none ∧
     (st16.resolve (st16.thrSource (thrOf t0)) (BitVec.toNat (st16.sreg (thrOf t0) ↑x17.sa) % 2 ^ 24) false = Named.obj O) ∧
     (st16.obj O).live = true ∧ (st16.obj O).broken = false ∧ st16.exportOf O = none ∧ st16.objHeld O = false ∧
     st16.urgentBusy ↑t0.f ↑t0.m = false ∧ (∀ (pk : Park), pk ∈ st16.sync.parks → pk.tgt ≠ Target.obj O) ∧
     bits (BitVec.toNat (st16.sreg (thrOf t0) ↑x17.sa)) 23 22 ≠ 2 ∧ (st16.obj O).count < x17.imm.toNat) ∧
    (Issuable st18 t0 ∧ (x19.rsv = (0 : BitVec 22)) ∧ st18.partRun (thrOf t0) = none ∧
     (st18.resolve (st18.thrSource (thrOf t0)) (BitVec.toNat (st18.sreg (thrOf t0) ↑x19.sa) % 2 ^ 24) false = Named.obj O) ∧
     (st18.obj O).live = true ∧ (st18.obj O).broken = false ∧ st18.exportOf O = none ∧ st18.objHeld O = false ∧
     st18.urgentBusy ↑t0.f ↑t0.m = false ∧ (∀ (pk : Park), pk ∈ st18.sync.parks → pk.tgt ≠ Target.obj O) ∧ x19.f = false ∧
     ((BitVec.ofNat 32 (BitVec.toNat (st18.sreg (thrOf t0) ↑x19.sb))).toInt < (0 : Int)) ∧
     (st18.obj O).count < (BitVec.ofNat 32 (BitVec.toNat (st18.sreg (thrOf t0) ↑x19.sb))).toInt.natAbs) := by
  and_intros <;> decide +kernel

/-- `Obligations.BarrierEpisodes`: its hypotheses are met. -/
theorem test_witness_BarrierEpisodes :
    (w0.barDef 0 3 = some bd ∧ bd.num = 3 ∧ Issuable w0 t0 ∧ (x20.rsv = (0 : BitVec 22)) ∧ x20.f = false ∧ x20.imm.toNat = 3 ∧
     w0.partRun (thrOf t0) = none ∧ w0.partOf ↑t0.f = some 0 ∧ participates bd ↑t0.f ↑t0.m = true ∧
     (Store.get 0 (w0.bar 0 3).arr (thrOf t0 / 32) < 2 * bd.percore) ∧
     (genReached (w0.bar 0 3).gen (BitVec.toNat (w0.sreg (thrOf t0) ↑x20.sa) % 65536) = true)) ∧
    (st21.barDef 0 3 = some bd ∧ bd.num = 3 ∧ Issuable st21 t0 ∧ (x22.rsv = (0 : BitVec 22)) ∧ x22.f = false ∧ x22.imm.toNat = 3 ∧
     st21.partRun (thrOf t0) = none ∧ st21.partOf ↑t0.f = some 0 ∧
     (genReached (st21.bar 0 3).gen (BitVec.toNat (st21.sreg (thrOf t0) ↑x22.sa) % 65536) = false)) ∧
    (st25.barDef 0 3 = some bd ∧ bd.num = 3 ∧ st25.running 0 = true ∧ st25.barLocal 0 bd = true ∧ st25.tree 0 3 = none ∧
     (st25.sync.parks = [{ who := Who.thread 0, tgt := Target.barrier 0 3 (((st25.bar 0 3).gen + 1) % 65536), take := false, n := 0, tag := 1, since := 9, sd := 0 : Park }]) ∧
     (st25.thread 0).st = ThrSt.parked ∧ st25.owed 0 = []) := by
  and_intros <;> decide +kernel

/-- `Obligations.DoorbellRequests`: its hypotheses are met. -/
theorem test_witness_DoorbellRequests :
    (st27.fnOn 0 1 = true ∧ st27.dupSeq (bellSrc 1 5) (bits x28.toNat 63 48) = false ∧ (st27.bell 1 5).waits = false ∧
     (argNotify (st27.bell 1 5).arg = true → 8 ≤ argVec (st27.bell 1 5).arg) ∧ (1 = 0 → st27.rd SEC_CTL.PF0_DATA 0 = 1) ∧
     st27.open_ (bellPart 1 x28.toNat) = true ∧
     (st27.resolve { part := bellPart 1 x28.toNat, field := 0, core := 0, unit := 62 + 0, own := false : Source } (x28.toNat % 2 ^ 24) (decide (1 = 0)) = Named.obj x29) ∧
     st27.exportOf x29 = none ∧ st27.objHeld x29 = false ∧ (st27.obj x29).live = true ∧ (st27.obj x29).broken = false ∧
     (∀ (pk : Park), pk ∈ st27.sync.parks → pk.tgt ≠ Target.obj x29) ∧ st27.isIngress 1 5 (bellPart 1 x28.toNat) = false ∧
     ((st27.bell 1 5).arg % 65536 ≠ 0) ∧ ((st27.obj x29).count + (st27.bell 1 5).arg % 65536 ≤ countMax) ∧
     ((0 : Int) ≤ (BitVec.ofNat 32 (st27.bell 1 5).arg).toInt) ∧
     ((st27.obj x29).count + (BitVec.ofNat 32 (st27.bell 1 5).arg).toInt.toNat ≤ countMax) ∧ 8 ≤ argVec (st27.bell 1 5).arg ∧
     ((st27.bell 1 5).arg % 65536 ≤ (st27.obj x29).count)) ∧
    (st33.fnOn 0 1 = true ∧ st33.dupSeq (bellSrc 1 5) (bits x34.toNat 63 48) = false ∧ (st33.bell 1 5).waits = false ∧
     (argNotify (st33.bell 1 5).arg = true → 8 ≤ argVec (st33.bell 1 5).arg) ∧ (1 = 0 → st33.rd SEC_CTL.PF0_DATA 0 = 1) ∧
     st33.open_ (bellPart 1 x34.toNat) = true ∧
     (st33.resolve { part := bellPart 1 x34.toNat, field := 0, core := 0, unit := 62 + 0, own := false : Source } (x34.toNat % 2 ^ 24) (decide (1 = 0)) = Named.obj x35) ∧
     st33.exportOf x35 = none ∧ st33.objHeld x35 = false ∧ (st33.obj x35).live = true ∧ (st33.obj x35).broken = false ∧
     (∀ (pk : Park), pk ∈ st33.sync.parks → pk.tgt ≠ Target.obj x35) ∧ 8 ≤ argVec (st33.bell 1 5).arg ∧
     ((st33.obj x35).count < (st33.bell 1 5).arg % 65536)) ∧
    (st36.fnOn 0 1 = true ∧ st36.dupSeq (bellSrc 1 5) (bits x37.toNat 63 48) = false ∧ (st36.bell 1 5).waits = false ∧
     (argNotify (st36.bell 1 5).arg = true → 8 ≤ argVec (st36.bell 1 5).arg) ∧ (1 = 0 → st36.rd SEC_CTL.PF0_DATA 0 = 1) ∧
     st36.open_ (bellPart 1 x37.toNat) = true ∧
     (st36.resolve { part := bellPart 1 x37.toNat, field := 0, core := 0, unit := 62 + 0, own := false : Source } (x37.toNat % 2 ^ 24) (decide (1 = 0)) = Named.obj x38) ∧
     st36.exportOf x38 = none ∧ st36.objHeld x38 = false ∧ (st36.obj x38).live = true ∧ (st36.obj x38).broken = false ∧
     (∀ (pk : Park), pk ∈ st36.sync.parks → pk.tgt ≠ Target.obj x38) ∧ ((BitVec.ofNat 32 (st36.bell 1 5).arg).toInt < (0 : Int)) ∧
     (BitVec.ofNat 32 (st36.bell 1 5).arg).toInt.natAbs ≤ (st36.obj x38).count) ∧
    (st39.fnOn 0 1 = true ∧ st39.dupSeq (bellSrc 1 5) (bits x40.toNat 63 48) = false ∧ (st39.bell 1 5).waits = false ∧
     (argNotify (st39.bell 1 5).arg = true → 8 ≤ argVec (st39.bell 1 5).arg) ∧ (1 = 0 → st39.rd SEC_CTL.PF0_DATA 0 = 1) ∧
     st39.open_ (bellPart 1 x40.toNat) = true ∧ (st39.barDef (bellPart 1 x40.toNat) ((st39.bell 1 5).arg % 64) = some x42) ∧
     x42.host = true ∧ (st39.bar (bellPart 1 x40.toNat) x42.num).host < 2) ∧
    (st43.fnOn 0 1 = true ∧ st43.dupSeq (bellSrc 1 5) (bits x44.toNat 63 48) = false ∧ (st43.bell 1 5).waits = true) := by
  and_intros <;> decide +kernel

end Tests.Memory

namespace Tests.Failures

def rs (g : Wafer → Wafer) : State := { State.reset with now := 5000, wafer := g { State.reset.wafer with running := true } }
def st1 : State := (rs fun w => {w with crit := [(5, 1001)]})
def st2 : State := (thr 32 ⟨.parked,7,.idle,0⟩ (rs fun w => {w with cmap := [(1, 12)]}))
def st2n : State := { st2 with wafer := { st2.wafer with bad := ((List.range 160).filter (· ≠ 11)).map fun i => (i, true) } }
def K : Nat := pageKey 2 0 33
def pg (st : PgSt) : Page := ⟨st, 2, 0, 2, 0, .engine 1, 0, 5, 0, false, false⟩
def wt : State := (pages [(K, pg .sealed)] [] w0)
def x4 : Group := ⟨0, 1, [⟨0, 0, 0, 0⟩]⟩
def wgd : State := put [(PAR_STATE.MODE,0,2)] { w0 with wafer := { w0.wafer with range := [(0, 901)] } }
def d0 : Nat := 1 + 1*2^16 + 0x4000*2^32 + 0x8000*2^96
def wk : Work := ⟨0, 0, descOfBits d0, 0, 0, false, false, false, 0⟩
def fl (st : FlightSt) : Flight := ⟨0, 0, 0, st, true, none, none, 5, 12345, [(0,5),(7,9)]⟩
def we : State := put [(TJL_PORT.STATE,3,2)] (eng ⟨[wk], [fl .out], 0, none, 0, [], .none⟩ w0)
def x5 : Eng := (.core 0 0 1)
def x6 : UnitRef := (.core 0 5)
def x7 : Flight := (fl .out)

/-- `Obligations.FieldsFailAndPowerDown`: its hypotheses are met. -/
theorem test_witness_FieldsFailAndPowerDown :
    (st1.unformed ∧ st1.fieldFailed 5 = false ∧ (Store.get 0 st1.wafer.crit 5 = 1000 + 1)) := by
  and_intros <;> decide +kernel

/-- `Obligations.CoresAndTowersFail`: its hypotheses are met. -/
theorem test_witness_CoresAndTowersFail :
    (st2.partOf 0 = none ∧ st2.phys (coreKey 0 1) = some 11 ∧ (Store.get false st2.wafer.bad (0 * 160 + 11) = false) ∧
     (∀ (e : Nat), e < 4 → (st2.engine (coreKey 0 1 * 4 + e)).flight = []) ∧ ((List.range 160).find? (st2.isSpare 0) = some 0)) ∧
    (st2n.partOf 0 = none ∧ st2n.phys (coreKey 0 1) = some 11 ∧ (Store.get false st2n.wafer.bad (0 * 160 + 11) = false) ∧
     (∀ (e : Nat), e < 4 → (st2n.engine (coreKey 0 1 * 4 + e)).flight = []) ∧ ((List.range 160).find? (st2n.isSpare 0) = none) ∧ st2n.fieldFailed 0 = false) ∧
    (wt.towerFailed 0 1 = false ∧ wt.partOf 0 = some 0 ∧ wt.running 0 = true ∧ wt.guarded 0 = false ∧ (wt.part 0).next = 0 ∧
     (wt.part 0).halting = false ∧ wt.sect 0 = some sec ∧ (x4 ∈ sec.fence) ∧ (wt.part 0).stopped.contains x4.g = false) := by
  and_intros <;> decide +kernel

/-- `Obligations.SafetyFailuresStopPartitions`: its hypotheses are met. -/
theorem test_witness_SafetyFailuresStopPartitions :
    (wgd.guarded 0 = true ∧ wgd.running 0 = true ∧ wgd.frames 0 = [] ∧ 0 < 64 ∧ wgd.owns 0 0 = true ∧
     (Store.get 0 wgd.wafer.range 0 = 900 + 1) ∧ (∀ (g : Nat), g < 64 → wgd.owns 0 g = true → Store.get 0 wgd.wafer.range g = 0 ∨ g = 0) ∧
     wgd.edgeDead 26 = false ∧ wgd.wafer.down = false) := by
  and_intros <;> decide +kernel

/-- `Obligations.TransferTimeouts`: its hypotheses are met. -/
theorem test_witness_TransferTimeouts :
    (we.partOf (engField (engOf x5)) = some 0 ∧ (we.engine (engOf x5)).flight[0]? = some x7 ∧
     (x7.st = FlightSt.issued ∨ x7.st = FlightSt.out) ∧ workOf (we.engine (engOf x5)) x7 = some wk ∧ isShelf (engOf x5) = false ∧
     x7.rpage = none ∧ x7.wpage = none ∧ we.pst 0 ≠ stSuspended ∧ we.rd TJL_PSTAT.HALT 0 ≠ 1 ∧
     Store.get 0 we.wafer.timeouts (unitKey x6).fst = 0 ∧ we.portSt 3 = 2) := by
  and_intros <;> decide +kernel

end Tests.Failures

namespace Tests.Ledger

def secL (w : Nat) (pg : List Nat) : Section := { sec with plans := [(0, {plan with pclass := [[w, 0, 0, 0, 0, 0, 0, 0]], prog := pg })], fence := [⟨0, 1, [⟨0, 0, 0, 0⟩]⟩] }
def wL : State := secd (secL 0 []) w0
def ent (n : Nat) (e : Entry) (s : State) : State := { s with ledger := { s.ledger with entries := [(entKey 0 n, e)] } }
def insL (f : Bool) (sd imm : Nat) : SyncIns := ⟨1, f, ⟨sd % 32, by omega⟩, 4, 5, 0, BitVec.ofNat 16 imm⟩
def wacc (lp tiles : Nat) : State := (wL.setSreg 0 4 (BitVec.ofNat 64 (tiles + 2^16*0xFFFF + 2^32*3))).setSreg 0 5 (BitVec.ofNat 64 lp)
def st1 : State := (wacc 1000 4)
def x2 : SyncIns := (insL false 3 0)
def st5 : State := (wacc 1000 80)
def x6 : SyncIns := (insL false 3 0)
def st7 : State := (wacc 1000 0)
def x8 : SyncIns := (insL false 3 0)
def E (st : Nat) : Entry := { entry0 with st := st, gen := 9, uses := 4, users := 2, tiles := 4, lpage := 1000, spage := 2000, spages := 1, needF := 0xFFFF }
def fullT (s : State) : State := put [(PAR_WMARK.HIGH,0,100),(PAR_WMARK.LOW,0,100),(LDG_T1_PEAK.PEAK,0,4)] (pages ((List.range 4).map fun i => (pageKey 1 0 i, ⟨.sealed, 3, 0, 1000, poolLedger, .none, 0, 15, 0, false, false⟩)) [] s)
def wu (e : Entry) : State := ent 6 e (wL.setSreg 0 4 (BitVec.ofNat 64 (handleOf 0 0 6 9)))
def st9 : State := (wu (E 9))
def x10 : SyncIns := (insL false 3 3)
def st13 : State := (fullT (wu (E 5)))
def x14 : SyncIns := (insL true 3 3)
def st15 : State := (wu (E 5))
def x16 : SyncIns := (insL false 3 9)
def st17 : State := (wu { E 5 with gen := 10 })
def x18 : SyncIns := (insL false 3 9)
def insP : SyncIns := ⟨1, false, 3, 4, 5, 0, 0⟩
def st19 : State := (put [(LDG_CTL.EN,0,0)] (wL.setSreg 0 4 77777))
def x20 : Invoc := ⟨0,6,0⟩
def inv (l : List Invoc) (s : State) : State := { s with ledger := { s.ledger with invoc := l } }
def st21 : State := (inv [⟨0,6,0⟩] (wu (E 2)))
def x22 : Invoc := ⟨0,6,0⟩
def st23 : State := (inv [⟨0,6,0⟩] (wu { E 1 with landed := 15}))
def x24 : Invoc := ⟨0,6,0⟩
def wP : State := secd (secL 2048 [0x20*2^26, 0x30*2^26]) (inv [⟨0,6,0⟩] (wu (E 2)))
def pr1 : Pol := (polRun [0x20*2^26, 0x30*2^26] (wP.polInput 0 6 0) (wP.clsWord 0 0) (wP.rd LDG_POL_CTL.STEPS 0) ⟨0, List.replicate 16 0, none, []⟩).2
def x25 : Invoc := ⟨0,6,0⟩
def st26 : State := (fullT (ent 6 { E 5 with needF := 0, needM := 0 } wL))
def mvs (l : List Move) (s : State) : State := { s with ledger := { s.ledger with moves := l } }
def mv (k : MoveKind) (st : Bool) (l : Nat) : Move := ⟨0, 6, k, st, false, l, 4, 5, false, 2000, 100, 1⟩
def wmv (e : Entry) (m : Move) : State := put [(LDG_T1_PEAK.PEAK,0,1)] <| pages [(pageKey 1 0 3, ⟨.sealed, 3, 0, 1000, poolLedger, .none, 0, 15, 0, false, false⟩), (pageKey 2 0 8, ⟨.sealed, 3, 0, 2000, poolSpill, .none, 0, 15, 0, false, false⟩)] [(dirKey 0 1000, ⟨some (pageKey 1 0 3), none, none, none, 6⟩), (dirKey 0 2000, ⟨none, some (pageKey 2 0 8), none, none, 6⟩)] (mvs [m] (ent 6 e wL))
def st28 : State := (wmv (E 4) (mv .spill false 4))
def x29 : Move := (mv .spill false 4)
def st32 : State := (wmv (E 4) (mv .spill true 0))
def x33 : Move := (mv .spill true 0)
def st34 : State := (wmv (E 7) (mv .slip true 0))
def x35 : Move := (mv .slip true 0)
def st36 : State := (put [(CMP_CTL.VERIFY,0,1)] (wmv (E 1) (mv .press true 0)))
def x37 : Move := (mv .press true 0)
def used (n : Nat) : State := { wL with mem := { wL.mem with pages := (List.range n).map fun i => (pageKey 1 0 i, ⟨.sealed, 3, 0, 1000, poolLedger, .none, 0, 15, 0, false, false⟩) } }
def st38 : State := (used 4)
def st39 : State := (used 1)
def st39u : State := put [(LDG_T1.USED,0,1)] st39
def spd1 : SpanDef := ⟨8, [⟨0, 0, 3, 6, 0, 0⟩]⟩
def wS : State := secd { sec with spans := [⟨7, [⟨0, 0, 3, 6, 0, 0⟩, ⟨0, 1, 4, 200, 0, 0⟩]⟩, spd1] } w0
def insS (sd sa imm : Nat) : SyncIns := ⟨1, false, ⟨sd % 32, by omega⟩, ⟨sa % 32, by omega⟩, 0, 0, BitVec.ofNat 16 imm⟩
def run0 : PartRun := ⟨0, 5, [1,2,3], 9, false⟩
def pk0 : Park := ⟨.thread 5, .slot 0 0, false, 7, 1, 5, 9⟩
def spdw : SpanDef := ⟨7, [⟨0, 0, 3, 6, 0, 0⟩, ⟨0, 1, 4, 200, 0, 0⟩]⟩
def st40 : State := (wS.setSreg 0 4 55)
def x41 : SyncIns := (insS 3 4 7)
def slots (l : List (Nat × Slot)) (s : State) : State := { s with replay := { s.replay with slots := l } }
def full : State := secd { sec with spans := [spdw], plans := [(0, {plan with fields := [(0, {fplan with replay := 1})]})] } (slots [(0, { slot0 with st := 2, sid := 8 })] w0)
def st42 : State := (full.setSreg 0 4 55)
def x43 : SyncIns := (insS 3 4 7)
def r2 (st : Nat) : State := slots [(0, { slot0 with st := st, sid := 7, runs := [⟨0, 5, [1,2,3,4], 9, false⟩, ⟨1, 37, [8,9], 0, false⟩], since := 10 })] wS
def st44 : State := (r2 1)
def rp (s : State) : State := ent 6 { entry0 with st := 8, gen := 9, tiles := 4, lpage := 1000 } ({ s with replay := { s.replay with queue := [(0,0)], slots := s.replay.slots.map fun x => (x.1, { x.2 with outs := [handleOf 0 0 6 9], digs := [0], live := 1 }) } })
def st46 : State := (rp (r2 2))
def pa (q : Nat) (s : State) : State := { s with replay := { s.replay with parts := [(0, q + 1)] } }
def st48 : State := (pa 0 (r2 1))
def x49 : SyncIns := (insS 0 0 0)
def lastR (live : Nat) : State := put [(LDG_T1_PEAK.PEAK,0,0)] <| pa 0 (thr 5 ⟨.parked, 3, .idle, 0⟩ (park [pk0] (slots [(0, { slot0 with st := 1, sid := 8, runs := [run0], since := 10, live := live, going := true })] wS)))
def st50 : State := (lastR 0)
def x51 : SyncIns := (insS 0 0 0)

/-- `Obligations.LedgerInstructions`: its hypotheses are met. -/
theorem test_witness_LedgerInstructions :
    (Issuable st1 t0 ∧ (x2.rsv = (0 : BitVec 22)) ∧ st1.partRun (thrOf t0) = none ∧ x2.f = false ∧ bits x2.imm.toNat 15 12 = 0 ∧
     st1.accOk (↑t0.f) (st1.accOps (thrOf t0) (↑x2.sa) (↑x2.sb) x2.imm.toNat ↑x2.sd) = true ∧
     (∀ (pk : Park), pk ∈ st1.sync.parks → pk.tgt ≠ Target.accession ↑t0.f) ∧
     (((st1.mark (thrOf t0)).accTry (↑t0.f) (thrOf t0 / 32) (st1.accOps (thrOf t0) (↑x2.sa) (↑x2.sb) x2.imm.toNat ↑x2.sd)).isSome = true) ∧
     st1.lowEntry ↑t0.f = some 0) ∧
    (Issuable st5 t0 ∧ (x6.rsv = (0 : BitVec 22)) ∧ st5.partRun (thrOf t0) = none ∧ x6.f = false ∧ bits x6.imm.toNat 15 12 = 0 ∧
     st5.accOk (↑t0.f) (st5.accOps (thrOf t0) (↑x6.sa) (↑x6.sb) x6.imm.toNat ↑x6.sd) = true ∧
     (∀ (pk : Park), pk ∈ st5.sync.parks → pk.tgt ≠ Target.accession ↑t0.f) ∧
     ((st5.mark (thrOf t0)).accTry (↑t0.f) (thrOf t0 / 32) (st5.accOps (thrOf t0) (↑x6.sa) (↑x6.sb) x6.imm.toNat ↑x6.sd) = none)) ∧
    (Issuable st7 t0 ∧ (x8.rsv = (0 : BitVec 22)) ∧ st7.partRun (thrOf t0) = none ∧ x8.f = false ∧ bits x8.imm.toNat 15 12 = 0 ∧
     st7.accOk (↑t0.f) (st7.accOps (thrOf t0) (↑x8.sa) (↑x8.sb) x8.imm.toNat ↑x8.sd) = false) ∧
    (Issuable st9 t0 ∧ (x10.rsv = (0 : BitVec 22)) ∧ st9.partRun (thrOf t0) = none ∧
     (hndPart (BitVec.toNat (st9.sreg (thrOf t0) ↑x10.sa) % 2 ^ 32) = st9.entPart ↑t0.f) ∧
     (st9.owns (st9.entPart ↑t0.f) (hndField (BitVec.toNat (st9.sreg (thrOf t0) ↑x10.sa) % 2 ^ 32)) = true) ∧
     st9.partOf ↑t0.f = some (st9.entPart ↑t0.f) ∧
     ((st9.entry (hndField (BitVec.toNat (st9.sreg (thrOf t0) ↑x10.sa) % 2 ^ 32)) (hndEntry (BitVec.toNat (st9.sreg (thrOf t0) ↑x10.sa) % 2 ^ 32))).gen = hndGen (BitVec.toNat (st9.sreg (thrOf t0) ↑x10.sa) % 2 ^ 32)) ∧
     (hndGen (BitVec.toNat (st9.sreg (thrOf t0) ↑x10.sa) % 2 ^ 32) ≠ 0) ∧
     ((st9.entry (hndField (BitVec.toNat (st9.sreg (thrOf t0) ↑x10.sa) % 2 ^ 32)) (hndEntry (BitVec.toNat (st9.sreg (thrOf t0) ↑x10.sa) % 2 ^ 32))).st ≠ 0) ∧
     ((st9.entry (hndField (BitVec.toNat (st9.sreg (thrOf t0) ↑x10.sa) % 2 ^ 32)) (hndEntry (BitVec.toNat (st9.sreg (thrOf t0) ↑x10.sa) % 2 ^ 32))).users ≠ 255) ∧
     (x10.f = false ∨ (st9.entry (hndField (BitVec.toNat (st9.sreg (thrOf t0) ↑x10.sa) % 2 ^ 32)) (hndEntry (BitVec.toNat (st9.sreg (thrOf t0) ↑x10.sa) % 2 ^ 32))).st = 9 ∨ (st9.entry (hndField (BitVec.toNat (st9.sreg (thrOf t0) ↑x10.sa) % 2 ^ 32)) (hndEntry (BitVec.toNat (st9.sreg (thrOf t0) ↑x10.sa) % 2 ^ 32))).st = 2) ∧
     x10.f = false ∧ 0 < x10.imm.toNat ∧ x10.imm.toNat ≤ 255 ∧
     (x10.imm.toNat < (st9.entry (hndField (BitVec.toNat (st9.sreg (thrOf t0) ↑x10.sa) % 2 ^ 32)) (hndEntry (BitVec.toNat (st9.sreg (thrOf t0) ↑x10.sa) % 2 ^ 32))).uses)) ∧
    (Issuable st13 t0 ∧ (x14.rsv = (0 : BitVec 22)) ∧ st13.partRun (thrOf t0) = none ∧
     (hndPart (BitVec.toNat (st13.sreg (thrOf t0) ↑x14.sa) % 2 ^ 32) = st13.entPart ↑t0.f) ∧
     (st13.owns (st13.entPart ↑t0.f) (hndField (BitVec.toNat (st13.sreg (thrOf t0) ↑x14.sa) % 2 ^ 32)) = true) ∧
     st13.partOf ↑t0.f = some (st13.entPart ↑t0.f) ∧
     ((st13.entry (hndField (BitVec.toNat (st13.sreg (thrOf t0) ↑x14.sa) % 2 ^ 32)) (hndEntry (BitVec.toNat (st13.sreg (thrOf t0) ↑x14.sa) % 2 ^ 32))).gen = hndGen (BitVec.toNat (st13.sreg (thrOf t0) ↑x14.sa) % 2 ^ 32)) ∧
     (hndGen (BitVec.toNat (st13.sreg (thrOf t0) ↑x14.sa) % 2 ^ 32) ≠ 0) ∧
     ((st13.entry (hndField (BitVec.toNat (st13.sreg (thrOf t0) ↑x14.sa) % 2 ^ 32)) (hndEntry (BitVec.toNat (st13.sreg (thrOf t0) ↑x14.sa) % 2 ^ 32))).st ≠ 0) ∧
     ((st13.entry (hndField (BitVec.toNat (st13.sreg (thrOf t0) ↑x14.sa) % 2 ^ 32)) (hndEntry (BitVec.toNat (st13.sreg (thrOf t0) ↑x14.sa) % 2 ^ 32))).users ≠ 255) ∧
     x14.f = true ∧
     ((st13.entry (hndField (BitVec.toNat (st13.sreg (thrOf t0) ↑x14.sa) % 2 ^ 32)) (hndEntry (BitVec.toNat (st13.sreg (thrOf t0) ↑x14.sa) % 2 ^ 32))).st = 5) ∧
     ((st13.entry (hndField (BitVec.toNat (st13.sreg (thrOf t0) ↑x14.sa) % 2 ^ 32)) (hndEntry (BitVec.toNat (st13.sreg (thrOf t0) ↑x14.sa) % 2 ^ 32))).slip = false)) ∧
    (Issuable st15 t0 ∧ (x16.rsv = (0 : BitVec 22)) ∧ st15.partRun (thrOf t0) = none ∧
     (hndPart (BitVec.toNat (st15.sreg (thrOf t0) ↑x16.sa) % 2 ^ 32) = st15.entPart ↑t0.f) ∧
     (st15.owns (st15.entPart ↑t0.f) (hndField (BitVec.toNat (st15.sreg (thrOf t0) ↑x16.sa) % 2 ^ 32)) = true) ∧
     st15.partOf ↑t0.f = some (st15.entPart ↑t0.f) ∧
     ((st15.entry (hndField (BitVec.toNat (st15.sreg (thrOf t0) ↑x16.sa) % 2 ^ 32)) (hndEntry (BitVec.toNat (st15.sreg (thrOf t0) ↑x16.sa) % 2 ^ 32))).gen = hndGen (BitVec.toNat (st15.sreg (thrOf t0) ↑x16.sa) % 2 ^ 32)) ∧
     (hndGen (BitVec.toNat (st15.sreg (thrOf t0) ↑x16.sa) % 2 ^ 32) ≠ 0) ∧
     ((st15.entry (hndField (BitVec.toNat (st15.sreg (thrOf t0) ↑x16.sa) % 2 ^ 32)) (hndEntry (BitVec.toNat (st15.sreg (thrOf t0) ↑x16.sa) % 2 ^ 32))).st ≠ 0) ∧
     x16.f = false ∧ x16.imm.toNat ≤ 255 ∧
     ((st15.entry (hndField (BitVec.toNat (st15.sreg (thrOf t0) ↑x16.sa) % 2 ^ 32)) (hndEntry (BitVec.toNat (st15.sreg (thrOf t0) ↑x16.sa) % 2 ^ 32))).uses < x16.imm.toNat)) ∧
    (Issuable st17 t0 ∧ (x18.rsv = (0 : BitVec 22)) ∧ st17.partRun (thrOf t0) = none ∧
     (hndPart (BitVec.toNat (st17.sreg (thrOf t0) ↑x18.sa) % 2 ^ 32) = st17.entPart ↑t0.f) ∧
     (st17.owns (st17.entPart ↑t0.f) (hndField (BitVec.toNat (st17.sreg (thrOf t0) ↑x18.sa) % 2 ^ 32)) = true) ∧
     st17.partOf ↑t0.f = some (st17.entPart ↑t0.f) ∧
     ((st17.entry (hndField (BitVec.toNat (st17.sreg (thrOf t0) ↑x18.sa) % 2 ^ 32)) (hndEntry (BitVec.toNat (st17.sreg (thrOf t0) ↑x18.sa) % 2 ^ 32))).gen ≠ hndGen (BitVec.toNat (st17.sreg (thrOf t0) ↑x18.sa) % 2 ^ 32)) ∧
     (x18.imm.toNat ≠ 0 ∧ x18.imm.toNat ≤ 255) ∧ x18.f = false) := by
  and_intros <;> decide +kernel

/-- `Obligations.LedgerPolicies`: its hypotheses are met. -/
theorem test_witness_LedgerPolicies :
    (Issuable st19 t0 ∧ (insP.rsv = (0 : BitVec 22)) ∧ insP.f = false ∧ t0.f = 0 ∧ st19.partRun (thrOf t0) = none ∧
     st19.rd LDG_CTL.EN 0 = 0 ∧ (∀ (y : Nat × Entry), y ∈ st19.ledger.entries → y.fst / 65536 = 0 → y.snd.needF = 65535) ∧
     (Option.any (fun d => decide (bits insP.imm.toNat 1 0 < d.lanes)) (st19.group (st19.entPart 0) (bits insP.imm.toNat 5 2)) = true) ∧
     st19.running (st19.entPart 0) = true ∧ st19.calm) ∧
    (st21.running (st21.entPart 0) = true ∧ (List.find? (fun y => decide (y.f = 0)) st21.ledger.invoc = some x22) ∧
     (∀ (m : Move), m ∈ st21.ledger.moves → moveOf 0 x22.n m = false) ∧ ((st21.entry 0 x22.n).st = 2 ∨ (st21.entry 0 x22.n).st = 3) ∧
     bit (st21.clsWord 0 (st21.entry 0 x22.n).cls 0) 11 = false ∧ bits (st21.clsWord 0 (st21.entry 0 x22.n).cls 0) 13 12 = 0) ∧
    (st23.running (st23.entPart 0) = true ∧ (List.find? (fun y => decide (y.f = 0)) st23.ledger.invoc = some x24) ∧
     (∀ (m : Move), m ∈ st23.ledger.moves → moveOf 0 x24.n m = false) ∧ (st23.entry 0 x24.n).st = 1 ∧
     entryDone (st23.entry 0 x24.n) = true ∧ bit (st23.clsWord 0 (st23.entry 0 x24.n).cls 0) 11 = false ∧
     bits (st23.clsWord 0 (st23.entry 0 x24.n).cls 0) 13 12 = 0) ∧
    (wP.running (wP.entPart 0) = true ∧ (List.find? (fun y => decide (y.f = 0)) wP.ledger.invoc = some x25) ∧
     (∀ (m : Move), m ∈ wP.ledger.moves → moveOf 0 x25.n m = false) ∧ ((wP.entry 0 x25.n).st = 2 ∨ (wP.entry 0 x25.n).st = 3) ∧
     bit (wP.clsWord 0 (wP.entry 0 x25.n).cls 0) 11 = true ∧ (wP.entry 0 x25.n).needF = 65535 ∧ 0 ≠ 65535 ∧
     (polRun ((Option.map (Plan.prog) (wP.plan (wP.entPart 0))).getD []) (wP.polInput 0 x25.n x25.reason) (wP.clsWord 0 (wP.entry 0 x25.n).cls) (wP.rd LDG_POL_CTL.STEPS 0) { pc := ↑(bits (wP.clsWord 0 (wP.entry 0 x25.n).cls 0) 10 0), regs := List.replicate 16 (0 : Int), need := none, cnts := [] : Pol } = (PolEnd.decided 0, pr1)) ∧
     (pr1.need = some (0, 0))) ∧
    (st26.running (st26.entPart 0) = true ∧ (st26.reach (Store.get 0 st26.ledger.scanAt 0)).needList 0 = [6] ∧
     ((st26.reach (Store.get 0 st26.ledger.scanAt 0)).ttn 0 6 ≤ (0 : Int)) ∧ (st26.entry 0 6).st = 5 ∧ (st26.entry 0 6).slip = false) := by
  and_intros <;> decide +kernel

/-- `Obligations.LedgerMoves`: its hypotheses are met. -/
theorem test_witness_LedgerMoves :
    (st28.running (st28.entPart 0) = true ∧ st28.waitingMoves 0 = [x29] ∧ x29.f = 0 ∧ x29.n = 6 ∧ 0 < x29.total ∧ x29.total ≤ 252 ∧
     ((x29.kind = MoveKind.spill ∨ x29.kind = MoveKind.emerg) ∨ (x29.kind = MoveKind.slip ∨ x29.kind = MoveKind.input) ∧ (st28.entry 0 6).st = 7)) ∧
    (st32.running (st32.entPart 0) = true ∧ x33.started = true ∧ x33.left = 0 ∧
     (List.find? (fun m => moveOf 0 6 m && (decide (m.kind = MoveKind.spill) || decide (m.kind = MoveKind.emerg))) st32.ledger.moves = some x33) ∧
     (st32.entry 0 6).st = 4 ∧ (st32.entry 0 6).from_ ≠ 3 ∧
     (((List.range (st32.entry 0 6).spages).all fun i => Option.any (fun k => decide ((st32.page k).st = PgSt.sealed)) (st32.spillPg (st32.entPart 0) ((st32.entry 0 6).spage + i))) = true)) ∧
    (st34.running (st34.entPart 0) = true ∧ x35.started = true ∧ x35.left = 0 ∧
     (List.find? (fun m => moveOf 0 6 m && (decide (m.kind = MoveKind.slip) || decide (m.kind = MoveKind.input))) st34.ledger.moves = some x35) ∧
     (st34.entry 0 6).st = 7 ∧ (st34.entry 0 6).lateAt = 0 ∧ x35.codec = false) ∧
    (st36.running (st36.entPart 0) = true ∧ x37.started = true ∧ x37.left = 0 ∧
     (List.find? (fun m => moveOf 0 6 m && decide (m.kind = MoveKind.press)) st36.ledger.moves = some x37) ∧
     st36.rd CMP_CTL.VERIFY (st36.entPart 0) = 1 ∧ (st36.entry 0 6).st = 1) := by
  and_intros <;> decide +kernel

/-- `Obligations.EmergencySpillFollowsMarks`: its hypotheses are met. -/
theorem test_witness_EmergencySpillFollowsMarks :
    (st38.running (st38.entPart 0) = true ∧ st38.rd LDG_T1.USED 0 ≠ st38.ldgUsed 0 ∧ st38.highMark 0 < st38.ldgUsed 0 ∧ st38.lowMark 0 < st38.ldgUsed 0 ∧ st38.ledger.entries = [] ∧
     st38.ldgUsed 0 < 1024 ∧ st38.rd LDG_STAT.EMERG 0 ≠ 1) ∧
    (st39u.rd LDG_T1.USED 0 = st39u.ldgUsed 0) ∧
    (st39.running (st39.entPart 0) = true ∧ st39.rd LDG_T1.USED 0 ≠ st39.ldgUsed 0 ∧ st39.ldgUsed 0 ≤ st39.lowMark 0 ∧
     st39.ldgUsed 0 ≤ st39.highMark 0) := by
  and_intros <;> decide +kernel

/-- `Obligations.SpansRecordAndReplay`: its hypotheses are met. -/
theorem test_witness_SpansRecordAndReplay :
    (Issuable st40 t0 ∧ replayRsv x41 false = false ∧ st40.partRun (thrOf t0) = none ∧ st40.spanThread (thrOf t0) = false ∧
     st40.spanDef (↑t0.f) x41.imm.toNat = some spdw ∧ partFor spdw ↑t0.m = some 0 ∧
     ((spdw.parts.any fun x => decide (x.core = ↑t0.m) && decide (x.pc = (st40.thread (thrOf t0)).pc + 1)) = true) ∧
     (Option.map (fun x => x.snd) (st40.beginPart (thrOf t0) x41.imm.toNat (BitVec.toNat (st40.sreg (thrOf t0) ↑x41.sa) % 2 ^ 32) ↑x41.sd) = some 0)) ∧
    (Issuable st42 t0 ∧ replayRsv x43 false = false ∧ st42.partRun (thrOf t0) = none ∧ st42.spanThread (thrOf t0) = false ∧
     st42.spanDef (↑t0.f) x43.imm.toNat = some spdw ∧ partFor spdw ↑t0.m = some 0 ∧
     ((spdw.parts.any fun x => decide (x.core = ↑t0.m) && decide (x.pc = (st42.thread (thrOf t0)).pc + 1)) = true) ∧
     (st42.beginPart (thrOf t0) x43.imm.toNat (BitVec.toNat (st42.sreg (thrOf t0) ↑x43.sa) % 2 ^ 32) ↑x43.sd = none)) ∧
    (st44.running (st44.entPart 0) = true ∧ (st44.part (st44.entPart 0)).frozen = false ∧ st44.spanDef 0 (st44.slot 0 0).sid = some spdw ∧
     (spanThreads 0 spdw).Nodup ∧ (List.map (fun x => x.part) (st44.slot 0 0).runs = List.range spdw.parts.length) ∧
     st44.gangFree 0 0 = true ∧ spdw.parts.length ≤ 16 ∧ (∀ (x : SpanPart), x ∈ spdw.parts → x.core < 152 ∧ x.thread < 32) ∧
     (st44.slot 0 0).st = 1 ∧ (st44.slot 0 0).going = false ∧ (0 ∈ st44.waitingSlots 0)) ∧
    (st46.running (st46.entPart 0) = true ∧ (st46.part (st46.entPart 0)).frozen = false ∧ st46.spanDef 0 (st46.slot 0 0).sid = some spdw ∧
     (spanThreads 0 spdw).Nodup ∧ (List.map (fun x => x.part) (st46.slot 0 0).runs = List.range spdw.parts.length) ∧
     st46.gangFree 0 0 = true ∧ spdw.parts.length ≤ 16 ∧ (∀ (x : SpanPart), x ∈ spdw.parts → x.core < 152 ∧ x.thread < 32) ∧
     (st46.slot 0 0).st = 2 ∧ (st46.replay.queue = [(0, 0)]) ∧ (st46.slot 0 0).stale = false ∧
     (((st46.slot 0 0).ins.all fun h => st46.inputReady h && !st46.inputGone h) = true) ∧
     (((st46.slot 0 0).outs.any fun h => decide ((st46.entry 0 (hndEntry h)).gen = hndGen h) && decide ((st46.entry 0 (hndEntry h)).st = 8)) = true)) ∧
    (Issuable st48 t0 ∧ replayRsv x49 true = false ∧ (st48.partRun (thrOf t0) = some (0, 0)) ∧
     (∃ r, r ∈ (st48.slot ↑t0.f 0).runs ∧ r.part ≠ 0 ∧ r.ended = false) ∧ ↑x49.sd < 8) ∧
    (Issuable st50 t0 ∧ replayRsv x51 true = false ∧ (st50.partRun (thrOf t0) = some (0, 0)) ∧ (st50.slot ↑t0.f 0).st = 1 ∧
     (st50.slot ↑t0.f 0).runs = [run0] ∧ run0.part = 0 ∧ run0.thr ≠ thrOf t0 ∧ run0.sd ≠ 0 ∧ run0.sd < 32 ∧ st50.sync.parks = [pk0] ∧
     pk0.who = Who.thread run0.thr ∧ pk0.tgt = Target.slot ↑t0.f 0 ∧ (st50.thread run0.thr).st = ThrSt.parked ∧ st50.owed run0.thr = []) := by
  and_intros <;> decide +kernel

end Tests.Ledger

namespace Tests.Repository

def wR (vols : List (Nat × Vol)) : State := put [(PAR_FD_OWN.VALID0,0,1)] { w0 with repo := { w0.repo with vols := vols, segPages := [(0, 64)], segCount := [(0, 100)] } }
def cr : BitVec 8 := 3
def rp (g : RepoU → RepoU) (s : State) : State := { s with repo := g s.repo }
def v2 : Vol := ⟨2, 15, 30, 30, false, 1, false⟩
def r1 : State := rp (fun r => {r with map := [(12*131072+0, 8), (131072*7+5, 4)], segs := [(12*131072+7, ⟨1, 3, 20⟩), (131072*7+3, ⟨1,4,9⟩)]}) (wR [(9, v2)])
def st1 : State := (put [(REPO_CH.STATE,12,2),(REPO_CH.STATE,9,1)] r1)
def st2 : State := (put [(REPO_CTL.PATROL_EN,0,1),(REPO_CH.STATE,3,3)] r1)
def st3 : State := (put [(REPO_CTL.PATROL_EN,0,1),(REPO_CH.STATE,3,3)] r1)
def st4 : State := (rp (fun r => {r with queue := [(1,2),(7,5)]}) r1)
def st5 : State := (rp (fun r => {r with segs := [(131072*7+5, ⟨2,4,9⟩)]}) r1)
def st6 : State := (put [(REPO_CH.STATE,7,1)] (rp (fun r => {r with chans := [(7, ⟨[], 60, true⟩)]}) r1))
def wv (v : Vol) (a b : Nat) : State := put [(REPO_OPEN.BASE,0,a),(REPO_OPEN.LEN,0,b)] (wR [(9, v)])
def st7 : State := (put [(REPO_OPEN.BASE,0,60),(REPO_OPEN.LEN,0,30)] (wR [(8, v2)]))
def st8 : State := (wv {v2 with st := 1} 0 0)
def st9 : State := (wv {v2 with st := 2} 0 0)
def st10 : State := (wv {v2 with st := 4} 0 0)
def st11 : State := (wv {v2 with st := 3} 0 0)
def st12 : State := (rp (fun r => {r with cmd := [(0, 16*5+1+1)]}) (wv {v2 with st := 1, closing := true} 0 0))
def y0 : LoadRun := ⟨0, 2, 1, 5, 0, 0⟩
def K : Nat := pageKey 2 0 33
def pg (st : PgSt) : Page := ⟨st, 2, 0, 2, 0, .engine 1, 0, 5, 0, false, false⟩
def goodHdr : Nat := hdrWord { hdrOf 0 with flags := 0 } 0
def wld (l : List LoadRun) (g : Bool) : State := let s := rp (fun r => {r with runs := l}) (wv {v2 with st := 1, loaded := 3} 0 0)
  let s := pages [(K, pg .sealed)] [(dirKey 0 2, ⟨some K, none, none, none, 6⟩)] s
  if g then { s with mem := { s.mem with hdrs := (List.range 4).map fun t => (tileKey K t, goodHdr) } } else s
def st13 : State := (wld [] true)
def x14 : Vol := {v2 with st := 1, loaded := 3}
def st15 : State := (wld [] true)
def x16 : Vol := {v2 with st := 1, loaded := 3}
def st17 : State := (put [(REPO_LOAD_STAT.SEQ,0,5)] (wld [y0] true))
def x18 : Vol := {v2 with st := 1, loaded := 3}
def st19 : State := (put [(REPO_LOAD_STAT.SEQ,0,5)] (wld [y0] false))
def x20 : Vol := {v2 with st := 1, loaded := 3}

/-- `Obligations.FlashChannelsAndSegments`: its hypotheses are met. -/
theorem test_witness_FlashChannelsAndSegments :
    ((r1.volOf 0 20 = some (9, v2)) ∧ (v2.st = 2 ∨ v2.st = 3) ∧ r1.chanBad (r1.flashPlace 0 20 1).fst = false ∧
     (r1.segOf (r1.flashPlace 0 20 1).fst ((r1.flashPlace 0 20 1).snd / r1.segSize (r1.flashPlace 0 20 1).fst) = some 7) ∧
     ((r1.seg (r1.flashPlace 0 20 1).fst 7).reads + 1 < r1.rd REPO_RD.DISTURB 0 * 1000) ∧ cr.toNat < r1.rd REPO_RD.ECC_MARK 0 ∧
     r1.rd REPO_CH.STATE 7 = 0 ∧ (r1.chan 7).suspect = 0) ∧
    ((st1.volOf 0 20 = some (9, v2)) ∧ st1.chanBad (st1.flashPlace 0 20 1).fst = true ∧ st1.noRebuild (st1.flashPlace 0 20 1).fst = true) ∧
    (st2.rd REPO_CTL.PATROL_EN 0 = 1 ∧ st2.chanBad 7 = false ∧ st2.segOf 7 5 = some 3 ∧ st2.rd REPO_RD.ECC_MARK 0 ≤ 255) ∧
    (st3.rd REPO_CH.STATE 3 = 3) ∧
    ((st4.repo.queue.contains (7, 5) = true) ∧ st4.rd REPO_CH.STATE 7 ≠ 2 ∧ st4.segOf 7 5 = some 3 ∧ st4.freeSeg 7 = some 0 ∧ 3 ≠ 0) ∧
    ((st5.seg 7 5).st = 2) ∧
    (st6.rd REPO_CH.STATE 7 = 1 ∧ (st6.chan 7).reset = true) := by
  and_intros <;> decide +kernel

/-- `Obligations.VolumesOpenCloseAndFree`: its hypotheses are met. -/
theorem test_witness_VolumesOpenCloseAndFree :
    (Ordered st7 hA 0 0 0 (repoSrc 0) 5 ∧ (st7.vol 0 9).st = 0 ∧
     (∀ (e : Nat × Vol), e ∈ st7.repo.vols → e.fst / 256 = 0 → e.snd.st ≠ 0 → e.snd.st ≠ 1 ∧ (st7.rd REPO_OPEN.BASE 0 + st7.rd REPO_OPEN.LEN 0 ≤ e.snd.base ∨ e.snd.base + e.snd.len ≤ st7.rd REPO_OPEN.BASE 0)) ∧
     (st7.rd REPO_OPEN.BASE 0 + st7.rd REPO_OPEN.LEN 0 ≤ (st7.shareDies 0).length * 335544320) ∧ st7.rd REPO_OPEN.LEN 0 ≠ 0 ∧
     (st7.rd REPO_OPEN.BASE 0 % (15 * (st7.shareDies 0).length) = 0) ∧ (st7.rd REPO_OPEN.LEN 0 % (15 * (st7.shareDies 0).length) = 0) ∧
     (st7.vol 0 9).st ≠ 1 ∧ (st7.vol 0 9).st ≠ 2 ∧ (st7.vol 0 9).st ≠ 4) ∧
    (Ordered st8 hA 0 0 0 (repoSrc 0) 5 ∧ (st8.vol 0 9).st = 1 ∧ (st8.vol 0 9).closing = false ∧
     (∀ (y : LoadRun), y ∈ st8.repo.runs → y.part ≠ 0) ∧ (st8.vol 0 9).st ≠ 0) ∧
    (Ordered st9 hA 0 0 0 (repoSrc 0) 5 ∧ (st9.vol 0 9).st = 2) ∧
    (Ordered st10 hA 0 0 0 (repoSrc 0) 5 ∧ (st10.vol 0 9).st = 4) ∧
    ((st11.vol 0 9).st = 3 ∧ st11.readingT3 0 (st11.vol 0 9).base (st11.vol 0 9).len = false) ∧
    ((st12.vol 0 9).st = 1 ∧ (st12.vol 0 9).closing = true ∧ (∀ (y : LoadRun), y ∈ st12.repo.runs → y.part ≠ 0) ∧
     (st12.vol 0 9).loaded = (st12.vol 0 9).len ∧ (Store.get 0 st12.repo.cmd 0 = 16 * 5 + 1 + 1)) := by
  and_intros <;> decide +kernel

/-- `Obligations.LoadingWindows`: its hypotheses are met. -/
theorem test_witness_LoadingWindows :
    ((st13.loading 0 = some (9, x14)) ∧ Ordered st13 hA 0 0 0 (loadSrc 0) 5 ∧ 4 ≠ 0 ∧ (st13.pst 0 = stAdmitted ∨ st13.pst 0 = stRunning) ∧
     x14.closing = false ∧
     (x14.loaded + (List.map (LoadRun.count) (List.filter (fun y => decide (y.part = 0)) st13.repo.runs)).sum + 4 ≤ x14.len)) ∧
    ((st15.loading 0 = some (9, x16)) ∧ Ordered st15 hA 0 0 0 (loadSrc 0) 5 ∧ 40 ≠ 0 ∧ (st15.pst 0 = stAdmitted ∨ st15.pst 0 = stRunning) ∧
     x16.closing = false ∧
     (x16.len < x16.loaded + (List.map (LoadRun.count) (List.filter (fun y => decide (y.part = 0)) st15.repo.runs)).sum + 40)) ∧
    ((st17.loading 0 = some (9, x18)) ∧ (List.find? (fun y => decide (y.part = 0)) st17.repo.runs = some y0) ∧ y0.count = 1 ∧
     y0.seq < 65536 ∧ st17.rd REPO_LOAD_STAT.SEQ 0 = y0.seq ∧ Memory.wf st17.mem = true ∧ st17.loadable 0 y0.src = some K) ∧
    ((st19.loading 0 = some (9, x20)) ∧ (List.find? (fun y => decide (y.part = 0)) st19.repo.runs = some y0) ∧ y0.count = 1 ∧
     y0.seq < 65536 ∧ st19.rd REPO_LOAD_STAT.SEQ 0 = y0.seq ∧ st19.loadable 0 y0.src = none) := by
  and_intros <;> decide +kernel

end Tests.Repository

namespace Tests.Links

def dev0 : DevSect := ⟨[0], [], [], [], 0, 7, 1, 0, [], List.replicate 8 ⟨some (2, 3), true, 1⟩, [(2, [3, 4])], [], []⟩
def lp (n : Nat) (v : LPort) (s : State) : State := { s with tjl := { s.tjl with ports := [(n, v)] } }
def dv (s : State) : State := { s with parts := { s.parts with dev := some dev0 } }
def ps (l : List (Nat × Nat)) (s : State) : State := put (l.map fun x => (TJL_PORT.STATE, x.1, x.2)) s
def wT (n : Nat) : State := put [(TJL_CLUSTER.ID,0,7)] (ps [(3,n)] (dv w0))
def r0 : PortRec := ⟨some (2,3), true, 1⟩
def st1 : State := (wT 1)
def x2 : Nat × Nat := (0xFFFF,0)
def st4 : State := (wT 1)
def x5 : Nat × Nat := (0xFF00,1)
def st7 : State := (wT 0)
def fr (n : Nat) : LFrame := ⟨n, 2, 2, 0, 1, 2, 0, 0, [77]⟩
def st10 : State := (lp 3 {lport0 with replay := [fr 1, fr 2], tries := 2, since := 30, next := 3} (wT 2))
def st13 : State := (lp 3 {lport0 with replay := [fr 1, fr 2], tries := 2, since := 30, next := 3} (wT 3))
def x14 : Nat × Nat := (0xFF00,1)
def tie1 : Tie := ⟨5, 2, 0, 0, 4, 0⟩
def t1 (st : Nat) : TieOut := { tieOut0 with part := 0, st := st, port := 4, acc := 2*tileImage, landed := 0, tiles := [⟨0,0,false,[1]⟩, ⟨tileImage,1,false,[2]⟩] }
def ti (v : TieOut) (s : State) : State := { s with tjl := { s.tjl with ties := [(5, v)] } }
def secT : Section := { sec with links := ⟨[tie1], [⟨2,1,9,100,16⟩], [], []⟩ }
def secT2 : Section := { sec with links := ⟨[tie1], [], [], []⟩ }
def st16 : State := (secd secT2 (ti (t1 1) (lp 3 {lport0 with replay := [fr 1, fr 2], tries := 2, since := 30, next := 3} (wT 3))))
def x18 : TieOut := (t1 1)
def st19 : State := (secd secT2 (ti (t1 1) (lp 3 {lport0 with lost := true} (wT 1))))
def x21 : TieOut := (t1 1)
def hd (epoch lseq ack kind dst : Nat) : BitVec 256 := BitVec.ofNat 256 (epoch*2^240 + ack*2^160 + lseq*2^144 + dst*2^118 + kind + 2^104)
def wF : State := put [(TJL_ID.WAFER,0,1)] (lp 3 {lport0 with replay := [fr 1, fr 2, fr 3], tries := 2, since := 30, next := 4, expect := 9, inEpoch := 257} (wT 2))
def x22 : BitVec 256 := (hd 1 9 0 2 1)
def x26 : BitVec 256 := (hd 1 8 0 2 1)
def x30 : BitVec 256 := (hd 1 12 2 0 1)
def x31 : LFrame := (fr 2)
def x32 : BitVec 256 := (hd 2 12 2 0 1)
def st34 : State := (lp 3 {lport0 with replay := [fr 1, fr 2, fr 3], tries := 200, since := 30, next := 4, expect := 9, inEpoch := 257} wF)
def imp (k : Nat) (v : TieIn) (s : State) : State := { s with tjl := { s.tjl with imps := [(k, v)] } }
def secI : Section := { secT with pagedirs := [(0, { pdir with ranges := pdir.ranges })] }
def wI (v : TieIn) : State := secd secI (imp (impKey 2 9) v (wT 2))
def dhd (off tix len sl tie : Nat) : BitVec 128 := BitVec.ofNat 128 (off*2^64 + sl*2^63 + len*2^53 + tix*2^12 + tie)
def i0 : Import := ⟨2,1,9,100,16⟩
def vpart : TieIn := { tieIn0 with landed := 3*tileImage, bytes := List.replicate 15872 1 }
def pkt0 (sseq ac ref val : Nat) : BitVec 256 := BitVec.ofNat 256 (2*2^243 + 1*2^236 + 0*2^234 + 9*2^222 + sseq*2^160 + ref*2^192 + val*2^128 + ac*2^64)
def K : Nat := pageKey 2 4 33
def opn (s : State) : State := pages [(K, ⟨.opened, 2, 0, 100, 0, .link (impKey 2 9), 0, 0, 0, false, false⟩)] [(dirKey 0 100, ⟨some K, none, none, none, 0⟩)] s
def st37 : State := (wI vpart)
def x38 : BitVec 128 := (dhd (3*tileImage+15872) 0 576 0 10)
def st41 : State := (wI vpart)
def x42 : BitVec 128 := (dhd (2*tileImage) 0 576 0 9)
def x43 : List (BitVec 8) := (List.replicate 576 5)
def st45 : State := (wI { vpart with bytes := List.replicate 576 1 })
def x46 : BitVec 128 := (dhd (3*tileImage+576) 0 576 0 9)
def x47 : List (BitVec 8) := (List.replicate 576 5)
def x48 : BitVec 256 := (pkt0 5 (9*tileImage) 0 0)
def wO : State := opn (wI vpart)
def mO : State := (wO.setImp (impKey 2 9) { vpart with port := 4 })
def x49 : BitVec 128 := (dhd (3*tileImage+15872) 0 576 0 9)
def x50 : List (BitVec 8) := (List.replicate 576 5)
def st52 : State := (stp 2 (wI { vpart with seen := [5] }))
def x53 : BitVec 128 := (dhd (3*tileImage+15872) 0 576 0 9)
def st56 : State := ((wI { vpart with seen := [5] }))
def x59 : BitVec 256 := (pkt0 5 0 0 0)
def wsg : State := obj (poolKey 0) 9 (let s := wI vpart; { s with sync := { s.sync with blocks := [(0,1)] } })
def x62 : BitVec 256 := (pkt0 5 0 (3*2^22) 6)
def x63 : Nat := (poolKey 0)
def sigIn (x : BitVec 256) : XSig := ⟨bits x.toNat 191 160, 0, none, bits x.toNat 215 192, if bit x.toNat 220 = true then 2 else 0, bits x.toNat 159 128, bits x.toNat 127 64, bits x.toNat 63 58, bits x.toNat 57 50, bits x.toNat 49 44, bit x.toNat 221, 0⟩
def ysig : XSig := ⟨7,1,none,0,0,0,0,0,0,0,false,4⟩
def st64 : State := (owe 0 (secd secT (ti { t1 3 with outst := [ysig] } (wT 2))))
def st67 : State := (opn (secd secT (imp (impKey 2 9) vpart (wT 2))))
def st70 : State := (secd secT (ti { t1 5 with outst := [ysig] } (wT 0)))
def st73 : State := (put [(TJL_PSTAT.HALT,0,1)] (wT 2))
def tr0 : BarTree := ⟨3, some 3, [4, 5]⟩
def trl : BarTree := ⟨3, some 3, []⟩
def bd0 : BarDef := ⟨3, 0, 1, 1, 1, false⟩
def wB (t : BarTree) : State := secd { sec with links := ⟨[],[],[],[t]⟩ } (wT 2)
def st79 : State := (wB tr0)
def st80 : State := (wB tr0)
def st81 : State := (wB trl)
def st82 : State := (put [(SYS_TB_STAT.FOLLOW,0,1)] (wB trl))
def st83 : State := (let s := (put [(SYS_TB_STAT.FOLLOW,0,1)] (wB trl)); {s with tjl := {s.tjl with exch := 5, t1 := 900, first := true}})
def st84 : State := (let s := (put [(SYS_TB_STAT.FOLLOW,0,1)] (ps [(3,1)] (wB trl))); {s with tjl := {s.tjl with exch := 5, t1 := 900, first := true}})

/-- `Obligations.LinkPortsTrainAndFail`: its hypotheses are met. -/
theorem test_witness_LinkPortsTrainAndFail :
    (st1.portSt 3 = 1 ∧ st1.rd SEC_STAT.ERROR 0 ≠ 1 ∧ st1.portRec 3 = some r0 ∧ laneGroup 65535 = some x2 ∧ (r0.peer = some (2, 3)) ∧
     7 = st1.rd TJL_CLUSTER.ID 0 ∧ (st1.lport 3).lost = false ∧ (st1.tjl.ties = [] ∧ (st1.lport 3).wait = [])) ∧
    (st4.portSt 3 = 1 ∧ st4.rd SEC_STAT.ERROR 0 ≠ 1 ∧ st4.portRec 3 = some r0 ∧ laneGroup 65280 = some x5 ∧
     (r0.peer ≠ some (2, 4) ∨ 7 ≠ st4.rd TJL_CLUSTER.ID 0)) ∧
    ((st7.portSt 3 = 0 ∨ st7.portSt 3 = 4) ∧ (Store.get false st7.wafer.edges (18 + 3) = false) ∧ st7.portRec 3 = some r0 ∧
     r0.peer.isSome = true) ∧
    (st10.portSt 3 = 2 ∧ (st10.lport 3).replay ≠ [] ∧ (st10.lport 3).tries < st10.rd TJL_BUDGET.RETRIES 0) ∧
    (st13.portSt 3 = 3 ∧ laneGroup 65280 = some x14 ∧ (st13.tjl.ties = [] ∧ (st13.lport 3).wait = []) ∧
     (∀ (q : Nat), q < 4 → st13.treesOf q = []) ∧ st13.tjl.ties = [] ∧ (∀ (q : Nat), q < 4 → st13.usesPort q 3 = false)) ∧
    (st16.portSt 3 = 3 ∧ (∀ (q : Nat), q < 4 → st16.treesOf q = []) ∧ (st16.tjl.ties = [(5, x18)]) ∧ (x18.port = 3 + 1) ∧ x18.st = 1 ∧
     x18.part = 0 ∧ x18.outst = [] ∧ st16.tieDecl 5 = some tie1 ∧ st16.importsOf 0 = [] ∧
     (∀ (m : Nat), m ∈ List.drop 1 (st16.route tie1.wafer) → m = 3 ∨ st16.portSt m ≠ 2)) ∧
    (st19.portSt 3 = 1 ∧ (st19.lport 3).lost = true ∧ (st19.lport 3).wait = [] ∧ (st19.tjl.ties = [(5, x21)]) ∧ x21.st = 1) := by
  and_intros <;> decide +kernel

/-- `Obligations.LinkFramesAreAcknowledged`: its hypotheses are met. -/
theorem test_witness_LinkFramesAreAcknowledged :
    (wF.portSt 3 = 2 ∧ (wF.lport 3).wait = [] ∧ (bits x22.toNat 247 240 = (wF.lport 3).inEpoch % 256) ∧ bit x22.toNat 191 = false ∧
     (∀ (z : LFrame), z ∈ (wF.lport 3).replay → z.lseq ≠ bits x22.toNat 175 160) ∧ (bits x22.toNat 7 0 = 1 ∨ bits x22.toNat 7 0 = 2) ∧
     bits x22.toNat 159 144 = (wF.lport 3).expect ∧ bits x22.toNat 122 118 = wF.waferNo ∧ (wF.lport 3).tries < wF.rd TJL_BUDGET.RETRIES 0) ∧
    (wF.portSt 3 = 2 ∧ (wF.lport 3).wait = [] ∧ (bits x26.toNat 247 240 = (wF.lport 3).inEpoch % 256) ∧ bit x26.toNat 191 = false ∧
     (∀ (z : LFrame), z ∈ (wF.lport 3).replay → z.lseq ≠ bits x26.toNat 175 160) ∧ (bits x26.toNat 7 0 = 1 ∨ bits x26.toNat 7 0 = 2) ∧
     (64512 ≤ (bits x26.toNat 159 144 + 65536 - (wF.lport 3).expect) % 65536 ∨ 0 < (bits x26.toNat 159 144 + 65536 - (wF.lport 3).expect) % 65536 ∧ (bits x26.toNat 159 144 + 65536 - (wF.lport 3).expect) % 65536 < 32768)) ∧
    (wF.portSt 3 = 2 ∧ (wF.lport 3).wait = [] ∧ (bits x30.toNat 247 240 = (wF.lport 3).inEpoch % 256) ∧ bit x30.toNat 191 = false ∧
     bits x30.toNat 7 0 = 0 ∧ ((wF.lport 3).replay = [fr 1] ++ [x31, fr 3]) ∧ x31.lseq = bits x30.toNat 175 160 ∧
     (∀ (z : LFrame), z ∈ [fr 1] → z.lseq ≠ x31.lseq)) ∧
    (wF.portSt 3 = 2 ∧ (wF.lport 3).wait = [] ∧ (bits x32.toNat 247 240 ≠ (wF.lport 3).inEpoch % 256)) ∧
    (st34.portSt 3 = 2 ∧ (st34.lport 3).wait = [] ∧ st34.rd TJL_BUDGET.RETRIES 0 ≤ (st34.lport 3).tries) := by
  and_intros <;> decide +kernel

/-- `Obligations.TiesCarryTilesAndSignals`: its hypotheses are met. -/
theorem test_witness_TiesCarryTilesAndSignals :
    (st37.checkTie 2 1 0 (bits x38.toNat 11 0) = none) ∧
    (st41.checkTie 2 1 0 (bits x42.toNat 11 0) = some i0 ∧ bits x42.toNat 37 12 < i0.tiles ∧ st41.running 0 = true ∧
     (bits x42.toNat 127 64 + (List.take (bits x42.toNat 62 53) (List.map BitVec.toNat x43)).length ≤ (st41.imp (impKey 2 (bits x42.toNat 11 0))).landed)) ∧
    (st45.checkTie 2 1 0 (bits x46.toNat 11 0) = some i0 ∧ bits x46.toNat 37 12 < i0.tiles ∧ st45.running 0 = true ∧
     (bits x46.toNat 127 64 = (st45.imp (impKey 2 (bits x46.toNat 11 0))).landed + (st45.imp (impKey 2 (bits x46.toNat 11 0))).bytes.length) ∧
     List.take (bits x46.toNat 62 53) (List.map BitVec.toNat x47) ≠ [] ∧
     ((st45.imp (impKey 2 (bits x46.toNat 11 0))).bytes.length + (List.take (bits x46.toNat 62 53) (List.map BitVec.toNat x47)).length < tileImage) ∧
     st45.checkTie (bits x48.toNat 247 243) (bits x48.toNat 237 236) (bits x48.toNat 235 234) (bits x48.toNat 233 222) = some i0 ∧
     st45.running (bits x48.toNat 235 234) = true ∧ (st45.imp (impKey (bits x48.toNat 247 243) (bits x48.toNat 233 222))).held = [] ∧
     (st45.imp (impKey (bits x48.toNat 247 243) (bits x48.toNat 233 222))).seen = [] ∧
     (st45.imp (impKey (bits x48.toNat 247 243) (bits x48.toNat 233 222))).landed < (sigIn x48).ac) ∧
    (wO.checkTie 2 1 0 (bits x49.toNat 11 0) = some i0 ∧ bits x49.toNat 37 12 < i0.tiles ∧ wO.running 0 = true ∧
     (bits x49.toNat 127 64 = (wO.imp (impKey 2 (bits x49.toNat 11 0))).landed + (wO.imp (impKey 2 (bits x49.toNat 11 0))).bytes.length) ∧
     List.take (bits x49.toNat 62 53) (List.map BitVec.toNat x50) ≠ [] ∧
     ((wO.imp (impKey 2 (bits x49.toNat 11 0))).bytes.length + (List.take (bits x49.toNat 62 53) (List.map BitVec.toNat x50)).length = tileImage) ∧
     (wO.imp (impKey 2 (bits x49.toNat 11 0))).held = [] ∧ bit x49.toNat 63 = false ∧
     ((wO.setImp (impKey 2 (bits x49.toNat 11 0)) { (wO.imp (impKey 2 (bits x49.toNat 11 0))) with port := 3 + 1 }).writeImport 0 (impKey 2 (bits x49.toNat 11 0)) (i0.tbase + bits x49.toNat 37 12 / 4) = Wr.page mO K) ∧
     (mO.page K).st = PgSt.opened) ∧
    (st52.running 0 = false ∧ st52.checkTie 2 1 0 (bits x53.toNat 11 0) = some i0 ∧ bits x53.toNat 37 12 < i0.tiles) ∧
    (st56.checkTie (bits x59.toNat 247 243) (bits x59.toNat 237 236) (bits x59.toNat 235 234) (bits x59.toNat 233 222) = some i0 ∧
     st56.running (bits x59.toNat 235 234) = true ∧ (st56.imp (impKey (bits x59.toNat 247 243) (bits x59.toNat 233 222))).held = [] ∧
     (bits x59.toNat 191 160 ∈ (st56.imp (impKey (bits x59.toNat 247 243) (bits x59.toNat 233 222))).seen)) ∧
    (wsg.checkTie (bits x62.toNat 247 243) (bits x62.toNat 237 236) (bits x62.toNat 235 234) (bits x62.toNat 233 222) = some i0 ∧
     wsg.running (bits x62.toNat 235 234) = true ∧ (wsg.imp (impKey (bits x62.toNat 247 243) (bits x62.toNat 233 222))).held = [] ∧
     (wsg.imp (impKey (bits x62.toNat 247 243) (bits x62.toNat 233 222))).seen = [] ∧
     (sigIn x62).ac ≤ (wsg.imp (impKey (bits x62.toNat 247 243) (bits x62.toNat 233 222))).landed ∧
     (wsg.resolve { part := bits x62.toNat 235 234, field := impKey (bits x62.toNat 247 243) (bits x62.toNat 233 222) / 4096, core := impKey (bits x62.toNat 247 243) (bits x62.toNat 233 222) % 256, unit := 52, own := false : Source } (sigIn x62).target false = Named.obj x63) ∧
     wsg.exportOf x63 = none ∧ wsg.objHeld x63 = false ∧ (wsg.obj x63).live = true ∧ (wsg.obj x63).broken = false ∧
     (∀ (pk : Park), pk ∈ wsg.sync.parks → pk.tgt ≠ Target.obj x63) ∧ ((wsg.obj x63).count + (sigIn x62).value ≤ countMax)) ∧
    ((List.find? (fun x => decide (x.sseq = 7)) (st64.tie 5).outst = some ysig) ∧ ysig.bell = none ∧ (ysig.owner = 0 + 1) ∧
     st64.owed 0 = [none] ∧ (st64.tie 5).st ≠ 1 ∧ (st64.tie 5).st ≠ 2 ∧ (st64.tie 5).st ≠ 0 ∧
     (BitVec.ofNat 64 tileImage).toNat ≤ (st64.tie 5).acc ∧ (st64.tie 5).home = false ∧ st64.tieDecl 5 = some tie1 ∧ tie1.wafer = 2 ∧
     (st64.tie 5).part < 4) ∧
    ((st67.importOf 2 9 = some (0, i0))) ∧
    ((st70.tie 5).st = 5 ∧ (st70.tie 5).part = 0) ∧
    (Ordered st73 hA 0 0 0 (tjlSrc 0) 66 ∧ st73.tjl.ties = [] ∧ st73.importsOf 0 = []) := by
  and_intros <;> first | decide +kernel | (rfl)

/-- `Obligations.BarriersAndTimeAcrossWafers`: its hypotheses are met. -/
theorem test_witness_BarriersAndTimeAcrossWafers :
    (st79.tree 0 3 = some tr0 ∧ tr0.children.contains 4 = true ∧ 1 = ((st79.bar 0 3).gen + 1) % 65536 ∧
     2 ≠ ((st79.bar 0 3).gen + 1) % 65536 ∧ st79.rd SYS_TB_STAT.FOLLOW 0 = 0) ∧
    (st80.tree 0 3 = some tr0 ∧ tr0.children.contains 3 = false ∧ st80.portSt 3 = 2 ∧ (st80.lport 3).wait = [] ∧
     (st80.lport 3).replay.length < 1024 ∧ 0 < (st80.lport 3).cred.getD 2 0) ∧
    (st81.tree 0 3 = some trl ∧ st81.barDef 0 3 = some bd0 ∧ bd0.num = 3 ∧ trl.parent = some 3 ∧ trl.children = [] ∧
     (1 = ((st81.bar 0 3).gen + 1) % 65536) ∧ st81.sync.parks = []) ∧
    (st82.tree 0 4 = none) ∧
    (st83.rd SYS_TB_STAT.FOLLOW 0 ≠ 0 ∧ 5 = st83.tjl.exch ∧ 900 = st83.tjl.t1 ∧ st83.timePort = some 3) ∧
    (st84.rd SYS_TB_STAT.FOLLOW 0 ≠ 0 ∧ st84.timePort = none) := by
  and_intros <;> decide +kernel

end Tests.Links

namespace Tests.Hosts

def K : Nat := pageKey 2 0 33
def pgw (st : PgSt) (w : Writer) : Page := ⟨st, 2, 0, 2, 0, w, 0, 5, 0, false, false⟩
def hs (g : HostU → HostU) (s : State) : State := { s with hosts := g s.hosts }
def wH (st : Nat) : State := put [(HPT_PORT.STATE,0,st),(HPT_PORT.STATE,1,2)] (pages [(K, pgw .opened (.port 0))] [] (hs (fun h => {h with sems := [(0, ⟨1,1,5,false⟩),(7,⟨2,3,5,false⟩)]}) w0))
def st1 : State := (wH 2)
def st2 : State := (hs (fun h => {h with down := [(0, 501)]}) (wH 2))
def st3 : State := (put [(HPT_PORT.PERST,0,1)] (wH 3))
def st4 : State := ((wH 3))
def st5 : State := (hs (fun h => {h with ready := [(0, true)]}) (wH 2))
def wG (st : PgSt) (w : Writer) : State := put [(HPT_STG_CFG.BASE,0,100),(HPT_STG_CFG.PAGES,0,16)] ((pages [(K, pgw st w)] [(dirKey 0 103, ⟨some K, none, none, none, 0⟩)] w0).setWord (tileWord (tileKey K 0) 3) ⟨0x1122334455667788, true, false⟩)
def bs : List (Option (BitVec 8)) := [some 1, none, some 3]
def st6 : State := (wG .opened (.port 0))
def x7 : BitVec 36 := (3*65536+22)
def st8 : State := (wG .opened (.port 1))
def x9 : BitVec 36 := (3*65536+22)
def st10 : State := (wG .sealed (.port 0))
def x11 : BitVec 36 := (3*65536+22)
def wE (h : Nat) (s : State): State := hs (fun g => {g with sems := [(1, ⟨h,1,5,false⟩),(7,⟨2,3,5,false⟩)]}) s
def st12 : State := (wE 0 w0)
def st13 : State := (wE 1 w0)
def st14 : State := (wE 1 (wH 2))
def st15 : State := (wE 2 w0)
def du (s : State) : State := hs (fun g => {g with last := [(semSrc 0 1, 10)], semReq := [(1, ⟨9,false,0⟩)]}) s
def st16 : State := (du (wE 2 w0))
def st17 : State := (put [(PAR_STATE.STATE,1,4)] (wE 2 w0))
def st18 : State := (put [(SEC_DBG_STAT.FAILS,0,7),(SEC_DBG_STAT.UNLOCKED,0,1),(DBG_TR_STAT.ACTIVE,0,1)] w0)
def st19 : State := (put [(SEC_DBG_STAT.LOCKOUT,0,1)] w0)
def wz : State := wG .opened (.port 0)
def ar (o : Option (Nat × Nat)) (s : State) : State := { s with sec := { s.sec with arm := o } }
def st20 : State := (ar (some (0, 500)) wz)
def st21 : State := (ar (some (0, 500)) { wz with now := 3000000})
def st22 : State := (put [(SEC_TAMP_EN.PIN,0,0),(SEC_TAMP_EN.VOLT,0,0),(SEC_TAMP_EN.TEMP,0,0)] wz)
def st24 : State := (wG .opened (.port 0))
def st26 : State := (wG .sealed (.port 0))

/-- `Obligations.HostPortsFailAndReturn`: its hypotheses are met. -/
theorem test_witness_HostPortsFailAndReturn :
    (st1.rd HPT_PORT.STATE 0 ≠ 3 ∧ st1.rd HPT_PORT.PERST 0 ≠ 1 ∧ st1.rd HPT_PORT.STATE 0 = 2 ∧ Store.get false st1.hosts.ready 0 = false) ∧
    (st2.rd HPT_PORT.STATE 0 ≠ 3 ∧ (Store.get 0 st2.hosts.down 0 = 500 + 1) ∧ Store.get 0 st2.hosts.down 0 ≠ 0) ∧
    (st3.rd HPT_PORT.PERST 0 = 1) ∧
    ((st4.rd HPT_PORT.STATE 0 = 1 ∨ st4.rd HPT_PORT.STATE 0 = 3) ∧ st4.edgeDead 0 = false ∧ st4.rd HPT_PORT.PERST 0 ≠ 1 ∧
     (8 ∈ [1, 2, 4, 8, 16])) ∧
    (st5.rd HPT_PORT.STATE 0 = 2 ∧ Store.get false st5.hosts.ready 0 = true) := by
  and_intros <;> decide +kernel

/-- `Obligations.StagingWindowAccesses`: its hypotheses are met. -/
theorem test_witness_StagingWindowAccesses :
    (st6.fnOn 0 1 = true ∧ (1 = 0 → st6.rd SEC_CTL.PF0_DATA 0 ≠ 0) ∧ (st6.stgPage 1 x7.toNat = (0, some 3)) ∧ st6.open_ 0 = true ∧
     ((st6.dir 0 (st6.rd HPT_STG_CFG.BASE 0 + 3)).cur = some K) ∧ (st6.page K).st = PgSt.opened ∧ (st6.page K).writer = Writer.port 0 ∧
     (bs.length ≤ 65536 - x7.toNat % 65536)) ∧
    (st8.fnOn 0 1 = true ∧ (1 = 0 → st8.rd SEC_CTL.PF0_DATA 0 ≠ 0) ∧ (st8.stgPage 1 x9.toNat = (0, some 3)) ∧ st8.open_ 0 = true ∧
     ((st8.dir 0 (st8.rd HPT_STG_CFG.BASE 0 + 3)).cur = some K) ∧ (st8.page K).st = PgSt.opened ∧ (st8.page K).writer ≠ Writer.port 0) ∧
    (st10.fnOn 0 1 = true ∧ (1 = 0 → st10.rd SEC_CTL.PF0_DATA 0 ≠ 0) ∧ (st10.stgPage 1 x11.toNat = (0, some 3)) ∧ st10.open_ 0 = true ∧
     ((st10.dir 0 (st10.rd HPT_STG_CFG.BASE 0 + 3)).cur = some K) ∧ (st10.page K).st = PgSt.sealed ∧
     (∀ (t : Nat), t < 4 → st10.poisoned (tileKey K t) = false)) ∧
    ((st24.hostOn (Req.host 0 (1 : Fin 5)) 0 = some (0, 1)) ∧ 1 = 1 ∧ 3 < st24.rd HPT_STG_CFG.PAGES 0 ∧
     ((st24.dir 0 (st24.rd HPT_STG_CFG.BASE 0 + 3)).cur = some K) ∧ (st24.page K).writer = Writer.port 0 ∧
     st24.dupSeq (sealSrc 0 0) 9 = false ∧ 7 < 8 ∧ (st24.page K).st = PgSt.opened) ∧
    ((st26.hostOn (Req.host 0 (1 : Fin 5)) 0 = some (0, 1)) ∧ 1 = 1 ∧ 3 < st26.rd HPT_STG_CFG.PAGES 0 ∧
     ((st26.dir 0 (st26.rd HPT_STG_CFG.BASE 0 + 3)).cur = some K) ∧ (st26.page K).writer = Writer.port 0 ∧
     st26.dupSeq (freeSrc 0 0) 9 = false ∧ (st26.page K).st = PgSt.sealed) := by
  and_intros <;> decide +kernel

/-- `Obligations.HostSemaphoresAndLeases`: its hypotheses are met. -/
theorem test_witness_HostSemaphoresAndLeases :
    (st12.fnOn 0 2 = true ∧ (2 = 0 ∨ 2 = 1 + 1) ∧ st12.dupSeq (semSrc 0 1) 9 = false ∧ (st12.sem 1).holder = 0 ∧
     ((st12.sem 1).holder ≠ 0 + 1)) ∧
    (st13.fnOn 0 2 = true ∧ (2 = 0 ∨ 2 = 1 + 1) ∧ st13.dupSeq (semSrc 0 1) 9 = false ∧ ((st13.sem 1).holder = 0 + 1) ∧
     (st13.portUp (1 - 0) = false) ∧ (st13.sem 1).holder ≠ 0 ∧ (¬(1 < 4 ∧ st13.pst 1 = stSuspended)) ∧ (st13.sem 1).low = false) ∧
    (st14.fnOn 0 2 = true ∧ (2 = 0 ∨ 2 = 1 + 1) ∧ st14.dupSeq (semSrc 0 1) 9 = false ∧ ((st14.sem 1).holder = 0 + 1) ∧
     (st14.portUp (1 - 0) = true)) ∧
    (st15.fnOn 0 2 = true ∧ (2 = 0 ∨ 2 = 1 + 1) ∧ st15.dupSeq (semSrc 0 1) 9 = false ∧ (st15.sem 1).holder ≠ 0 ∧
     ((st15.sem 1).holder ≠ 0 + 1)) ∧
    (st16.fnOn 0 2 = true ∧ (2 = 0 ∨ 2 = 1 + 1) ∧ st16.dupSeq (semSrc 0 1) 9 = true ∧
     ((Store.get hsemReq0 st16.hosts.semReq (0 * 16 + 1)).seq = 9)) ∧
    ((1 < 4 ∧ st17.pst 1 = stSuspended)) := by
  and_intros <;> decide +kernel

/-- `Obligations.DebugUnlocksAndExpires`: its hypotheses are met. -/
theorem test_witness_DebugUnlocksAndExpires :
    (w0.dbgReq Req.jtag = true ∧ (∀ (p : Nat), p < 4 → w0.guarded p = false) ∧ w0.rd SEC_DBG_STAT.LOCKOUT 0 ≠ 1 ∧
     w0.rd SEC_DBG_STAT.FAILS 0 < 8 ∧ w0.rd SEC_DBG_STAT.UNLOCKED 0 = 0) ∧
    (st18.dbgReq Req.jtag = true ∧ (∀ (p : Nat), p < 4 → st18.guarded p = false) ∧ st18.rd SEC_DBG_STAT.UNLOCKED 0 = 1) ∧
    (st19.dbgReq hA = true ∧ (∀ (p : Nat), p < 4 → st19.guarded p = false) ∧ st19.rd SEC_DBG_STAT.LOCKOUT 0 = 1) := by
  and_intros <;> decide +kernel

/-- `Obligations.ZeroizationClearsEverything`: its hypotheses are met. -/
theorem test_witness_ZeroizationClearsEverything :
    (wz.fnOn 0 0 = true ∧ wz.sec.arm = none ∧ wz.rd SEC_TAMP_EN.PIN 0 = 1 ∧ wz.rd SEC_TAMP_EN.VOLT 0 = 1 ∧ wz.rd SEC_TAMP_EN.TEMP 0 = 1) ∧
    ((st20.sec.arm = some (0, 500)) ∧ st20.fnOn 0 0 = true ∧ 0 = 0 ∧ (st20.now ≤ 500 + 1000000)) ∧
    ((st21.sec.arm = some (0, 500)) ∧ (500 + 1000000 < st21.now ∨ 0 ≠ 0)) ∧
    (st22.rd SEC_TAMP_EN.PIN 0 ≠ 1 ∧ st22.rd SEC_TAMP_EN.VOLT 0 ≠ 1 ∧ st22.rd SEC_TAMP_EN.TEMP 0 ≠ 1) := by
  and_intros <;> decide +kernel

end Tests.Hosts

namespace Tests.Startup

def b0 : State := State.reset
def bt (k : Nat) : State := put [(SYS_BOOT_STAT.PHASE,0,k)] { State.reset with now := 777, wafer := { State.reset.wafer with running := true } }
def st1 : State := (bt 1)
def st2 : State := (bt 2)
def st3 : State := (bt 3)
def st5 : State := (bt 4)
def st6 : State := (let s := bt 5; {s with wafer := {s.wafer with bad := ((List.range 12).map fun i => (3*160+i*7, true)) ++ [(4*160+0, true)]}})
def st7 : State := (bt 9)
def st9 : State := (bt 12)
def img (slot seq : Nat) : List (Nat × Nat) := (List.range 640).map fun i => (slot*2^29 + i, ([0x4E,0x56,0x48,0x5A,1,0,2,0,seq,0,0,0,0,0,0,0,0,64,0,0,0x60,4,0xB0].getD i 0))
def wi (k : Nat) (l : List (Nat × Nat)) (sl : Nat) : State := let s := bt k; { s with boot := { s.boot with bytes := l, slot := sl, caps := [(0, 2^20),(1,2^20)] } }
def st10 : State := (wi 6 [] 0)
def st12 : State := (wi 6 (img 0 1) 0)
def st16 : State := (wi 7 (img 0 1 ++ img 1 2) 1)
def ent0 : SectEnt := ⟨1,255,4096,64,0⟩
def dtab (slot : Nat) (l : List (Nat × Nat)) : List (Nat × Nat) := l.map fun x => if x.1 = slot*2^29 + 0x180 then (x.1, 1) else if x.1 = slot*2^29+0x181 then (x.1,255) else if x.1 = slot*2^29+0x188 then (x.1, 1) else if x.1 = slot*2^29+0x18C then (x.1,64) else x
def st18 : State := (wi 8 (dtab 0 (img 0 1)) 1)
def ld (s : State) : State := put [(PAR_LAYOUT.COL_P0,0,1)] s
def st20 : State := (ld (bt 10))
def st21 : State := (put [(PAR_STATE.STATE,0,1)] (ld (bt 12)))
def e2 : SectEnt := ⟨2,0,4096,64,3⟩
def cpy : State := let s := put [(PAR_STATE.STATE,0,1)] (ld (bt 12)); { s with parts := { s.parts with copy := [(0, some secOk)] }, boot := { s.boot with table := [e2] } }
def hsm (h : Nat) (s : State) : State := { s with hosts := { s.hosts with sems := [(4, ⟨h,1,5,false⟩)] } }
def nv (s : State) : State := put [(SYS_NVM_ADDR.SLOT,0,2),(SYS_NVM_ADDR.ADDR,0,0x10000),(SYS_BOOT_STAT.SLOT,0,1),(SYS_BOOT_STAT.DONE,0,1)] { s with boot := { s.boot with caps := [(0,2^20),(1,2^20)] } }
def cm : NvmCmd := ⟨1,1,0x10000,0,0,9⟩
def st22 : State := (nv (hsm 1 w0))
def st24 : State := (nv (hsm 2 w0))
def st25 : State := (put [(SYS_BOOT_STAT.DONE,0,0)] (nv (hsm 1 w0)))
def bo (g : BootU → BootU) (s : State) : State := { s with boot := g s.boot }
def st26 : State := (put [(SYS_NVM_STAT.SEQ,0,9),(SYS_NVM_BUF.WORD,0,77)] (bo (fun b => {b with cmd := [{cm with op := 2}], bytes := [(2^29+0x10000+5, 7),(2^29+5, 8)]}) w0))
def x27 : NvmCmd := {cm with op := 2}

/-- `Obligations.StartupPhasesEndInOrder`: its hypotheses are met. -/
theorem test_witness_StartupPhasesEndInOrder :
    (b0.wafer.running = false ∧ b0.phase = 0) ∧
    (st1.inPhase 1 = true ∧ st1.rd SEC_STAT.ERROR 0 ≠ 1 ∧ st1.rd SEC_STAT.ZEROIZED 0 ≠ 1) ∧
    (st2.unformed ∧ st2.inPhase 2 = true ∧ 2 ≤ st2.phase ∧ st2.rd (ckField 0) 0 = 0) ∧
    (st3.unformed ∧ st3.inPhase 3 = true) ∧
    (st5.unformed ∧ st5.inPhase 4 = true) ∧
    (st6.unformed ∧ st6.inPhase 5 = true) ∧
    (9 ≤ st7.phase ∧ st7.rd SYS_BOOT_STAT.FAILED 0 ≠ 1 ∧ st7.rd SYS_BOOT_STAT.DONE 0 ≠ 1 ∧ Store.get false st7.boot.flash 3 = false ∧
     (st7.edgeDead (2 + 3) = false) ∧ st7.flashOwner 3 = none ∧ 1024 ≤ 2048 ∧ 2048 ≤ 8192 ∧ 100000 ≤ 131072) ∧
    (st9.inPhase 12 = true ∧ st9.flashAll = true ∧ (∀ (q : Nat), q < 4 → st9.cols q ≠ 0 → stAdmitted ≤ st9.pst q)) := by
  and_intros <;> decide +kernel

/-- `Obligations.SlotsAreTriedAndSectionsLoad`: its hypotheses are met. -/
theorem test_witness_SlotsAreTriedAndSectionsLoad :
    (st10.inPhase 6 = true ∧ st10.rd SEC_STAT.ERROR 0 ≠ 1 ∧
     ((st10.onBoot fun b => { bytes := b.bytes, slot := b.slot, refused := b.refused, table := b.table, flash := b.flash, loads := b.loads, cmd := b.cmd, deviceAt := b.deviceAt, caps := Store.set 0 (Store.set 0 b.caps 0 (if (1 : Fin 4) = (0 : Fin 4) then 0 else 1048576)) 1 (if (1 : Fin 4) = (0 : Fin 4) then 0 else 1048576) : BootU }).nextSlot = none)) ∧
    (st12.inPhase 6 = true ∧ st12.rd SEC_STAT.ERROR 0 ≠ 1 ∧
     ((st12.onBoot fun b => { bytes := b.bytes, slot := b.slot, refused := b.refused, table := b.table, flash := b.flash, loads := b.loads, cmd := b.cmd, deviceAt := b.deviceAt, caps := Store.set 0 (Store.set 0 b.caps 0 (if (1 : Fin 4) = (0 : Fin 4) then 0 else 1048576)) 1 (if (1 : Fin 4) = (0 : Fin 4) then 0 else 1048576) : BootU }).nextSlot = some 0) ∧
     st12.nextSlot = some 0) ∧
    ((st16.boot.slot = 0 + 1) ∧ 0 < 2 ∧ st16.inPhase 7 = true ∧ (st16.inPhase 7 = true ∨ st16.inPhase 8 = true)) ∧
    ((st18.boot.slot = 0 + 1) ∧ 0 < 2 ∧ st18.inPhase 8 = true ∧ (List.find? (fun e => decide (e.typ = 1)) (st18.table 0) = some ent0)) ∧
    (st20.firstLoad 0 = true ∧ st20.wafer.down = false ∧ st20.rd SEC_STAT.ERROR 0 ≠ 1) ∧
    (st21.inPhase 10 = false ∧ st21.pst 0 = stLoading ∧ (st21.part 0).loaded = false ∧ st21.readSection 0 = none ∧
     Store.get none st21.parts.copy 0 = none) ∧
    (cpy.inPhase 10 = false ∧ cpy.pst 0 = stLoading ∧ (cpy.part 0).loaded = false ∧ (cpy.loadSource 0 true = some (secOk, e2)) ∧
     cpy.wafer.down = false ∧ cpy.rd SEC_STAT.ERROR 0 ≠ 1 ∧ cpy.sectionOk 0 e2.len secOk = true) := by
  and_intros <;> decide +kernel

/-- `Obligations.ResetsAndSlotUpdates`: its hypotheses are met. -/
theorem test_witness_ResetsAndSlotUpdates :
    (st22.fnOn 0 0 = true ∧ ((1 : Fin 5) ≠ (0 : Fin 5)) ∧ st22.dupSeq (nvmSrc 0) 9 = false ∧ ((st22.sem 4).holder = 0 + 1) ∧
     (st22.rd SYS_BOOT_STAT.DONE 0 ≠ 0 ∨ st22.rd SYS_BOOT_STAT.FAILED 0 ≠ 0) ∧
     ((0 : Fin 3) = (2 : Fin 3) ∨ st22.nvmSlot ≠ st22.rd SYS_BOOT_STAT.SLOT 0) ∧ (st22.nvmSlot = 1 ∨ st22.nvmSlot = 2) ∧
     ((st22.nvmAddr % if (0 : Fin 3) = (0 : Fin 3) then 65536 else 4096) = 0) ∧
     ((st22.nvmAddr + if (0 : Fin 3) = (0 : Fin 3) then 65536 else 4096) ≤ st22.cap (st22.nvmSlot - 1))) ∧
    (st24.fnOn 0 0 = true ∧ st24.dupSeq (nvmSrc 0) 9 = false ∧ ((st24.sem 4).holder ≠ 0 + 1)) ∧
    (st25.fnOn 0 0 = true ∧ st25.dupSeq (nvmSrc 0) 9 = false ∧ ((st25.sem 4).holder = 0 + 1) ∧ st25.rd SYS_BOOT_STAT.DONE 0 = 0 ∧
     st25.rd SYS_BOOT_STAT.FAILED 0 = 0) ∧
    (st26.boot.cmd = [x27] ∧ st26.rd SYS_NVM_STAT.SEQ 0 = x27.seq) := by
  and_intros <;> decide +kernel

end Tests.Startup

namespace Tests.Guarding

def chk : Checker := ⟨[⟨1, 0, 0, 0, 0, 0, 1, 1, 0⟩, ⟨3, 0, 0, 0, 0, 0, 1, 1, 0⟩, ⟨2, 0, 0, 0, 0, 0, 1, 1, 0⟩], 0, 1⟩
def grec : GuardRec := ⟨100, 10, 50, 0, 3, 5, 1, 2, [⟨0, 0xFF, 10, 100, 20, 1⟩], [⟨0, 0, 0, 1, 40⟩]⟩
def gg (g : GuardU → GuardU) (s : State) : State := { s with guard := g s.guard }
def secG : Section := { sec with mode := 2, checker := some chk, guard := some grec }
def wg : State := put [(PAR_STATE.MODE,0,2),(GRD_CK_CFG.BUDGET,0,1)] (secd secG w0)
def fr (n mark called : Nat) (it : List Item) (j : Option Judged) : Frame := ⟨n, 400, it, 0, mark, called, j⟩
def hd (n : Nat) : Nat := hdrWord { hdrOf 0 with tag := n } 0
def tap (wp n : Nat) : Tap := ⟨0, wp, hd n, [(0, 5)]⟩
def j0 : Judged := ⟨0, 0, 7, 64, []⟩
def item : Item := ⟨1, hd 9, [(0,7)]⟩
def W0 : Window := ⟨0, 0, 9, 950, true, false, false⟩
def x0 : WatchRep := ⟨0, 0, 1, true, 990⟩
def tk : GTask := ⟨0, 0, 0, 1, 40⟩
def wfr (l : List Frame) (t : List Tap) : State := gg (fun g => {g with frames := [(0, l)], taps := t}) wg
def F0 : Frame := fr 9 0 0 [] none
def st1 : State := (wfr [F0] [tap 1 9])
def x2 : Tap := (tap 1 9)
def st3 : State := (wfr [F0] [tap 2 9])
def x4 : Tap := (tap 2 9)
def st5 : State := (wfr [F0] [tap 1 9])
def x6 : Tap := (tap 1 9)
def st7 : State := (wfr [F0] [tap 1 8])
def x8 : Tap := (tap 1 8)
def st11 : State := (wfr [F0] [tap 1 9])
def x12 : Tap := (tap 1 9)
def F1 : Frame := fr 9 0 901 [item] none
def st13 : State := (put [(GRD_CK_STAT.STATE,0,1)] (wfr [F1, fr 10 0 0 [] none] []))
def st15 : State := ((wfr [F1] []))
def x17 : Judged := ⟨0, 5, 7, 64, []⟩
def st18 : State := ({wfr [F1] [] with now := 99999999})
def F2 : Frame := fr 9 0 901 [item] (some j0)
def st20 : State := ((wfr [F2, fr 10 0 0 [] none] []))
def F8 : Frame := fr 9 8 0 [item] none
def st22 : State := (put [(GRD_AGE.RUN,0,3)] (wfr [F8] []))
def st24 : State := (put [(GRD_WIN.THRESH,0,1)] (wfr [fr 9 7 0 [item] none] []))
def x26 : Frame := (fr 9 7 0 [item] none)
def wr (x : WatchRep) : State := gg (fun g => {g with frames := [(0, [F0])], reports := [x], windows := [W0], busy := [(0, 41)]}) (put [(GRD_STG.LAST,0,8),(GRD_STG.MIN,0,10),(GRD_STG.MAX,0,100)] wg)
def st30 : State := (wr {x0 with count := 9})
def x32 : WatchRep := {x0 with count := 9}
def st33 : State := (wr {x0 with count := 10})
def x35 : WatchRep := {x0 with count := 10}
def st36 : State := (put [(GRD_CK_HEALTH.STATE0,0,2),(GRD_PIN.A_CMD,0,1),(GRD_PIN.B_CMD,0,1)] wg)
def st37 : State := (gg (fun g => {g with stuck := [(0,1)], tbBad := 1, inj := [(0,601)]}) (put [(GRD_PIN.A_CMD,0,1),(GRD_PIN.B_CMD,0,1)] wg))
def st38 : State := (put [(HPT_PORT.STATE,1,2)] wg)
def x39 : Req := (.host 1 0)
def ct (t : CoreTest) (s : State) : State := gg (fun g => {g with tests := [(0, t)]}) s
def sr (s : State) : State := put [(GRD_TEST_CFG.PAR,0,1),(GRD_TEST_CFG.GAP_US,0,2)] s
def st40 : State := (ct {test0 with step := 1, tried := [1]} wg)
def st41 : State := (ct {test0 with report := 3} wg)
def st42 : State := (sr (ct {test0 with due := true} wg))
def st43 : State := (sr (ct {test0 with pos := 4, last := 901, deadline := 1500} wg))
def hld (s : State) : State := thr 0 ⟨.held, 5, .ready, 0⟩ s
def st44 : State := (hld (sr (ct {test0 with pos := 4, seg := 5, tester := 1, last := 901, deadline := 1500} wg)))
def st46 : State := (hld (sr (ct {test0 with pos := 4, seg := 5, tester := 1, extra := true, last := 901, deadline := 1500} wg)))
def st47 : State := (hld (sr (ct {test0 with pos := 4, seg := 1, tester := 1, step := 1, last := 901, deadline := 1500} wg)))

/-- `Obligations.GuardedFramesAreJudged`: its hypotheses are met. -/
theorem test_witness_GuardedFramesAreJudged :
    (st1.running 0 = true ∧ st1.guarded 0 = true ∧ (List.find? (fun t => decide (t.part = 0)) st1.guard.taps = some x2) ∧ false = false ∧
     ((Option.map (WatchPt.kind) ((st1.checker 0).bind fun k => k.points[x2.wp]?)).getD 0 = 1 ∨ (Option.map (WatchPt.kind) ((st1.checker 0).bind fun k => k.points[x2.wp]?)).getD 0 = 3) ∧
     (st1.frames 0)[0]? = some F0) ∧
    (st3.running 0 = true ∧ st3.guarded 0 = true ∧ (List.find? (fun t => decide (t.part = 0)) st3.guard.taps = some x4) ∧
     ((Option.map (WatchPt.kind) ((st3.checker 0).bind fun k => k.points[x4.wp]?)).getD 0 ≠ 1) ∧
     ((Option.map (WatchPt.kind) ((st3.checker 0).bind fun k => k.points[x4.wp]?)).getD 0 ≠ 3)) ∧
    (st5.running 0 = true ∧ st5.guarded 0 = true ∧ (List.find? (fun t => decide (t.part = 0)) st5.guard.taps = some x6) ∧ true = true ∧
     (∃ g, g ∈ st5.frames 0 ∧ g.num = hTag x6.hdr)) ∧
    (st7.running 0 = true ∧ st7.guarded 0 = true ∧ (List.find? (fun t => decide (t.part = 0)) st7.guard.taps = some x8) ∧
     (∀ (g : Frame), g ∈ st7.frames 0 → g.num ≠ hTag x8.hdr)) ∧
    (st11.running 0 = true ∧ st11.guarded 0 = true ∧ (List.find? (fun t => decide (t.part = 0)) st11.guard.taps = some x12) ∧
     (∃ g, g ∈ st11.frames 0 ∧ g.num = hTag x12.hdr)) ∧
    (st13.running 0 = true ∧ st13.guarded 0 = true ∧ (st13.frames 0 = [F1, fr 10 0 0 [] none]) ∧ F1.called ≠ 0 ∧ F1.judged = none ∧
     st13.checker 0 = some chk ∧ (j0 = { verdict := 0, ritem := 0, checks := 7, rlen := 64, susp := [] : Judged }) ∧
     (st13.now - (F1.called - 1) ≤ st13.judgeBudget 0) ∧ judgeOk chk F1 j0 = true ∧ st13.rd GRD_CK_STAT.STATE 0 = 1) ∧
    (st15.running 0 = true ∧ st15.guarded 0 = true ∧ st15.frames 0 = [F1] ∧ st15.checker 0 = some chk ∧
     (x17 = { verdict := 0, ritem := 5, checks := 7, rlen := 64, susp := [] : Judged }) ∧
     (st15.now - (F1.called - 1) ≤ st15.judgeBudget 0) ∧ judgeOk chk F1 x17 = false) ∧
    (st18.running 0 = true ∧ st18.guarded 0 = true ∧ st18.frames 0 = [F1] ∧ st18.checker 0 = some chk ∧
     (st18.judgeBudget 0 < st18.now - (F1.called - 1))) ∧
    (st20.running 0 = true ∧ st20.guarded 0 = true ∧ (st20.frames 0 = [F2, fr 10 0 0 [] none]) ∧
     (∀ (y : Ingress), y ∈ st20.guard.ingress → y.part ≠ 0) ∧ F2.mark = 0 ∧ F2.judged = some j0 ∧ j0.verdict = 0 ∧
     st20.checker 0 = some chk) ∧
    (st22.running 0 = true ∧ st22.guarded 0 = true ∧ st22.frames 0 = [F8] ∧ (∀ (y : Ingress), y ∈ st22.guard.ingress → y.part ≠ 0) ∧
     F8.mark = 8 ∧ (min 15 (st22.rd GRD_TSTAT.RUNCNT 0 + 1) < st22.rd GRD_AGE.RUN 0)) ∧
    (st24.running 0 = true ∧ st24.guarded 0 = true ∧ st24.frames 0 = [x26] ∧ 1 ≤ x26.mark ∧ x26.mark ≤ 7) ∧
    (st30.running 0 = true ∧ st30.guarded 0 = true ∧ (List.find? (fun r => decide (r.part = 0)) st30.guard.reports = some x32) ∧
     x32.kick = true ∧ (x32.count = st30.rd GRD_STG.LAST (0 * 16 + x32.stage) + 1) ∧
     (List.find? (fun w => decide (w.part = 0) && decide (w.stage = 0) && w.open_) st30.guard.windows = some W0) ∧
     (((st30.guardRec 0).bind fun g => g.tasks[0]?) = some tk) ∧ (st30.rd GRD_TASK.OVER (0 * 64 + 0) ≠ 1) ∧
     (tk.budget < Store.get 0 st30.guard.busy (0 * 64 + 0))) ∧
    (st33.running 0 = true ∧ st33.guarded 0 = true ∧ (List.find? (fun r => decide (r.part = 0)) st33.guard.reports = some x35) ∧
     (x35.kick = false ∨ x35.count ≠ st33.rd GRD_STG.LAST (0 * 16 + x35.stage) + 1)) := by
  and_intros <;> decide +kernel

/-- `Obligations.PairsPinsAndTestSegments`: its hypotheses are met. -/
theorem test_witness_PairsPinsAndTestSegments :
    (wg.rd (ckField 0) 0 ≠ 2 ∧
     ((fun i g l => if wg.rd g 0 = 1 ∧ l = true then Store.get 0 wg.guard.stuck i + 1 else 0) 0 GRD_PIN.A_CMD true < 2) ∧
     ((fun i g l => if wg.rd g 0 = 1 ∧ l = true then Store.get 0 wg.guard.stuck i + 1 else 0) 1 GRD_PIN.B_CMD true < 2) ∧
     (wg.hostOn hA 0 = some (0, 0)) ∧ wg.isSteward 0 0 = true ∧ 50 ≤ wg.rd GRD_TB_CHK.TOL_PPM 0) ∧
    (st36.rd (ckField 0) 0 = 2) ∧
    ((2 ≤ (fun i g l => if st37.rd g 0 = 1 ∧ l = true then Store.get 0 st37.guard.stuck i + 1 else 0) 0 GRD_PIN.A_CMD true ∨ 2 ≤ (fun i g l => if st37.rd g 0 = 1 ∧ l = true then Store.get 0 st37.guard.stuck i + 1 else 0) 1 GRD_PIN.B_CMD false) ∧
     st37.rd GRD_PIN.MISMATCH 0 ≠ 1 ∧ st37.rd GRD_TB_CHK.TOL_PPM 0 < 5000 ∧ 1 ≤ st37.guard.tbBad ∧ st37.guarded 0 = true ∧
     st37.rd GRD_TEVT.INJ_DUE 0 ≠ 1 ∧ (Store.get 0 st37.guard.inj 0 = 600 + 1)) ∧
    ((st38.hostOn x39 0 = some (1, 0)) ∧ st38.isSteward 0 1 = false) ∧
    ((st40.ctest (coreKey 0 0)).seg = 0 ∧ st40.phys (coreKey 0 0) = some 0 ∧ (Store.get false st40.wafer.bad (0 * 160 + 0) = false) ∧
     ((st40.ctest (coreKey 0 0)).step = 1 ∨ (st40.ctest (coreKey 0 0)).step = 2) ∧
     st40.testerFor (coreKey 0 0) (st40.ctest (coreKey 0 0)).tried = some 16) ∧
    ((st41.ctest (coreKey 0 0)).seg = 0 ∧ st41.phys (coreKey 0 0) = some 0 ∧ (Store.get false st41.wafer.bad (0 * 160 + 0) = false) ∧
     (st41.ctest (coreKey 0 0)).step ≠ 1 ∧ (st41.ctest (coreKey 0 0)).step ≠ 2 ∧ (st41.ctest (coreKey 0 0)).report ≠ 0 ∧
     st41.testerFor (coreKey 0 0) [] = some 1) ∧
    ((st42.ctest (coreKey 0 0)).seg = 0 ∧ st42.phys (coreKey 0 0) = some 0 ∧ (Store.get false st42.wafer.bad (0 * 160 + 0) = false) ∧
     (st42.ctest (coreKey 0 0)).step ≠ 1 ∧ (st42.ctest (coreKey 0 0)).step ≠ 2 ∧ (st42.ctest (coreKey 0 0)).report = 0 ∧
     st42.partOf 0 = some 0 ∧ st42.running 0 = true ∧ st42.guarded 0 = true ∧ st42.testerFor (coreKey 0 0) [] = some 1 ∧
     (st42.ctest (coreKey 0 0)).due = true ∧ (∀ (w : Window), w ∈ st42.critical 0 (coreKey 0 0) → w.tested = false)) ∧
    ((st43.ctest (coreKey 0 0)).seg = 0 ∧ st43.phys (coreKey 0 0) = some 0 ∧ (Store.get false st43.wafer.bad (0 * 160 + 0) = false) ∧
     (st43.ctest (coreKey 0 0)).step ≠ 1 ∧ (st43.ctest (coreKey 0 0)).step ≠ 2 ∧ (st43.ctest (coreKey 0 0)).report = 0 ∧
     st43.partOf 0 = some 0 ∧ st43.running 0 = true ∧ st43.guarded 0 = true ∧ st43.testerFor (coreKey 0 0) [] = some 1 ∧
     (st43.ctest (coreKey 0 0)).due = false ∧ st43.underTest 0 < st43.rd GRD_TEST_CFG.PAR 0 ∧
     (st43.afterGap 0 (coreKey 0 0)).critical 0 (coreKey 0 0) = [] ∧ (st43.ctest (coreKey 0 0)).deadline ≠ 0) ∧
    ((st44.ctest (coreKey 0 0)).seg ≠ 0 ∧ st44.partOf 0 = some 0 ∧ (∀ (h : HeldReq), h ∈ st44.guard.queue → h.core ≠ coreKey 0 0) ∧
     (st44.ctest (coreKey 0 0)).step = 0 ∧ (st44.ctest (coreKey 0 0)).report = 0 ∧ (st44.ctest (coreKey 0 0)).extra = false ∧
     st44.testerFor (coreKey 0 0) [(st44.ctest (coreKey 0 0)).tester] = some 16) ∧
    ((st46.ctest (coreKey 0 0)).seg ≠ 0 ∧ st46.partOf 0 = some 0 ∧ (∀ (h : HeldReq), h ∈ st46.guard.queue → h.core ≠ coreKey 0 0) ∧
     (st46.ctest (coreKey 0 0)).step = 0 ∧ (st46.ctest (coreKey 0 0)).report = 0 ∧ (st46.ctest (coreKey 0 0)).extra = true) ∧
    ((st47.ctest (coreKey 0 0)).seg ≠ 0 ∧ st47.partOf 0 = some 0 ∧ (∀ (h : HeldReq), h ∈ st47.guard.queue → h.core ≠ coreKey 0 0) ∧
     ((st47.ctest (coreKey 0 0)).step ≠ 0 ∨ (st47.ctest (coreKey 0 0)).report ≠ 0) ∧ st47.phys (coreKey 0 0) = some 0 ∧
     (Store.get false st47.wafer.bad (0 * 160 + 0) = false)) := by
  and_intros <;> decide +kernel

end Tests.Guarding

namespace Tests.Debugging

def dg (g : DbgU → DbgU) (s : State) : State := { s with dbg := g s.dbg }
def c0 : Snap := ⟨0, 0, 0, 0x10, 3, true, 1500, 9⟩
def hp : Req := .host 0 1
def wc (c : Snap) : State := put [(CNT_SNAP_STAT.SEQ,0,9)] (dg (fun d => {d with snaps := [c], vals := [(5, 7)]}) (w0.tally 0 0 0x10 5))
def st1 : State := (wc c0)
def st4 : State := (put [(DBG_DL_CTL.EN,0,1)] (park [⟨.thread 0, .obj 7, false, 1, 1, 800, 0⟩] (thr 0 ⟨.parked,5,.idle,0⟩ w0)))
def st5 : State := (put [(DBG_DL_STAT.BUSY,0,1)] w0)
def x7 : Req := (.host 0 2)
def so (s : State) : State := obj (poolKey 0) 9 { s with sync := { s.sync with blocks := [(0,1)] } }
def st8 : State := (so (dbg w0))
def sel (s : State) : State := put [(DBG_SO_SEL.REF,selKey .jtag,3*2^22),(DBG_SO_SEL.REF,0,3*2^22)] (so s)
def st9 : State := (sel (dbg w0))
def x10 : Nat := (poolKey 0)
def st11 : State := (park [⟨.thread 0, .obj (poolKey 0), false, 1, 1, 800, 0⟩] (sel (dbg w0)))
def x12 : Nat := (poolKey 0)
def st13 : State := (sel w0)
def x14 : Nat := (poolKey 0)
def st15 : State := (sel (dbg w0))
def st17 : State := (put [(DBG_TR_STAT.ACTIVE,0,1)] (dbg w0))
def B (l : List Nat) : List (BitVec 8) := l.map (BitVec.ofNat 8)
def rdy (s : State) : State := put [(SYS_BOOT_STAT.DONE,0,1)] s
def mw (s : State) : State := put [(SEC_CTL.MGMT_WR,0,1)] s
def st21 : State := (mw (rdy w0))
def x22 : List (BitVec 8) := (B [4,2,0,0,1,0x88,0x13,0,0])
def st23 : State := (mw w0)
def st25 : State := (rdy w0)
def x26 : List (BitVec 8) := (B [4,2,0,0,1])
def sd (g : SideU → SideU) (s : State) : State := { s with side := g s.side }
def st28 : State := (sd (fun d => {d with dyn := 9, alert := true}) w0)
def st30 : State := (sd (fun d => {d with alert := true}) w0)
def st34 : State := (sd (fun d => {d with cells := 0x5A5A}) (dbg w0))
def st35 : State := (stp 6 (sd (fun d => {d with cells := 0x5A5A}) (dbg w0)))
def pinS (f lv : Nat) (s : State) : State := put [(SBM_PIN_CFG.FUNC,2,f),(SBM_PIN_CFG.EDGE,2,3),(SBM_PIN_CFG.WIDTH,2,5),(SBM_PIN_TGT.TGT,2,7)] (sd (fun d => {d with act := [(2,f)], levels := lv}) s)
def st36 : State := (stp 2 (so (pinS 4 0 w0)))
def st40 : State := (obj (poolKey 7) 9 (so (pinS 4 0 w0)))
def x41 : Nat := (poolKey 7)
def st44 : State := (put [(DBG_TR_STAT.ACTIVE,0,0)] (pinS 6 0 (dbg w0)))
def st46 : State := (put [(DBG_TR_STAT.ACTIVE,0,1)] (pinS 6 0 (dbg w0)))
def st48 : State := (pinS 9 0 {w0 with now := 1001})
def st50 : State := (sd (fun d => {d with pulse := [(2,1601)], sw := [(2, 901)]}) (pinS 9 0 {w0 with now := 1001}))
def st52 : State := (sd (fun d => {d with pulse := [(2,1601)], sw := [(2, 901)]}) (pinS 9 0 {w0 with now := 1001}))
def st54 : State := (mw w0)
def st56 : State := (mw (rdy w0))
def x57 : List (BitVec 8) := (B [8,3,0,0,1,0xE7,0xD5,0,0])

/-- `Obligations.PairsPinsAndTestSegments`: its hypotheses are met. -/
theorem test_witness_PairsPinsAndTestSegments :
    (st54.reqOn Req.mgmt = true) := by
  decide +kernel

/-- `Obligations.CapturesDetectorsAndTrace`: its hypotheses are met. -/
theorem test_witness_CapturesDetectorsAndTrace :
    (w0.reqOn hA = true ∧ w0.dupSeq (cntSrc (reqKey hA)) 9 = false ∧
     (∀ (w : Nat), w ∈ reqPart hA → if (0 : Fin 4) = (2 : Fin 4) then 0 = w else (0 : Fin 4) ≠ (3 : Fin 4) ∧ w0.owns w 0 = true) ∧
     ((0 : Fin 4) = (0 : Fin 4) → 1 < 152) ∧ (∀ (w : Nat), w ∈ reqPart hA → w = 0) ∧ w0.traceOk = false) ∧
    (w0.reqOn hp = true ∧ w0.dupSeq (cntSrc (reqKey hp)) 9 = false ∧
     ((∃ w, w ∈ reqPart hp ∧ if (3 : Fin 4) = (2 : Fin 4) then 0 ≠ w else (3 : Fin 4) = (3 : Fin 4) ∨ w0.owns w 0 = false) ∨ (3 : Fin 4) = (0 : Fin 4) ∧ 152 ≤ 1)) ∧
    ((List.find? (fun x => decide (x.key = reqKey hA)) st1.dbg.snaps = some c0)) ∧
    (st4.partQuiet 0 = true ∧ st4.rd DBG_DL_CTL.EN 0 = 1 ∧ st4.rd DBG_DL_STAT.FIRED 0 = 0 ∧ st4.rd DBG_DL_STAT.BUSY 0 = 0) ∧
    (st5.rd DBG_DL_STAT.BUSY 0 = 1) ∧
    ((∃ w, w ∈ reqPart x7 ∧ w ≠ 0)) ∧
    ((st8.reqOn Req.jtag = true ∨ Req.jtag = Req.jtag) ∧ st8.dupSeq (dbgSrc (reqKey Req.jtag)) 9 = false ∧ st8.selObj Req.jtag = none ∧
     st8.rd SEC_DBG_STAT.UNLOCKED 0 = 1 ∧ bit (st8.rd SEC_DBG_STAT.CAPS 0) 1 = true) ∧
    ((st9.reqOn Req.jtag = true ∨ Req.jtag = Req.jtag) ∧ st9.dupSeq (dbgSrc (reqKey Req.jtag)) 9 = false ∧
     (st9.selObj Req.jtag = some (x10, 0)) ∧ st9.debugOk 1 0 = true ∧ st9.waitersOf x10 = []) ∧
    ((st11.reqOn Req.jtag = true ∨ Req.jtag = Req.jtag) ∧ st11.dupSeq (dbgSrc (reqKey Req.jtag)) 9 = false ∧
     (st11.selObj Req.jtag = some (x12, 0)) ∧ st11.debugOk 1 0 = true ∧ st11.waitersOf x12 ≠ [] ∧ (st11.obj x12).live = true ∧
     false = false) ∧
    ((st13.reqOn Req.jtag = true ∨ Req.jtag = Req.jtag) ∧ st13.dupSeq (dbgSrc (reqKey Req.jtag)) 9 = false ∧
     (st13.selObj Req.jtag = some (x14, 0)) ∧ st13.debugOk 1 0 = false) ∧
    (st15.traceReq hA = true ∧ st15.traceOk = true ∧ st15.rd DBG_TR_STAT.ACTIVE 0 = 0) ∧
    (st17.traceReq hA = true ∧ st17.traceOk = true ∧ st17.rd DBG_TR_STAT.ACTIVE 0 = 1) := by
  and_intros <;> decide +kernel

/-- `Obligations.ManagementInterfaceAnswers`: its hypotheses are met. -/
theorem test_witness_ManagementInterfaceAnswers :
    (w0.mgmtCheck true (w0.unpec 2 []).snd (w0.unpec 2 []).fst ≠ 0 ∧ w0.mgmtCheck false (w0.unpec 3 []).snd (w0.unpec 3 []).fst ≠ 0 ∧
     w0.side.dyn = 0 ∧ ((5 : BitVec 7) ≠ (0 : BitVec 7)) ∧ ((9 : BitVec 7) ≠ (0 : BitVec 7)) ∧ (5 ≠ 88 + w0.side.maddr)) ∧
    (st21.mgmtCheck true (st21.unpec 2 (List.map BitVec.toNat x22)).snd (st21.unpec 2 (List.map BitVec.toNat x22)).fst = 0 ∧
     ((mgmtWrites (st21.unpec 2 (List.map BitVec.toNat x22)).fst ((fun cmd => mgmtHead (st21.unpec cmd (List.map BitVec.toNat x22)).fst) 2).fst st21 (List.range ((fun cmd => mgmtHead (st21.unpec cmd (List.map BitVec.toNat x22)).fst) 2).snd)).fst.rd SEC_CTL.MGMT_WR 0 ≠ 0) ∧
     (((fun cmd => mgmtHead (st21.unpec cmd (List.map BitVec.toNat x22)).fst) 2).snd = 1)) ∧
    (st23.side.dyn = 0 ∧ ((9 : BitVec 7) ≠ (0 : BitVec 7)) ∧ (88 = 88 + st23.side.maddr)) ∧
    (st25.mgmtCheck false (st25.unpec 3 (List.map BitVec.toNat x26)).snd (st25.unpec 3 (List.map BitVec.toNat x26)).fst = 0 ∧
     (((fun cmd => mgmtHead (st25.unpec cmd (List.map BitVec.toNat x26)).fst) 3).snd = 1) ∧
     (st25.islandReady ((fun cmd => mgmtHead (st25.unpec cmd (List.map BitVec.toNat x26)).fst) 3).fst = true)) ∧
    (st28.side.dyn ≠ 0) ∧
    (st30.side.dyn = 0 ∧ st30.side.alert = true) ∧
    (st56.mgmtCheck true (st56.unpec 2 (List.map BitVec.toNat x57)).snd (st56.unpec 2 (List.map BitVec.toNat x57)).fst = 0 ∧
     ((mgmtWrites (st56.unpec 2 (List.map BitVec.toNat x57)).fst ((fun cmd => mgmtHead (st56.unpec cmd (List.map BitVec.toNat x57)).fst) 2).fst st56 (List.range ((fun cmd => mgmtHead (st56.unpec cmd (List.map BitVec.toNat x57)).fst) 2).snd)).fst.rd SEC_CTL.MGMT_WR 0 = 0)) := by
  and_intros <;> decide +kernel

/-- `Obligations.TapAndSidebandPins`: its hypotheses are met. -/
theorem test_witness_TapAndSidebandPins :
    (w0.jtagOk = false ∧ w0.pinTestOk = false ∧ w0.edgeSeen 2 4 true = false ∧ w0.edgeSeen 2 6 true = false ∧ w0.sbmWriter hA = true ∧
     pinCfgOk 4 1 3 50 (w0.rd SBM_PIN_TGT.TGT 2) = true) ∧
    (st34.jtagOk = true) ∧
    (st35.pinTestOk = true) ∧
    (st36.edgeSeen 2 4 true = true ∧
     (st36.running (bits (st36.rd SBM_PIN_TGT.TGT 2) 25 24) = false ∨ ∀ (j : Nat), (fun unit => st36.resolve { part := bits (st36.rd SBM_PIN_TGT.TGT 2) 25 24, field := 0, core := 0, unit := unit, own := false : Source } (3 * 2 ^ 22 + st36.rd SBM_PIN_TGT.TGT 2 % 2 ^ 14) false) 53 = Named.obj j → (st36.obj j).live = false) ∧
     st36.sbmWriter hA = true ∧ pinCfgOk 9 1 3 50000 (st36.rd SBM_PIN_TGT.TGT 2) = false) ∧
    (st40.edgeSeen 2 4 true = true ∧ st40.running (bits (st40.rd SBM_PIN_TGT.TGT 2) 25 24) = true ∧
     ((fun unit => st40.resolve { part := bits (st40.rd SBM_PIN_TGT.TGT 2) 25 24, field := 0, core := 0, unit := unit, own := false : Source } (3 * 2 ^ 22 + st40.rd SBM_PIN_TGT.TGT 2 % 2 ^ 14) false) 53 = Named.obj x41) ∧
     (st40.obj x41).live = true) ∧
    (st44.edgeSeen 2 6 true = true ∧ st44.traceOk = true ∧ st44.rd DBG_TR_STAT.ACTIVE 0 = 0) ∧
    (st46.edgeSeen 2 6 true = true ∧ st46.traceOk = true ∧ st46.rd DBG_TR_STAT.ACTIVE 0 = 1) ∧
    (st48.wafer.running = true ∧ st48.rd SBM_PIN_CFG.FUNC 2 = 9 ∧ (st48.clusterTime % (st48.rd SBM_PIN_TGT.TGT 2 % 2 ^ 24 * 1000) ≠ 0) ∧
     (st48.rd SBM_PIN_TGT.TGT 2 % 2 ^ 24 * 1000 ≠ 0) ∧ Store.get 0 st48.side.sw 2 = 0 ∧ Store.get 0 st48.side.pulse 2 = 0 ∧
     (st48.side.instr ≠ 3 ∧ st48.side.instr ≠ 4 ∧ st48.side.instr ≠ 5)) ∧
    ((Store.get 0 st50.side.pulse 2 = 1600 + 1) ∧ (st50.side.instr ≠ 3 ∧ st50.side.instr ≠ 4 ∧ st50.side.instr ≠ 5)) ∧
    ((Store.get 0 st52.side.sw 2 = 900 + 1)) := by
  and_intros <;> first | decide +kernel | (left; decide +kernel)

end Tests.Debugging

namespace Tests.Whole

/-! ### Well-formedness: each check refuses an ill-formed term (R14, R49, R352-R360, R539) -/

theorem test_wf_registerWrite : wellFormed (.registerWrite hA false 0x204 false 5) = true ∧ wellFormed (.registerWrite .mgmt true 0 false 5) = false ∧
    wellFormed (.registerWrite hA false (2 ^ 26) false 5) = false ∧ wellFormed (.registerWrite hA true (2 ^ 18) false 5) = false ∧
    wellFormed (.registerWrite hA false 0x206 false 5) = false ∧ wellFormed (.registerWrite hA false 0x204 true 5) = false ∧
    wellFormed (.registerWrite hA false 0x204 false (2 ^ 32)) = false := by decide
theorem test_wf_misalignedAccess : wellFormed (.misalignedAccess hA false 0x205 4 true) = true ∧
    wellFormed (.misalignedAccess .mgmt false 0x205 4 true) = false ∧ wellFormed (.misalignedAccess hA false 0x205 0 true) = false ∧
    wellFormed (.misalignedAccess hA false 0x205 4097 true) = false ∧ wellFormed (.misalignedAccess hA true (2 ^ 18 - 1) 2 true) = false ∧
    wellFormed (.misalignedAccess hA false 0x204 4 true) = false ∧ wellFormed (.misalignedAccess hA false 0x208 8 false) = false := by decide
theorem test_wf_reads : wellFormed (.snapshotRead hA 6) = false ∧ wellFormed (.snapshotRead hA (2 ^ 26)) = false ∧ wellFormed (.rcRead hA 6) = false ∧
    wellFormed (.rcRead hA (2 ^ 26)) = false := by decide
theorem test_wf_governorPeriod : wellFormed (.governorPeriod (List.replicate 63 ⟨0, 0, 0⟩) 5) = false ∧
    wellFormed (.governorPeriod (List.replicate 64 ⟨0, 0, 0⟩) 65536) = false := by decide
theorem test_wf_repeats : wellFormed (.tbBroadcast [(3, 0), (3, 1)]) = false ∧ wellFormed (.xing [(3, 1), (3, 2)]) = false ∧
    wellFormed (.ntest [(3, 20, 1), (3, 20, 2)] []) = false ∧ wellFormed (.ntest [] [(3, 20, 1), (3, 20, 2)]) = false ∧
    wellFormed (.ijtag [(2, 5), (2, 5)]) = false := by decide
theorem test_wf_flash : wellFormed (.flash 0 true 0 0 0 0 [0, 0, 0] 0 0) = false := by decide
theorem test_wf_links : wellFormed (.tieData 0 0 0 0 0 (List.replicate 577 0)) = false ∧ wellFormed (.negotiate 0 0 [(4096, 0, 0)]) = false ∧
    wellFormed (.negotiate 0 0 [(0, 2 ^ 64, 0)]) = false ∧ wellFormed (.negotiate 0 0 [(0, 0, 2 ^ 32)]) = false := by decide +kernel
theorem test_wf_staging : wellFormed (.bar4Write 0 1 0 []) = false ∧ wellFormed (.bar4Write 0 1 (BitVec.ofNat 36 (2 ^ 36 - 1)) [none, none]) = false ∧
    wellFormed (.bar4Read 0 1 0 0) = false ∧ wellFormed (.bar4Read 0 1 (BitVec.ofNat 36 (2 ^ 36 - 1)) 2) = false := by decide
theorem test_wf_bar4Write_length : wellFormed (.bar4Write 0 1 0 (List.replicate 4097 none)) = false := by decide +kernel
theorem test_wf_management : wellFormed (.mgmtWrite (List.replicate 65 0)) = false ∧ wellFormed (.mgmtRead (List.replicate 65 0)) = false := by decide
theorem test_wf_doorbells : wellFormed (.dbSig 0 1 0 (BitVec.ofNat 64 (1 * 2 ^ 45))) = false ∧ wellFormed (.dbSemAdd 0 1 0 0) = false ∧
    wellFormed (.dbWait 0 1 0 0) = false ∧ wellFormed (.dbCancel 0 1 0 0) = false ∧ wellFormed (.dbArrive 0 1 0 (BitVec.ofNat 64 (3 * 2 ^ 45))) = false := by decide

/-! ### The step -/

/-- A queue of two commands: the first is taken. -/
def q2 : State := { w0 with pending := [.ppsMissed, .tbWrap] }

theorem test_step_takes_the_front : (match step q2 with | .next u => decide (u.pending = [.tbWrap]) | _ => false) = true := by decide +kernel
theorem test_step_idles_by_a_tick : (match step w0 with | .next u => decide (u.now = 1001) | _ => false) = true := by decide +kernel
theorem test_no_word_is_a_command : decodeTableWord 32 0 = none ∧ q2.withFetchWord 32 0 = q2 := by decide +kernel

/-- `Obligations.StepRunsTheFrontCommand`, `Obligations.EveryStepCompletesAndStaysLegal` and `Obligations.EveryStepKeepsMemoryCanonical`: their
hypotheses are met. -/
theorem test_witness_EveryStep : q2.pending = .ppsMissed :: [.tbWrap] ∧ w0.pending = [] ∧ q2.queueOk = true ∧ SideU.legal q2.side = true ∧
    Memory.wf q2.mem = true ∧ (match step q2 with | .next _ => true | _ => false) = true := by
  and_intros <;> decide +kernel

/-! ### Worked values of the spec -/

/-- R90: CRC-32C of the nine bytes "123456789" is 0xE3069283. -/
theorem test_crc32c : crc32c [0x31, 0x32, 0x33, 0x34, 0x35, 0x36, 0x37, 0x38, 0x39] = 0xE3069283 := by decide +kernel

/-- R285: the example of FIPS 197, appendix C.1, byte 0 in bits [7:0] (R9). -/
theorem test_aes128 : aes128 0x0F0E0D0C0B0A09080706050403020100 0xFFEEDDCCBBAA99887766554433221100 = 0x5AC5B47080B7CDD830047B6AD8E0C469 := by
  decide +kernel

end Tests.Whole

end
end

section
/-! PROOFS. Frames of single updates as `SameBut`, the fault log after an entry, and how writes and reads of registers reach their data; with
them the statements of 00_scope.md. -/

namespace Sys2Proof.Machine

/-! ### Frames of single updates -/

theorem State.wr_sameBut (s : State) (f : Field) (i v : Nat) : SameBut [.regs] s (s.wr f i v) := fun q hq => by
  cases q <;> simp_all [Same]

theorem State.emit_sameBut (s : State) (o : Out) : SameBut [.out] s (s.emit o) := fun q hq => by
  cases q <;> simp_all [Same]

theorem State.onHosts_sameBut (s : State) (g : HostU → HostU) : SameBut [.hosts] s (s.onHosts g) := fun q hq => by
  cases q <;> simp_all [Same]

theorem State.onSide_sameBut (s : State) (g : SideU → SideU) : SameBut [.side] s (s.onSide g) := fun q hq => by
  cases q <;> simp_all [Same]

theorem State.alertCheck_sameBut (s : State) : SameBut [.out, .side] s s.alertCheck := fun q hq => by
  cases q <;> simp_all [Same]

theorem State.log_sameBut (s : State) (e : Err) : SameBut [.logs, .out, .hosts, .side] s (s.log e) := fun q hq => by
  cases q <;> simp_all [Same]

theorem State.reach_sameBut (s : State) (t : Nat) : SameBut [.now, .regs, .guard, .dbg, .out, .side] s (s.reach t) := fun q hq => by
  cases q <;> simp_all [Same]

/-- A frame that may change more is the weaker one. -/
theorem SameBut.mono {l m : List Comp} {s u : State} (h : SameBut l s u) (hl : l ⊆ m) : SameBut m s u :=
  fun q hq => h q fun hm => hq (hl hm)

/-! ### The newest entry of the device ring (R490) -/

/-- Merged or new, the newest entry of a ring has the block and code of the error put last. -/
theorem ringPut_head (n : Nat) (r : List LogEnt) (e : Err) (part dseq pseq now : Nat) (hn : 0 < n) :
    ∃ x, (ringPut n r e part dseq pseq now).head? = some x ∧ x.block = e.block ∧ x.code = e.code := by
  obtain ⟨m, rfl⟩ : ∃ m, n = m + 1 := ⟨n - 1, by omega⟩
  cases r with
  | nil => exact ⟨_, rfl, rfl, rfl⟩
  | cons x t =>
    simp only [ringPut]
    split
    case isTrue h =>
      simp only [mergesWith, Bool.and_eq_true, decide_eq_true_eq] at h
      exact ⟨_, rfl, by simp [h], by simp [h]⟩
    case isFalse => exact ⟨_, rfl, rfl, rfl⟩

/-- The vectors and alerts that follow an entry leave the rings alone: the device ring is the one with the error put in. -/
theorem State.log_dev (s : State) (e : Err) : (s.log e).logs.dev =
    ringPut 4096 s.logs.dev e (e.parts.headD 0) (headSeq (·.dseq) s.logs.dev + 1) 0 s.now := by
  have vectors : ∀ (t : State) (l : List Nat) (pf : Nat), (t.each l fun s x => s.vector3 x pf).logs = t.logs :=
    fun t l pf => State.each_keeps (·.logs) t l _ fun _ _ => by simp
  have partVectors : ∀ (t : State) (l : List Nat), (t.each l fun s p => s.each (s.stewPorts p) fun s x =>
      (s.vector3 x (p + 1)).vector3 x 0).logs = t.logs :=
    fun t l => State.each_keeps (·.logs) t l _ fun u p => State.each_keeps (·.logs) u _ _ fun _ _ => by simp
  have stewards : ∀ (t : State) (l : List Nat), (t.each l (·.tellSteward ·)).logs = t.logs :=
    fun t l => State.each_keeps (·.logs) t l _ fun _ _ => by simp
  unfold State.log
  simp only
  repeat' split
  all_goals simp [vectors, partVectors, stewards]

theorem State.log_newest (s : State) (e : Err) : NewestLog e.block e.code (s.log e) := by
  unfold NewestLog
  rw [State.log_dev]
  exact ringPut_head 4096 _ e _ _ _ _ (by decide)

theorem State.logAccess_newest (s : State) (code : Nat) (parts : List Nat) (off : Nat) : NewestLog 0 code (s.logAccess code parts off) :=
  State.log_newest s _

theorem State.logAccess_sameBut (s : State) (code : Nat) (parts : List Nat) (off : Nat) :
    SameBut [.logs, .out, .hosts, .side] s (s.logAccess code parts off) := State.log_sameBut s _

/-- What is emitted is what left the device last. -/
theorem State.sent_emit (s : State) (o : Out) : Sent o (s.emit o) := rfl

/-! ### Misaligned accesses, wide writes and DB_ARG (R14, R359) -/

section
variable {s : State} {off len : Nat} {x : Port} {pf : Fin 5}

/-- Where a function takes requests, an access of no aligned 4 or 8 bytes is logged ACC_SIZE; a read is answered with bytes of 0xFF. -/
theorem execMisalignedAccess_host (hon : s.fnOn x.val pf.val = true) (h4 : ¬(off % 4 = 0 ∧ len = 4)) (h8 : ¬(off % 8 = 0 ∧ len = 8)) (bar2 write : Bool) :
    execMisalignedAccess (.host x pf) bar2 off len write s =
      .next (let t := s.logAccess 1 (reqPart (.host x pf)).toList (if bar2 then 2 ^ 26 + off else off)
        if write then t else t.emit (.read (.host x pf) off (2 ^ (8 * len) - 1))) := by
  have hsize : (!s.fnOn x.val pf.val || (decide (off % 4 = 0) && decide (len = 4)) || (decide (off % 8 = 0) && decide (len = 8))) = false := by
    simp only [hon, Bool.not_true, Bool.false_or, Bool.or_eq_false_iff, ← Bool.decide_and, decide_eq_false_iff_not]
    exact ⟨h4, h8⟩
  simp only [execMisalignedAccess, hsize]
  rfl

theorem execMisalignedAccess_write (hon : s.fnOn x.val pf.val = true) (h4 : ¬(off % 4 = 0 ∧ len = 4)) (h8 : ¬(off % 8 = 0 ∧ len = 8)) (bar2 : Bool) :
    execMisalignedAccess (.host x pf) bar2 off len true s =
      .next (s.logAccess 1 (reqPart (.host x pf)).toList (if bar2 then 2 ^ 26 + off else off)) := by
  rw [execMisalignedAccess_host hon h4 h8, if_pos rfl]

theorem execMisalignedAccess_read (hon : s.fnOn x.val pf.val = true) (h4 : ¬(off % 4 = 0 ∧ len = 4)) (h8 : ¬(off % 8 = 0 ∧ len = 8)) (bar2 : Bool) :
    execMisalignedAccess (.host x pf) bar2 off len false s =
      .next ((s.logAccess 1 (reqPart (.host x pf)).toList (if bar2 then 2 ^ 26 + off else off)).emit (.read (.host x pf) off (2 ^ (8 * len) - 1))) := by
  rw [execMisalignedAccess_host hon h4 h8, if_neg Bool.false_ne_true]

end

/-- A write that its size does not align is a MISALIGNED_ACCESS. -/
theorem execRegisterWrite_misaligned (r : Req) (bar2 : Bool) (off : Nat) (d : BitVec 64) (s : State) (h : off % 4 ≠ 0) :
    execRegisterWrite r bar2 off false d s = execMisalignedAccess r bar2 off 4 true s := by
  simp [execRegisterWrite, h]

/-- An aligned 4-byte write of BAR0. -/
theorem execRegisterWrite_word (r : Req) (off : Nat) (d : BitVec 64) (s : State) (h : off % 4 = 0) :
    execRegisterWrite r false off false d s = .next (s.writeWord r off (d.toNat % 2 ^ 32)) := by
  simp [execRegisterWrite, h]

/-- An aligned 8-byte write of BAR0. -/
theorem execRegisterWrite_wide (r : Req) (off : Nat) (d : BitVec 64) (s : State) (h : off % 8 = 0) :
    execRegisterWrite r false off true d s =
      .next ((s.writeWord r off (d.toNat % 2 ^ 32)).writeWord r (off + 4) (d.toNat / 2 ^ 32)) := by
  simp [execRegisterWrite, h]

/-- An aligned 4-byte write of BAR2. -/
theorem execRegisterWrite_bar2 (x : Port) (pf : Fin 5) (off : Nat) (d : BitVec 64) (s : State) (h : off % 4 = 0) :
    execRegisterWrite (.host x pf) true off false d s = .next (s.bellWrite x pf off (d.toNat % 2 ^ 32)) := by
  simp [execRegisterWrite, h]

/-- A write to the first word of a doorbell slot keeps its bits in the lower half of DB_ARG. -/
theorem State.bellWrite_arg (s : State) (x : Port) (pf : Fin 5) (slot : Fin 64) (v : Nat) (hon : s.fnOn x.val pf.val = true) :
    s.bellWrite x pf (slot.val * 0x20) v =
      s.setBell pf.val slot.val { s.bell pf.val slot.val with arg := (s.bell pf.val slot.val).arg / 2 ^ 32 * 2 ^ 32 + v } := by
  have hlt := slot.isLt
  have hbar : ¬(!s.fnOn x.val pf.val ∨ 0x800 ≤ slot.val * 0x20) := by simp [hon]; omega
  have hslot : slot.val * 0x20 / 0x20 % 64 = slot.val := by omega
  have hword : slot.val * 0x20 % 0x20 / 4 = 0 := by omega
  unfold State.bellWrite
  simp only [if_neg hbar, hslot, hword, if_true]

@[simp] theorem State.bell_setBell_same (s : State) (pf k : Nat) (v : Bell) : (s.setBell pf k v).bell pf k = v := by
  simp [State.bell, State.setBell]

theorem State.setBell_sameBut (s : State) (pf k : Nat) (v : Bell) : SameBut [.hosts] s (s.setBell pf k v) := State.onHosts_sameBut s _

/-- Settles O8: each clause is the equation of the write or access it speaks of; a misaligned access is one log entry, and an answer where it reads. -/
theorem accessesAreSplitOrRefused : Obligations.AccessesAreSplitOrRefused := by
  unfold Obligations.AccessesAreSplitOrRefused
  intro s r off d x pf slot len
  refine ⟨fun h8 => ?wide, fun h4 b => ?narrow, fun hon h4 h8 => ⟨?write, ?read⟩, fun hon hd => ?bell⟩
  case wide =>
    have hlo : (d &&& 0xFFFFFFFF).toNat % 2 ^ 32 = d.toNat % 2 ^ 32 := by
      rw [BitVec.toNat_and, show (0xFFFFFFFF : BitVec 64).toNat = 2 ^ 32 - 1 from rfl, Nat.and_two_pow_sub_one_eq_mod, Nat.mod_mod]
    have hhi : (d >>> 32).toNat % 2 ^ 32 = d.toNat / 2 ^ 32 := by
      rw [BitVec.toNat_ushiftRight, Nat.shiftRight_eq_div_pow]
      exact Nat.mod_eq_of_lt (by omega)
    refine ⟨_, execRegisterWrite_wide r off d s h8, s.writeWord r off (d.toNat % 2 ^ 32), ?_, ?_⟩
    · rw [← hlo]; exact execRegisterWrite_word r off _ s (by omega)
    · rw [← hhi]; exact execRegisterWrite_word r (off + 4) _ _ (by omega)
  case narrow => exact execRegisterWrite_misaligned r b off d s h4
  case write =>
    exact ⟨_, execMisalignedAccess_write hon h4 h8 false, State.logAccess_newest s .., State.logAccess_sameBut s _ _ _⟩
  case read =>
    have hlog : SameBut [.logs, .out, .hosts, .side] s _ := State.logAccess_sameBut s 1 (reqPart (.host x pf)).toList off
    exact ⟨_, execMisalignedAccess_read hon h4 h8 false, State.logAccess_newest s .., State.sent_emit ..,
      hlog.trans ((State.emit_sameBut _ _).mono (by simp))⟩
  case bell =>
    let arg := (s.bell pf.val slot.val).arg / 2 ^ 32 * 2 ^ 32 + d.toNat
    have hrun : execRegisterWrite (.host x pf) true (slot.val * 0x20) false d s =
        .next (s.setBell pf.val slot.val { s.bell pf.val slot.val with arg := arg }) := by
      rw [execRegisterWrite_bar2 x pf _ d s (by omega), Nat.mod_eq_of_lt hd, State.bellWrite_arg s x pf slot _ hon]
    refine ⟨_, hrun, ?_, ?_, State.setBell_sameBut s _ _ _⟩
    · rw [State.bell_setBell_same]; simp only [arg]; omega
    · rw [State.bell_setBell_same]; simp only [arg]; omega

/-! ### Register reads (R14-R16, R516) -/

/-- A host's read reaches the device where its writes do. -/
theorem State.answerRead_host {s : State} {x : Port} {pf : Fin 5} (hon : s.reqOn (.host x pf) = true) (off : Nat) :
    s.answerRead (.host x pf) off = (s.readWord (.host x pf) off).1.emit (.read (.host x pf) off (s.readWord (.host x pf) off).2) := by
  simp [State.answerRead, State.readOn, hon]

/-- A requester of the device tag sees every register but those that debug opens. -/
theorem State.sees_device (s : State) {r : Req} (hr : reqPart r = none) (g : Reg) (i : Nat) (hmem : g.oneOf [CORE_MEM_ADDR, CORE_MEM_DATA, CORE_MEM_FE] = false)
    (htr : g.oneOf [DBG_TR_CTL, DBG_TR_OBJ, DBG_TR_STAT, DBG_TR_SEL, DBG_TR_ENT] = false) : s.sees r g i = true := by
  simp [State.sees, hr, hmem, htr]

/-- A register word that no snapshot takes with others: its value now, and what the read of it clears. -/
theorem State.readWord_single (s : State) (r : Req) {off : Nat} {g : Reg} {i w : Nat} (hm : inMsix off = false) (hl : locate off = some (g, i, w))
    (hs : (g.span w).2 ≤ 1) : s.readWord r off = (((s.readClear r g i w).headRead r g i).alertCheck, s.regWord r g i w) := by
  have h1 : ¬ 1 < (g.span w).2 := by omega
  simp [State.readWord, hm, hl, h1]

/-- The whole of a register of `n` words, as a requester reads it now. -/
def State.regWhole (s : State) (r : Req) (g : Reg) (i w n : Nat) : Nat := ((List.range n).map fun j => s.regWord r g i (w + j) * 2 ^ (32 * j)).sum

/-- A requester holds a snapshot: the register's place and its whole value (R516). -/
def State.hold (s : State) (r : Req) (place whole : Nat) : State :=
  { s with shadow := Store.set 0 (Store.set 0 s.shadow (2 * reqKey r) place) (2 * reqKey r + 1) whole }

theorem State.hold_place (s : State) (r : Req) (place whole : Nat) : Store.get 0 (s.hold r place whole).shadow (2 * reqKey r) = place :=
  (Store.get_set_ne _ _ _ _ _ (by omega)).trans (Store.get_set_same ..)

theorem State.hold_whole (s : State) (r : Req) (place whole : Nat) : Store.get 0 (s.hold r place whole).shadow (2 * reqKey r + 1) = whole :=
  Store.get_set_same ..

theorem State.hold_sameBut (s : State) (r : Req) (place whole : Nat) : SameBut [.shadow] s (s.hold r place whole) := fun q hq => by
  cases q <;> simp_all [Same, State.hold]

theorem State.regWhole_two (s : State) (r : Req) (g : Reg) (i : Nat) :
    s.regWhole r g i 0 2 = s.regWord r g i 0 + s.regWord r g i 1 * 2 ^ 32 := by
  have hsum : ∀ a b m : Nat, [a * 1, b * m].sum = a + b * m := by simp
  exact hsum _ _ (2 ^ 32)

/-- The first word of a snapshot holds the whole register for its requester. -/
theorem State.readWord_first (s : State) (r : Req) {off : Nat} {g : Reg} {i w n : Nat} (hm : inMsix off = false) (hl : locate off = some (g, i, w))
    (hs : g.span w = (w, n)) (hn : 1 < n) : s.readWord r off =
      (s.hold r (off - 4 * w + 1 + 4 * w) (s.regWhole r g i w n), s.regWhole r g i w n % 2 ^ 32) := by
  simp [State.readWord, State.hold, State.regWhole, hm, hl, hs, hn]

/-- A later word comes from the snapshot that its requester holds of the register. -/
theorem State.readWord_held (s : State) (r : Req) {off : Nat} {g : Reg} {i w w0 n : Nat} (hm : inMsix off = false) (hl : locate off = some (g, i, w))
    (hs : g.span w = (w0, n)) (hn : 1 < n) (hw : w ≠ w0) (hh : Store.get 0 s.shadow (2 * reqKey r) = off - 4 * w + 1 + 4 * w0) :
    s.readWord r off = (s, Store.get 0 s.shadow (2 * reqKey r + 1) / 2 ^ (32 * (w - w0)) % 2 ^ 32) := by
  simp [State.readWord, hm, hl, hs, hn, hw, hh]

/-- A read clears nothing of a word without RC fields. -/
theorem State.readClear_none (s : State) (r : Req) (g : Reg) (i w : Nat) (h : (g.fields.filter fun f => decide (f.acc = .rc) && f.mask w != 0) = []) :
    s.readClear r g i w = s := by
  simp [State.readClear, h]

/-- A word that one field fills reads the field's bits of that word. -/
theorem wordOf_filled (f : Field) (val : Field → Nat) (w : Nat) (hlo : f.lo = 0) (hm : f.mask w = 2 ^ 32 - 1) :
    wordOf [f] val w = val f / 2 ^ (32 * w) % 2 ^ 32 := by
  simp only [wordOf, List.map_cons, List.map_nil, List.sum_cons, List.sum_nil, hlo, hm, Nat.and_two_pow_sub_one_eq_mod]
  simp

@[simp] theorem State.alertCheck_dev (s : State) : s.alertCheck.side.dev = s.side.dev := by
  have h : ∀ (t : State) (l : List Nat) (v : Option Bool), (t.each l fun s n => s.sbpOut n v).side = t.side :=
    fun t l v => State.each_keeps (·.side) _ _ _ fun _ _ => by simp
  unfold State.alertCheck
  simp only
  repeat' split
  all_goals simp [h]

/-! ### The registers that the statements read -/

theorem locate_GRD_TEST_WAIT : ∀ p : Part, locate (0xA00158 + p.val * 0x100) = some (GRD_TEST_WAIT, p.val, 0) := by decide +kernel
theorem locate_HPT_PEVT : ∀ p : Part, locate (0x100100 + p.val * 0x100) = some (HPT_PEVT, p.val, 0) := by decide +kernel
theorem locate_PAR_DLOG_HEAD : locate 0x200030 = some (PAR_DLOG_HEAD, 0, 0) := by decide +kernel
theorem locate_SYS_TB_low : locate 0x100 = some (SYS_TB, 0, 0) := by decide +kernel
theorem locate_SYS_TB_high : locate 0x104 = some (SYS_TB, 0, 1) := by decide +kernel

/-- GRD_TEST_WAIT reads the field that fills it. -/
theorem State.regWord_GRD_TEST_WAIT (s : State) {r : Req} (hr : reqPart r = none) (p : Nat) :
    s.regWord r GRD_TEST_WAIT p 0 = s.rd GRD_TEST_WAIT.MAX_TK p % 2 ^ 32 := by
  have hfields : (GRD_TEST_WAIT.fields.filter fun f => f.mask 0 != 0) = [GRD_TEST_WAIT.MAX_TK] := by decide
  have hstored : s.fieldValue r GRD_TEST_WAIT p GRD_TEST_WAIT.MAX_TK = s.rd GRD_TEST_WAIT.MAX_TK p := rfl
  rw [State.regWord, if_pos (s.sees_device hr _ p (by decide) (by decide)), hfields, wordOf_filled _ _ _ rfl (by decide), hstored]
  simp

/-- Each word of SYS_TB reads its half of the count. -/
theorem State.regWord_SYS_TB (s : State) {r : Req} (hr : reqPart r = none) {w : Nat} (hw : w < 2) :
    s.regWord r SYS_TB 0 w = s.now % 2 ^ 64 / 2 ^ (32 * w) % 2 ^ 32 := by
  have hfilled : (SYS_TB.fields.filter fun f => f.mask w != 0) = [SYS_TB.COUNT] ∧ SYS_TB.COUNT.mask w = 2 ^ 32 - 1 := by
    obtain rfl | rfl : w = 0 ∨ w = 1 := by omega
    · decide
    · decide
  have hview : s.fieldValue r SYS_TB 0 SYS_TB.COUNT = s.now % 2 ^ 64 % 2 ^ SYS_TB.COUNT.width := rfl
  have hcount : s.fieldValue r SYS_TB 0 SYS_TB.COUNT = s.now % 2 ^ 64 := hview.trans (Nat.mod_mod ..)
  rw [State.regWord, if_pos (s.sees_device hr _ 0 (by decide) (by decide)), hfilled.1, wordOf_filled _ _ _ rfl hfilled.2, hcount]

/-- The snapshot of SYS_TB is the 64-bit count. -/
theorem State.regWhole_SYS_TB (s : State) {r : Req} (hr : reqPart r = none) : s.regWhole r SYS_TB 0 0 2 = s.now % 2 ^ 64 := by
  have hhalves : ∀ n, n < 2 ^ 64 → n / 2 ^ (32 * 0) % 2 ^ 32 + n / 2 ^ (32 * 1) % 2 ^ 32 * 2 ^ 32 = n := fun n hn => by omega
  rw [State.regWhole_two, s.regWord_SYS_TB hr (by decide), s.regWord_SYS_TB hr (by decide)]
  exact hhalves _ (Nat.mod_lt _ (by decide))

/-- A read of GRD_TEST_WAIT clears its field. -/
theorem State.readClear_GRD_TEST_WAIT (s : State) {r : Req} (hr : reqPart r = none) (p : Nat) :
    s.readClear r GRD_TEST_WAIT p 0 = s.wr GRD_TEST_WAIT.MAX_TK p 0 := by
  have hfields : (GRD_TEST_WAIT.fields.filter fun f => decide (f.acc = .rc) && f.mask 0 != 0) = [GRD_TEST_WAIT.MAX_TK] := by decide
  rw [State.readClear, if_pos (s.sees_device hr _ p (by decide) (by decide)), hfields]
  rfl

/-- A register that is neither HPT_PEVT nor a ring head releases no vector. -/
theorem State.headRead_other (s : State) (r : Req) (g : Reg) (i : Nat) (h : g.oneOf [HPT_PEVT] = false ∧ g.oneOf [PAR_FLOG_HEAD] = false ∧ g.oneOf [PAR_DLOG_HEAD] = false) :
    s.headRead r g i = s := by
  obtain ⟨hpevt, hflog, hdlog⟩ := h
  simp [State.headRead, hpevt, hflog, hdlog]

/-- PF0's read of HPT_PEVT lets vector 0 of PF0 be sent again and serves the source DEV. -/
theorem State.headRead_HPT_PEVT (s : State) (x : Port) (i : Nat) : s.headRead (.host x 0) HPT_PEVT i =
    (s.onSide fun y => { y with dev := false }).onHosts fun h => { h with inh0 := Store.set false h.inh0 (funcKey x.val 0) false } := by
  rw [State.headRead, s.sees_device rfl _ i (by decide) (by decide)]
  rfl

/-- PF0's read of the device ring's head lets vector 3 of PF0 be sent again. -/
theorem State.headRead_PAR_DLOG_HEAD (s : State) (x : Port) (i : Nat) : s.headRead (.host x 0) PAR_DLOG_HEAD i =
    s.onHosts fun h => { h with inh3 := Store.set false h.inh3 (funcKey x.val 0) false } := by
  rw [State.headRead, s.sees_device rfl _ i (by decide) (by decide)]
  rfl

/-- RC_READ and SNAPSHOT_READ of an aligned word. -/
theorem execRcRead_aligned (r : Req) {off : Nat} (s : State) (h : off % 4 = 0) : execRcRead r off s = .next (s.answerRead r off) := by
  simp [execRcRead, h]
theorem execSnapshotRead_aligned (r : Req) {off : Nat} (s : State) (h : off % 4 = 0) : execSnapshotRead r off s = .next (s.answerRead r off) := by
  simp [execSnapshotRead, h]

section
variable {s : State} {x : Port} (hon : s.reqOn (.host x 0) = true)
include hon

/-- A read of GRD_TEST_WAIT clears its field, then answers what it held. -/
theorem State.answerRead_GRD_TEST_WAIT (p : Part) : s.answerRead (.host x 0) (0xA00158 + p.val * 0x100) =
    (s.wr GRD_TEST_WAIT.MAX_TK p.val 0).alertCheck.emit
      (.read (.host x 0) (0xA00158 + p.val * 0x100) (s.rd GRD_TEST_WAIT.MAX_TK p.val % 2 ^ 32)) := by
  have hmsix : ∀ p : Part, inMsix (0xA00158 + p.val * 0x100) = false := by decide
  rw [State.answerRead_host hon, s.readWord_single _ (hmsix p) (locate_GRD_TEST_WAIT p) (by decide), s.readClear_GRD_TEST_WAIT rfl,
    State.headRead_other _ _ _ _ (by decide), s.regWord_GRD_TEST_WAIT rfl]

/-- A read of the low word of SYS_TB answers the low half of the count and holds the whole of it. -/
theorem State.answerRead_SYS_TB_low : s.answerRead (.host x 0) 0x100 =
    (s.hold (.host x 0) 0x101 (s.now % 2 ^ 64)).emit (.read (.host x 0) 0x100 (s.now % 2 ^ 32)) := by
  have hlow : s.now % 2 ^ 64 % 2 ^ 32 = s.now % 2 ^ 32 := by omega
  rw [State.answerRead_host hon, s.readWord_first _ (by decide) locate_SYS_TB_low (by decide : SYS_TB.span 0 = (0, 2)) (by decide),
    s.regWhole_SYS_TB rfl, hlow]

/-- The high word of SYS_TB comes from the count that its requester holds. -/
theorem State.answerRead_SYS_TB_high (hheld : Store.get 0 s.shadow (2 * reqKey (.host x 0)) = 0x101) : s.answerRead (.host x 0) 0x104 =
    s.emit (.read (.host x 0) 0x104 (Store.get 0 s.shadow (2 * reqKey (.host x 0) + 1) / 2 ^ 32 % 2 ^ 32)) := by
  rw [State.answerRead_host hon, s.readWord_held _ (by decide) locate_SYS_TB_high (by decide : SYS_TB.span 1 = (0, 2)) (by decide) (by decide) hheld]

/-- PF0's read of HPT_PEVT lets vector 0 of PF0 be sent again and serves the source DEV of ALERT_N. -/
theorem State.answerRead_HPT_PEVT (p : Part) : ∃ v, s.answerRead (.host x 0) (0x100100 + p.val * 0x100) =
    ((s.onSide fun y => { y with dev := false }).onHosts fun h =>
      { h with inh0 := Store.set false h.inh0 (funcKey x.val 0) false }).alertCheck.emit (.read (.host x 0) (0x100100 + p.val * 0x100) v) := by
  have hmsix : ∀ p : Part, inMsix (0x100100 + p.val * 0x100) = false := by decide
  refine ⟨s.regWord (.host x 0) HPT_PEVT p.val 0, ?_⟩
  rw [State.answerRead_host hon, s.readWord_single _ (hmsix p) (locate_HPT_PEVT p) (by decide), s.readClear_none _ _ _ _ (by decide),
    State.headRead_HPT_PEVT]

/-- PF0's read of PAR_DLOG_HEAD lets vector 3 of PF0 be sent again. -/
theorem State.answerRead_PAR_DLOG_HEAD : ∃ v, s.answerRead (.host x 0) 0x200030 =
    (s.onHosts fun h => { h with inh3 := Store.set false h.inh3 (funcKey x.val 0) false }).alertCheck.emit (.read (.host x 0) 0x200030 v) := by
  refine ⟨s.regWord (.host x 0) PAR_DLOG_HEAD 0 0, ?_⟩
  rw [State.answerRead_host hon, s.readWord_single _ (by decide) locate_PAR_DLOG_HEAD (by decide), s.readClear_none _ _ _ _ (by decide),
    State.headRead_PAR_DLOG_HEAD]

end

/-- What a read does to the state but for its answer frames it with the alerts that follow and the answer itself. -/
theorem SameBut.answered {l : List Comp} {s t : State} (h : SameBut l s t) (o : Out) (hl : .out ∈ l) (hs : .side ∈ l) :
    SameBut l s (t.alertCheck.emit o) :=
  (h.trans ((State.alertCheck_sameBut t).mono (by simp [hl, hs]))).trans ((State.emit_sameBut _ o).mono (by simp [hl]))

/-- Settles O9: each read is the equation `State.answerRead_…` of its register. -/
theorem readsAnswerAndClear : Obligations.ReadsAnswerAndClear := by
  unfold Obligations.ReadsAnswerAndClear
  intro s x p hon
  refine ⟨?rc, ?snapshot, ?pevt, ?head⟩
  case rc =>
    have hrun := execRcRead_aligned (.host x 0) s (show (0xA00158 + p.val * 0x100) % 4 = 0 by omega)
    rw [State.answerRead_GRD_TEST_WAIT hon] at hrun
    have hregs : RegsBut [(GRD_TEST_WAIT.MAX_TK, p.val)] s (s.wr GRD_TEST_WAIT.MAX_TK p.val 0) := RegsBut.wr s _ _ _ (by simp)
    have hframe : SameBut [.regs, .out, .side] s (s.wr GRD_TEST_WAIT.MAX_TK p.val 0) := (State.wr_sameBut s _ _ _).mono (by simp)
    exact ⟨_, hrun, State.sent_emit .., by simp, fun f i h => by simpa using hregs f i h, hframe.answered _ (by simp) (by simp)⟩
  case snapshot =>
    have hlow := execSnapshotRead_aligned (.host x 0) s (show 0x100 % 4 = 0 by decide)
    rw [State.answerRead_SYS_TB_low hon] at hlow
    have hframe : SameBut [.shadow, .out] s (s.hold (.host x 0) 0x101 (s.now % 2 ^ 64)) := (State.hold_sameBut s _ _ _).mono (by simp)
    refine ⟨_, hlow, State.sent_emit .., hframe.trans ((State.emit_sameBut _ _).mono (by simp)), fun n => ?_⟩
    let u : State := { (s.hold (.host x 0) 0x101 (s.now % 2 ^ 64)).emit (.read (.host x 0) 0x100 (s.now % 2 ^ 32)) with now := n }
    have hheld : Store.get 0 u.shadow (2 * reqKey (.host x 0)) = 0x101 := State.hold_place s ..
    have hcount : Store.get 0 u.shadow (2 * reqKey (.host x 0) + 1) = s.now % 2 ^ 64 := State.hold_whole s ..
    have hhalf : s.now % 2 ^ 64 / 2 ^ 32 % 2 ^ 32 = s.now / 2 ^ 32 % 2 ^ 32 := by omega
    have hhigh := execSnapshotRead_aligned (.host x 0) u (show 0x104 % 4 = 0 by decide)
    rw [State.answerRead_SYS_TB_high (s := u) hon hheld, hcount, hhalf] at hhigh
    exact ⟨_, hhigh, State.sent_emit ..⟩
  case pevt =>
    obtain ⟨v, hread⟩ := State.answerRead_HPT_PEVT hon p
    have hside : SameBut [.hosts, .out, .side] s (s.onSide fun y => { y with dev := false }) := (State.onSide_sameBut s _).mono (by simp)
    have hhosts := hside.trans ((State.onHosts_sameBut _ fun h => { h with inh0 := Store.set false h.inh0 (funcKey x.val 0) false }).mono (by simp))
    have hrun := congrArg (Host.Outcome.next (φ := Fault) (ρ := Refusal)) hread
    exact ⟨_, hrun, by simp, by simp, hhosts.answered _ (by simp) (by simp)⟩
  case head =>
    obtain ⟨v, hread⟩ := State.answerRead_PAR_DLOG_HEAD hon
    have hhosts : SameBut [.hosts, .out, .side] s (s.onHosts fun h => { h with inh3 := Store.set false h.inh3 (funcKey x.val 0) false }) :=
      (State.onHosts_sameBut s _).mono (by simp)
    have hrun := congrArg (Host.Outcome.next (φ := Fault) (ρ := Refusal)) hread
    exact ⟨_, hrun, by simp, hhosts.answered _ (by simp) (by simp)⟩

/-! ### Steps and the state after reset (R6, R21) -/

/-- Settles O58: by the two cases of `step`; the tick's frame is that of `State.reach`. -/
theorem stepRunsTheFrontCommand : Obligations.StepRunsTheFrontCommand := by
  unfold Obligations.StepRunsTheFrontCommand
  intro s
  refine ⟨step_cons s, fun h => ⟨s.reach (s.now + 1), ?_, State.reach_now s _, State.reach_sameBut s _⟩⟩
  simp [step, h]

/-- Settles O57: every store of the reset state is empty, so that every key reads as an unlisted one does. -/
theorem resetLeavesEverythingAtRest : Obligations.ResetLeavesEverythingAtRest := by
  unfold Obligations.ResetLeavesEverythingAtRest
  exact ⟨fun _ _ => Store.get_nil .., fun _ => Store.get_nil .., fun _ => rfl, fun _ => rfl, fun _ => rfl, fun _ _ => rfl, rfl, rfl,
    by decide, State.reset_wf, rfl⟩

end Sys2Proof.Machine
end

section
/-! PROOFS. What an instruction of a thread does when it issues, the bytes of words in local memory, and the rule of each register, bank,
word and header slot that an instruction writes. -/

namespace Sys2Proof.Machine

/-! ### Frames of the updates that thread instructions make -/

theorem State.setThread_sameBut (s : State) (k : Nat) (t : Thread) : SameBut [.threads] s (s.setThread k t) := fun q hq => by
  cases q <;> simp_all [Same]

theorem State.setSreg_sameBut (s : State) (k r : Nat) (v : Word) : SameBut [.sregs] s (s.setSreg k r v) := fun q hq => by
  cases q <;> simp_all [Same]

theorem State.setVreg_sameBut (s : State) (k r : Nat) (v : Vec) : SameBut [.vregs] s (s.setVreg k r v) := fun q hq => by
  cases q <;> simp_all [Same]

theorem State.setWord_sameBut (s : State) (k : Nat) (w : MWord) : SameBut [.words] s (s.setWord k w) := fun q hq => by
  cases q <;> simp_all [Same]

theorem State.setHdr_sameBut (s : State) (k v : Nat) : SameBut [.hdrs] s (s.setHdr k v) := fun q hq => by
  cases q <;> simp_all [Same]

theorem State.setBank_sameBut (s : State) (c b : Nat) (g : Nat → Word) : SameBut [.accs] s (s.setBank c b g) := fun q hq => by
  cases q <;> simp_all [Same, State.setBank]

theorem State.vreg_setVreg_ne (s : State) (k r j q : Nat) (v : Vec) (h : j * 8 + q ≠ k * 8 + r) : (s.setVreg k r v).vreg j q = s.vreg j q := by
  simp [State.vreg, State.setVreg, Store.get_set_ne _ _ _ _ _ h]

/-! ### Issue (R140, R141, R519) -/

/-- A thread has issued an instruction, whatever the instruction goes on to do: its issue tick is now, and the counters are `d`. -/
def State.issuedAt (s : State) (k : Nat) (d : DbgU) : State := { s.setThread k { s.thread k with issued := s.now } with dbg := d }

section
variable (s : State) (k : Nat) (d : DbgU)

theorem State.mark_eq : s.mark k = s.issuedAt k (s.tally 0 (k / 32) 0x10 1).dbg := rfl
theorem State.mark_tally_eq :
    (s.mark k).tally 0 (k / 32) 0x11 1 = s.issuedAt k ((s.tally 0 (k / 32) 0x10 1).tally 0 (k / 32) 0x11 1).dbg := rfl

@[simp] theorem State.issuedAt_thread : (s.issuedAt k d).thread k = { s.thread k with issued := s.now } :=
  State.thread_setThread_same ..
theorem State.issuedAt_thread_ne {j : Nat} (h : j ≠ k) : (s.issuedAt k d).thread j = s.thread j :=
  State.thread_setThread_ne _ _ _ _ h
@[simp] theorem State.issuedAt_sreg (j r : Nat) : (s.issuedAt k d).sreg j r = s.sreg j r := rfl
@[simp] theorem State.issuedAt_sregs (j : Nat) : (s.issuedAt k d).sregs j = s.sregs j := rfl
@[simp] theorem State.issuedAt_vreg (j r : Nat) : (s.issuedAt k d).vreg j r = s.vreg j r := rfl
@[simp] theorem State.issuedAt_lword (t : Thr) (w : Nat) : (s.issuedAt k d).lword t w = s.lword t w := rfl
@[simp] theorem State.issuedAt_lwords (t : Thr) (a n : Nat) : (s.issuedAt k d).lwords t a n = s.lwords t a n := rfl
@[simp] theorem State.issuedAt_hdr (j : Nat) : (s.issuedAt k d).hdr j = s.hdr j := rfl
@[simp] theorem State.issuedAt_partRun (j : Nat) : (s.issuedAt k d).partRun j = s.partRun j := rfl
@[simp] theorem State.issuedAt_scrOk (j a n : Nat) : (s.issuedAt k d).scrOk j a n = s.scrOk j a n := rfl
@[simp] theorem State.issuedAt_program (f m : Nat) : (s.issuedAt k d).program f m = s.program f m := rfl
@[simp] theorem State.issuedAt_banksOf (t : Thr) : (s.issuedAt k d).banksOf t = s.banksOf t := rfl
@[simp] theorem State.issuedAt_thrSource (j : Nat) : (s.issuedAt k d).thrSource j = s.thrSource j := rfl

theorem State.issuedAt_sameBut : SameBut [.threads, .dbg] s (s.issuedAt k d) := fun q hq => by
  cases q <;> simp_all [Same, State.issuedAt]

end

/-- What `IssuedTo` and `IssuedMatrix` share: thread `k` has issued and goes on at `pc`, and the counters are `d`. -/
def IssuedWith (d : DbgU) (k pc : Nat) (l : List Comp) (s u : State) : Prop :=
  u.thread k = { s.thread k with pc := pc, issued := s.now } ∧ (∀ j, j ≠ k → u.thread j = s.thread j) ∧
  u.dbg = d ∧ SameBut (.threads :: .dbg :: l) s u

theorem issuedTo_iff {k pc : Nat} {l : List Comp} {s u : State} :
    IssuedTo k pc l s u ↔ IssuedWith (s.tally 0 (k / 32) 0x10 1).dbg k pc l s u := Iff.rfl

theorem issuedMatrix_iff {k : Nat} {l : List Comp} {s u : State} : IssuedMatrix k l s u ↔
    IssuedWith ((s.tally 0 (k / 32) 0x10 1).tally 0 (k / 32) 0x11 1).dbg k ((s.thread k).pc + 1) l s u := Iff.rfl

@[simp] theorem State.jump_sreg (s : State) (k pc j r : Nat) : (s.jump k pc).sreg j r = s.sreg j r := rfl
@[simp] theorem State.jump_vreg (s : State) (k pc j r : Nat) : (s.jump k pc).vreg j r = s.vreg j r := rfl

@[simp] theorem State.nextPc_sreg (s : State) (k j r : Nat) : (s.nextPc k).sreg j r = s.sreg j r := rfl
@[simp] theorem State.nextPc_acc (s : State) (k c b i : Nat) : (s.nextPc k).acc c b i = s.acc c b i := rfl
@[simp] theorem State.nextPc_lword (s : State) (k : Nat) (t : Thr) (w : Nat) : (s.nextPc k).lword t w = s.lword t w := rfl
@[simp] theorem State.nextPc_hdr (s : State) (k j : Nat) : (s.nextPc k).hdr j = s.hdr j := rfl

theorem State.nextPc_thread (s : State) (k : Nat) : (s.nextPc k).thread k = { s.thread k with pc := (s.thread k).pc + 1 } :=
  State.thread_setThread_same ..

theorem State.nextPc_thread_ne (s : State) {k j : Nat} (h : j ≠ k) : (s.nextPc k).thread j = s.thread j :=
  State.thread_setThread_ne _ _ _ _ h

theorem State.nextPc_sameBut (s : State) (k : Nat) : SameBut [.threads] s (s.nextPc k) := State.setThread_sameBut _ _ _

section
variable {s u : State} {k : Nat} {d : DbgU} {l : List Comp}

/-- An instruction that has issued, has written components `l` and goes on at `pc`. -/
theorem SameBut.jump_issued (h : SameBut l (s.issuedAt k d) u) (ht : .threads ∉ l) (hd : .dbg ∉ l) (pc : Nat) :
    IssuedWith d k pc l s (u.jump k pc) := by
  have hthreads (j : Nat) : u.thread j = (s.issuedAt k d).thread j := congrArg (Store.get thread0 · j) (h .threads ht)
  refine ⟨?_, fun j hj => ?_, h .dbg hd, ?_⟩
  · simp [State.jump, hthreads]
  · rw [State.jump, State.thread_setThread_ne _ _ _ _ hj, hthreads, State.issuedAt_thread_ne _ _ _ hj]
  · have hmark := (State.issuedAt_sameBut s k d).mono (m := .threads :: .dbg :: l) (by simp)
    have hjump := (State.setThread_sameBut u k { u.thread k with pc := pc }).mono (m := .threads :: .dbg :: l) (by simp)
    exact (hmark.trans (h.mono fun q hq => by simp [hq])).trans hjump

/-- The next word, for a thread whose context nothing but the issue has changed. -/
theorem State.nextPc_issued (h : u.thread k = (s.issuedAt k d).thread k) : u.nextPc k = u.jump k ((s.thread k).pc + 1) := by
  rw [State.nextPc, h, State.issuedAt_thread, State.jump, h, State.issuedAt_thread]

/-- An instruction that has issued, has written components `l` and goes on to the next word. -/
theorem SameBut.nextPc_issued (h : SameBut l (s.issuedAt k d) u) (ht : .threads ∉ l) (hd : .dbg ∉ l) :
    IssuedWith d k ((s.thread k).pc + 1) l s (u.nextPc k) := by
  rw [State.nextPc_issued (congrArg (Store.get thread0 · k) (h .threads ht))]
  exact h.jump_issued ht hd _

theorem State.setSreg_nextPc (s : State) (k : Nat) (d : DbgU) (r : Nat) (v : Word) :
    ((s.issuedAt k d).setSreg k r v).nextPc k = ((s.issuedAt k d).setSreg k r v).jump k ((s.thread k).pc + 1) := State.nextPc_issued (d := d) rfl

theorem State.setVreg_nextPc (s : State) (k : Nat) (d : DbgU) (r : Nat) (v : Vec) :
    ((s.issuedAt k d).setVreg k r v).nextPc k = ((s.issuedAt k d).setVreg k r v).jump k ((s.thread k).pc + 1) := State.nextPc_issued (d := d) rfl

/-- An instruction that writes one scalar register. -/
theorem State.setSreg_issued (s : State) (k : Nat) (d : DbgU) {r : Nat} (hr : r < 32) (v : Word) (pc : Nat) :
    IssuedWith d k pc [.sregs] s (((s.issuedAt k d).setSreg k r v).jump k pc) ∧ (((s.issuedAt k d).setSreg k r v).jump k pc).sreg k r = v ∧
    SregsBut k r s (((s.issuedAt k d).setSreg k r v).jump k pc) :=
  ⟨(State.setSreg_sameBut _ k r v).jump_issued (by simp) (by simp) pc, by simp,
    fun j q hq hne => State.sreg_setSreg_ne (s.issuedAt k d) k r j q v (by omega)⟩

/-- An instruction that writes one vector register. -/
theorem State.setVreg_issued (s : State) (k : Nat) (d : DbgU) {r : Nat} (hr : r < 8) (v : Vec) (pc : Nat) :
    IssuedWith d k pc [.vregs] s (((s.issuedAt k d).setVreg k r v).jump k pc) ∧ (((s.issuedAt k d).setVreg k r v).jump k pc).vreg k r = v ∧
    VregsBut k r s (((s.issuedAt k d).setVreg k r v).jump k pc) :=
  ⟨(State.setVreg_sameBut _ k r v).jump_issued (by simp) (by simp) pc, by simp,
    fun j q hq hne => State.vreg_setVreg_ne (s.issuedAt k d) k r j q v (by omega)⟩

end

section
variable {s : State} {t : Thr}

theorem Issuable.ready (h : Issuable s t) : (s.thread (thrOf t)).st = .ready := by
  have hcan := h.1
  simp only [State.canIssue, Bool.and_eq_true, decide_eq_true_eq] at hcan
  exact hcan.1

theorem Issuable.issue (h : Issuable s t) (reads0 : Bool) (g : Nat → State → State) :
    s.issue t reads0 g = g (thrOf t) (s.issuedAt (thrOf t) (s.tally 0 (thrOf t / 32) 0x10 1).dbg) := by
  obtain ⟨hcan, hpc, howed⟩ := h
  simp [State.issue, hcan, hpc, howed, State.mark_eq]

theorem Issuable.issueJump (h : Issuable s t) (reads0 : Bool) (g : Nat → State → State) :
    s.issueJump t reads0 g = g (thrOf t) (s.issuedAt (thrOf t) (s.tally 0 (thrOf t / 32) 0x10 1).dbg) := by
  obtain ⟨hcan, -, howed⟩ := h
  simp [State.issueJump, hcan, howed, State.mark_eq]

theorem Issuable.onBank (h : Issuable s t) {b : Fin 4} (hb : bit (s.banksOf t) b.val = true) (g : Nat → State → State) :
    s.onBank t b g =
      g (thrOf t) (s.issuedAt (thrOf t) ((s.tally 0 (thrOf t / 32) 0x10 1).tally 0 (thrOf t / 32) 0x11 1).dbg) := by
  rw [State.onBank, h.issue, State.issuedAt_banksOf, if_pos hb, ← State.mark_eq, State.mark_tally_eq]

variable {c : Instr} {reads0 : Bool} {g : Nat → State → State} {P : State → Prop}

/-- How an instruction that goes on to the next word completes. -/
theorem Completes.of_issue (hi : Issuable s t) (hc : exec c s = .next (s.issue t reads0 g))
    (h : P (g (thrOf t) (s.issuedAt (thrOf t) (s.tally 0 (thrOf t / 32) 0x10 1).dbg))) : Completes c s P :=
  ⟨_, hc, by rwa [hi.issue]⟩

/-- How an instruction that says itself where it goes on completes. -/
theorem Completes.of_issueJump (hi : Issuable s t) (hc : exec c s = .next (s.issueJump t reads0 g))
    (h : P (g (thrOf t) (s.issuedAt (thrOf t) (s.tally 0 (thrOf t / 32) 0x10 1).dbg))) : Completes c s P :=
  ⟨_, hc, by rwa [hi.issueJump]⟩

/-- How a matrix instruction on a claimed bank completes. -/
theorem Completes.of_onBank (hi : Issuable s t) {b : Fin 4} (hb : bit (s.banksOf t) b.val = true) (hc : exec c s = .next (s.onBank t b g))
    (h : P (g (thrOf t) (s.issuedAt (thrOf t) ((s.tally 0 (thrOf t / 32) 0x10 1).tally 0 (thrOf t / 32) 0x11 1).dbg))) :
    Completes c s P :=
  ⟨_, hc, by rwa [hi.onBank hb]⟩

end

/-! ### Bytes and words -/

theorem ofBytes_append (a b : List Nat) : ofBytes (a ++ b) = ofBytes a + 256 ^ a.length * ofBytes b := by
  induction a with
  | nil => simp [ofBytes]
  | cons x r ih => simp only [List.cons_append, ofBytes, ih, List.length_cons, Nat.pow_succ', Nat.mul_add, Nat.mul_assoc, Nat.add_assoc]

theorem length_bytesOf (k n : Nat) : (bytesOf k n).length = k := by
  induction k generalizing n with
  | zero => rfl
  | succ k ih => simp [bytesOf, ih]

theorem ofBytes_bytesOf (k n : Nat) : ofBytes (bytesOf k n) = n % 256 ^ k := by
  induction k generalizing n with
  | zero => simp [bytesOf, ofBytes, Nat.mod_one]
  | succ k ih => rw [bytesOf, ofBytes, ih, Nat.mod_mod, Nat.pow_succ', Nat.mod_mul]

/-- The number of a list of words, byte by byte, holds each word in its place. -/
theorem ofBytes_words (l : List MWord) {i : Nat} (h : i < l.length) :
    ofBytes (l.flatMap fun w => bytesOf 8 w.data.toNat) / 2 ^ (64 * i) % 2 ^ 64 = l[i].data.toNat := by
  induction l generalizing i with
  | nil => simp at h
  | cons w r ih =>
    have hw : w.data.toNat < 256 ^ 8 := w.data.isLt
    rw [List.flatMap_cons, ofBytes_append, length_bytesOf, ofBytes_bytesOf, Nat.mod_eq_of_lt hw]
    cases i with
    | zero => simp only [List.getElem_cons_zero]; omega
    | succ i =>
      have hdiv (r : Nat) : (w.data.toNat + 256 ^ 8 * r) / 2 ^ (64 * (i + 1)) = r / 2 ^ (64 * i) := by
        rw [Nat.mul_succ, Nat.add_comm (64 * i), Nat.pow_add, ← Nat.div_div_eq_div_mul]
        congr 1
        omega
      rw [hdiv, ih (by simpa using h), List.getElem_cons_succ]

theorem setWidth_ofNat_shift (x : Nat) {i : Nat} (hi : i < 8) :
    ((BitVec.ofNat 512 x) >>> (64 * i)).setWidth 64 = BitVec.ofNat 64 (x / 2 ^ (64 * i)) := by
  apply BitVec.eq_of_getLsbD_eq
  intro j hj
  have hin : 64 * i + j < 512 := by omega
  rw [BitVec.getLsbD_setWidth, BitVec.getLsbD_ushiftRight, BitVec.getLsbD_ofNat, BitVec.getLsbD_ofNat, Nat.testBit_div_two_pow,
    Nat.add_comm j, decide_eq_true hin, Bool.true_and]

theorem vecWords_getElem (v : Vec) {i : Nat} (hi : i < (vecWords v).length) : (vecWords v)[i] = (v >>> (64 * i)).setWidth 64 := by
  apply BitVec.eq_of_toNat_eq
  simp [vecWords, Nat.shiftRight_eq_div_pow]

/-- The extension that LD makes of bytes of a word, as bit vectors. -/
theorem loadPart_eq (w : Word) (off : Nat) {n : Nat} (hn : 0 < n) (sx : Bool) : loadPart w off n sx =
    if sx then ((w >>> (8 * off)).setWidth (8 * n)).signExtend 64 else ((w >>> (8 * off)).setWidth (8 * n)).setWidth 64 := by
  have hv : w.toNat / 2 ^ (8 * off) % 2 ^ (8 * n) = ((w >>> (8 * off)).setWidth (8 * n)).toNat := by
    simp [Nat.shiftRight_eq_div_pow]
  have htop : 2 ^ (8 * n) = 2 * 2 ^ (8 * n - 1) := by rw [← Nat.pow_succ']; congr 1; omega
  rw [loadPart, hv]
  generalize (w >>> (8 * off)).setWidth (8 * n) = v
  cases sx with
  | false => simp
  | true =>
    rw [if_pos rfl, BitVec.signExtend, BitVec.toInt_eq_toNat_cond]
    by_cases hneg : 2 ^ (8 * n - 1) ≤ v.toNat
    · rw [if_pos (by simpa using hneg), if_neg (by omega)]; rfl
    · rw [if_neg (by simpa using hneg), if_pos (by omega)]; simp

/-- A number with `q` bits replaced from bit `p` on, written as what stands above them, the new bits and what stands below. -/
theorem replaceBits_eq (w v p q : Nat) :
    w - w / 2 ^ p % 2 ^ q * 2 ^ p + v % 2 ^ q * 2 ^ p = 2 ^ p * (2 ^ q * (w / 2 ^ p / 2 ^ q) + v % 2 ^ q) + w % 2 ^ p := by
  have hlow := Nat.div_add_mod w (2 ^ p)
  have hmid := Nat.div_add_mod (w / 2 ^ p) (2 ^ q)
  generalize w / 2 ^ p = high at hlow hmid ⊢
  generalize high / 2 ^ q = top at hmid ⊢
  generalize high % 2 ^ q = mid at hmid ⊢
  have hexpand : 2 ^ p * (2 ^ q * top + mid) = mid * 2 ^ p + 2 ^ p * (2 ^ q * top) := by
    rw [Nat.mul_add, Nat.mul_comm mid, Nat.add_comm]
  have hrest : w - mid * 2 ^ p = 2 ^ p * (2 ^ q * top) + w % 2 ^ p := by
    rw [← hmid, hexpand] at hlow
    omega
  rw [hrest, Nat.mul_add, Nat.mul_comm (v % 2 ^ q), Nat.add_right_comm]

/-- Bytes of a word replaced: which bit comes from where. -/
theorem getLsbD_mergePart (w v : Word) {off n i : Nat} (hi : i < 64) : (mergePart w v off n).getLsbD i =
    if 8 * off ≤ i ∧ i < 8 * (off + n) then v.getLsbD (i - 8 * off) else w.getLsbD i := by
  rw [mergePart, BitVec.getLsbD_ofNat, replaceBits_eq, Nat.testBit_two_pow_mul_add _ (Nat.mod_lt _ (Nat.two_pow_pos _)),
    Nat.testBit_two_pow_mul_add _ (Nat.mod_lt _ (Nat.two_pow_pos _))]
  simp only [Nat.testBit_mod_two_pow, Nat.testBit_div_two_pow, BitVec.getLsbD, hi, decide_true, Bool.true_and]
  rcases Nat.lt_or_ge i (8 * off) with hlo | hlo
  · rw [if_pos hlo, if_neg (by omega), decide_eq_true hlo, Bool.true_and]
  · rw [if_neg (by omega)]
    rcases Nat.lt_or_ge i (8 * (off + n)) with hin | hout
    · rw [if_pos (by omega), if_pos ⟨hlo, hin⟩, decide_eq_true (by omega), Bool.true_and]
    · rw [if_neg (by omega), if_neg (by omega)]
      congr 1
      omega

/-- Bytes of a word replaced: which byte comes from where. -/
theorem byte_mergePart (w v : Word) {off n j : Nat} (hj : j < 8) : ((mergePart w v off n) >>> (8 * j)).setWidth 8 =
    if off ≤ j ∧ j < off + n then (v >>> (8 * (j - off))).setWidth 8 else (w >>> (8 * j)).setWidth 8 := by
  apply BitVec.eq_of_getLsbD_eq
  intro i hi
  by_cases hin : off ≤ j ∧ j < off + n
  · have hbit : 8 * j + i - 8 * off = 8 * (j - off) + i := by omega
    rw [if_pos hin]
    simp [hi, getLsbD_mergePart w v (show 8 * j + i < 64 by omega), hbit]
    omega
  · rw [if_neg hin]
    simp [hi, getLsbD_mergePart w v (show 8 * j + i < 64 by omega)]
    omega

/-! ### Local memory (R143, R147) -/

theorem localWord_inj {f m v w : Nat} : localWord f m v = localWord f m w ↔ v = w := by
  simp [localWord, tileWord]

section
variable {s : State} {t : Thr} {k a n : Nat}

theorem State.lword_setWord_same (w : Nat) (x : MWord) : (s.setWord (localWord t.f.val t.m.val w) x).lword t w = x :=
  State.word_setWord_same ..

/-- An access that is aligned, in local memory and in the scratch window of the part that the thread runs meets no fault. -/
theorem State.access_issued {al : Nat} {d : DbgU} (ha : a % al = 0) (hr : a + n ≤ 0x80000) (hs : s.scrOk k a n = true) (x y z : State) :
    (if !localOk a n al then x else if !(s.issuedAt k d).scrOk k a n then y else z) = z := by
  simp [localOk, ha, hr, hs]

theorem State.lwords_clean (h : ∀ i, i < n → (s.lword t (a / 8 + i)).poison = false) : ¬(s.lwords t a n).any (·.poison) = true := by
  simpa [State.lwords] using h

end

/-- Induction on a list from its end, as `putWords` stores it. -/
theorem list_concat_induction {α : Type} {motive : List α → Prop} (nil : motive [])
    (concat : ∀ l x, motive l → motive (l ++ [x])) (l : List α) : motive l := by
  rw [← List.reverse_reverse l]
  induction l.reverse with
  | nil => exact nil
  | cons x r ih => rw [List.reverse_cons]; exact concat _ x ih

section
variable (s : State) (t : Thr) (a : Nat) (l : List Word)

/-- The words but the last are stored first. -/
theorem State.putWords_concat (x : Word) : s.putWords t a (l ++ [x]) = (s.putWords t a l).setWord (localWord t.f.val t.m.val (a / 8 + l.length))
    ⟨x, ((s.putWords t a l).lword t (a / 8 + l.length)).full, false⟩ := by
  simp [State.putWords, State.each, List.zipIdx_append]

theorem State.putWords_sameBut : SameBut [.words] s (s.putWords t a l) := by
  induction l using list_concat_induction with
  | nil => exact SameBut.refl _ s
  | concat l x ih => rw [State.putWords_concat]; exact ih.trans (State.setWord_sameBut _ _ _)

theorem State.putWords_wordsBut : WordsBut t.f.val t.m.val (a / 8) l.length s (s.putWords t a l) := by
  induction l using list_concat_induction with
  | nil => exact fun _ _ => rfl
  | concat l x ih =>
    intro k hk
    rw [List.length_append, List.length_singleton] at hk
    rw [State.putWords_concat, State.word_setWord_ne _ _ _ _ (hk l.length (by omega)), ih k fun i hi => hk i (by omega)]

theorem State.putWords_lword {i : Nat} (hi : i < l.length) :
    (s.putWords t a l).lword t (a / 8 + i) = ⟨l[i], (s.lword t (a / 8 + i)).full, false⟩ := by
  induction l using list_concat_induction with
  | nil => simp at hi
  | concat l x ih =>
    rw [State.putWords_concat]
    rcases Nat.lt_or_ge i l.length with hlt | hge
    · have hne : localWord t.f.val t.m.val (a / 8 + i) ≠ localWord t.f.val t.m.val (a / 8 + l.length) := by
        rw [ne_eq, localWord_inj]; omega
      rw [State.lword, State.word_setWord_ne _ _ _ _ hne, List.getElem_append_left hlt]
      exact ih hlt
    · obtain rfl : i = l.length := by simp at hi; omega
      have hfull : (s.putWords t a l).lword t (a / 8 + l.length) = s.lword t (a / 8 + l.length) :=
        State.putWords_wordsBut s t a l _ fun j hj => by rw [ne_eq, localWord_inj]; omega
      rw [State.lword, State.word_setWord_same, hfull, List.getElem_concat_length rfl]

end

/-! ### Accumulator banks (R138) -/

/-- A row of keys written one after the other. -/
theorem Store.get_foldl_set {α : Type} [DecidableEq α] (d : α) (m : Store α) (b n j : Nat) (g : Nat → α) :
    Store.get d ((List.range n).foldl (fun m i => Store.set d m (b + i) (g i)) m) j =
      if b ≤ j ∧ j < b + n then g (j - b) else Store.get d m j := by
  induction n with
  | zero => rw [if_neg (by omega)]; rfl
  | succ n ih =>
    rw [List.range_succ, List.foldl_append, List.foldl_cons, List.foldl_nil]
    by_cases hj : j = b + n
    · rw [hj, Store.get_set_same, if_pos (by omega), Nat.add_sub_cancel_left]
    · rw [Store.get_set_ne _ _ _ _ _ hj, ih]
      by_cases hin : b ≤ j ∧ j < b + n
      · rw [if_pos hin, if_pos (by omega)]
      · rw [if_neg hin, if_neg (by omega)]

theorem State.acc_setBank (s : State) (c b : Nat) (g : Nat → Word) {i : Nat} (hi : i < 128) : (s.setBank c b g).acc c b i = g i := by
  rw [State.acc, State.setBank, State.onCores_cores, Store.get_foldl_set, if_pos (by omega), Nat.add_sub_cancel_left]

theorem State.setBank_banksBut (s : State) (c : Nat) {b : Nat} (hb : b < 4) (g : Nat → Word) : BanksBut c b s (s.setBank c b g) := by
  intro d a i ha hi hne
  rw [State.acc, State.setBank, State.onCores_cores, Store.get_foldl_set, if_neg (by omega), State.acc]

theorem BanksBut.nextPc {c b k : Nat} {s u : State} (h : BanksBut c b s u) : BanksBut c b s (u.nextPc k) := h
theorem WordsBut.nextPc {f m w n k : Nat} {s u : State} (h : WordsBut f m w n s u) : WordsBut f m w n s (u.nextPc k) := h

/-- A matrix instruction that fills its bank. -/
theorem State.setBank_issued (s : State) (k : Nat) (d : DbgU) (c : Nat) (b : Fin 4) (g : Nat → Word) :
    IssuedWith d k ((s.thread k).pc + 1) [.accs] s (((s.issuedAt k d).setBank c b.val g).nextPc k) ∧
    (∀ i, i < 128 → (((s.issuedAt k d).setBank c b.val g).nextPc k).acc c b.val i = g i) ∧
    BanksBut c b.val s (((s.issuedAt k d).setBank c b.val g).nextPc k) :=
  ⟨(State.setBank_sameBut _ c b.val g).nextPc_issued (by simp) (by simp), fun _ hi => (State.nextPc_acc ..).trans (State.acc_setBank _ c b.val g hi),
    (State.setBank_banksBut (s.issuedAt k d) c b.isLt g).nextPc⟩

/-- An instruction that stores words one after the other in local memory. -/
theorem State.putWords_issued (s : State) (t : Thr) (k a : Nat) (d : DbgU) (l : List Word) :
    IssuedWith d k ((s.thread k).pc + 1) [.words] s (((s.issuedAt k d).putWords t a l).nextPc k) ∧
    (∀ i, (hi : i < l.length) →
      (((s.issuedAt k d).putWords t a l).nextPc k).lword t (a / 8 + i) = ⟨l[i], (s.lword t (a / 8 + i)).full, false⟩) ∧
    WordsBut t.f.val t.m.val (a / 8) l.length s (((s.issuedAt k d).putWords t a l).nextPc k) :=
  ⟨(State.putWords_sameBut _ t a l).nextPc_issued (by simp) (by simp),
    fun _ hi => (State.nextPc_lword ..).trans (State.putWords_lword (s.issuedAt k d) t a l hi),
    (State.putWords_wordsBut (s.issuedAt k d) t a l).nextPc⟩

/-! ### Sources, statuses and THR.START (R153, R154) -/

theorem thrOf_field (t : Thr) : thrOf t / 32 / 152 = t.f.val := by
  unfold thrOf thrKey coreKey; omega

theorem State.thrSource_part (s : State) (t : Thr) : (s.thrSource (thrOf t)).part = (s.partOf t.f.val).getD 0 := by
  rw [State.thrSource, thrOf_field]

theorem State.done_unowed {s : State} {k : Nat} (h : s.owed k = []) (v : Nat) :
    s.done k v = (s.setSreg k 0 (BitVec.ofNat 64 v)).nextPc k := by
  simp [State.done, State.status, h]

@[simp] theorem State.setSreg_thread (s : State) (k r : Nat) (v : Word) (j : Nat) : (s.setSreg k r v).thread j = s.thread j := rfl

@[simp] theorem State.setThread_sreg (s : State) (k : Nat) (x : Thread) (j r : Nat) : (s.setThread k x).sreg j r = s.sreg j r := rfl

/-- THR.START of a thread that can be started. -/
theorem execThrStart_declared {s : State} {t : Thr} {j : ThreadId} {g : Program} {d : ThreadDecl} (hi : Issuable s t)
    (hrun : s.partRun (thrOf t) = none) (hprog : s.program t.f.val t.m.val = some g) (hdecl : g.threads.find? (·.t = j.val) = some d)
    (hspan : g.spans.contains j.val = false) (hne : thrKey t.f.val t.m.val j.val ≠ thrOf t)
    (hst : (s.thread (thrKey t.f.val t.m.val j.val)).st = .idle ∨ (s.thread (thrKey t.f.val t.m.val j.val)).st = .done) :
    execThrStart t j s = .next ((((s.issuedAt (thrOf t) (s.tally 0 (thrOf t / 32) 0x10 1).dbg).setThread (thrKey t.f.val t.m.val j.val)
      { s.thread (thrKey t.f.val t.m.val j.val) with st := .ready, pc := d.entry % 8192 }).setSreg (thrOf t) 0 0).nextPc (thrOf t)) := by
  obtain ⟨-, -, howed⟩ := id hi
  rw [execThrStart, hi.issue, State.forbidden, State.issuedAt_partRun, hrun, if_neg (by simp), State.issuedAt_program, hprog,
    Option.bind_some, hdecl]
  simp only [Option.any_some, hspan, Bool.false_eq_true, if_false]
  rw [State.issuedAt_thread_ne _ _ _ hne, if_pos hst, State.done_unowed (by exact howed)]
  rfl

end Sys2Proof.Machine
end

section
/-! PROOFS. The statements of 06_cores_threads.md on registers, local memory, accumulator banks, headers and threads. -/

namespace Sys2Proof.Machine

/-! ### Compute and control (R142, R146, R152) -/

/-- Settles O1: by the rule of the register that each class writes. -/
theorem computeWritesOneRegister : Obligations.ComputeWritesOneRegister := by
  unfold Obligations.ComputeWritesOneRegister
  intro s t w sd hi
  refine ⟨.of_issue hi rfl ?scalar, .of_issue hi rfl ?vector, .of_issue hi rfl ?ident⟩
  case scalar =>
    rw [State.setSreg_nextPc]
    exact State.setSreg_issued s (thrOf t) _ (Nat.mod_lt _ (by decide)) _ _
  case vector =>
    dsimp only
    have hd : Config.vectorDest w.toNat % 40 < 40 := Nat.mod_lt _ (by decide)
    generalize Config.vectorDest w.toNat % 40 = d at hd ⊢
    by_cases hlt : d < 8
    · rw [if_pos hlt, if_pos hlt, State.setVreg_nextPc]
      obtain ⟨hissued, hreg, hbut⟩ := State.setVreg_issued s (thrOf t) _ hlt _ _
      exact ⟨hissued, fun _ => ⟨hreg, hbut⟩, fun hge => absurd hlt (by omega)⟩
    · rw [if_neg hlt, if_neg hlt, State.setSreg_nextPc, BitVec.ofNat_toNat]
      obtain ⟨hissued, hreg, hbut⟩ := State.setSreg_issued s (thrOf t) _ (r := d - 8) (by omega) _ _
      exact ⟨hissued, fun h => absurd h hlt, fun _ => ⟨hreg, hbut⟩⟩
  case ident =>
    rw [State.setSreg_nextPc]
    exact State.setSreg_issued s (thrOf t) _ sd.isLt _ _

/-- Settles O2: each instruction is a jump to the word that the statement names. -/
theorem controlMovesProgramCounter : Obligations.ControlMovesProgramCounter := by
  unfold Obligations.ControlMovesProgramCounter
  intro s t w dest r hi
  obtain ⟨-, hpc, -⟩ := id hi
  have hjump (pc : Nat) := (SameBut.refl [] (s.issuedAt (thrOf t) (s.tally 0 (thrOf t / 32) 0x10 1).dbg)).jump_issued (by simp) (by simp) pc
  refine ⟨.of_issueJump hi rfl (hjump _), .of_issueJump hi rfl ?brc, .of_issueJump hi rfl ?call, fun hret => .of_issueJump hi rfl ?ret⟩
  case brc =>
    rw [State.issuedAt_sregs, State.issuedAt_thread, if_neg hpc, State.nextPc_issued rfl, ← apply_ite (State.jump _ _)]
    exact hjump _
  case call =>
    rw [State.issuedAt_thread]
    exact State.setSreg_issued s (thrOf t) _ r.isLt _ _
  case ret =>
    rw [State.issuedAt_sreg, if_neg (by omega)]
    exact hjump _

/-! ### Matrix instructions (R138, R142, R152) -/

/-- Settles O3: MMA, ACC.ZERO and ACC.LD by the rule of a bank that is filled, ACC.ST by the rule of words stored. -/
theorem matrixOnClaimedBank : Obligations.MatrixOnClaimedBank := by
  unfold Obligations.MatrixOnClaimedBank
  intro s t b w a hi hb
  refine ⟨.of_onBank hi hb rfl ?zero, .of_onBank hi hb rfl ?mma,
    fun ha hr hs => ⟨fun hclean => .of_onBank hi hb rfl ?load, .of_onBank hi hb rfl ?store⟩⟩
  case zero => exact State.setBank_issued s (thrOf t) _ _ b _
  case mma => exact State.setBank_issued s (thrOf t) _ _ b _
  case load =>
    rw [State.access_issued ha hr hs, State.issuedAt_lwords, if_neg (State.lwords_clean hclean)]
    exact State.setBank_issued s (thrOf t) _ _ b _
  case store =>
    rw [State.access_issued ha hr hs]
    have hlen : (s.bank (thrOf t / 32) b.val).length = 128 := by simp [State.bank]
    obtain ⟨hissued, hwords, hbut⟩ := State.putWords_issued s t (thrOf t) a.toNat _ (s.bank (thrOf t / 32) b.val)
    rw [hlen] at hbut
    refine ⟨hissued, fun i hlt => (hwords i (by omega)).trans ?_, hbut⟩
    simp [State.bank]

/-! ### Loads and stores (R143, R144, R147) -/

/-- Settles O4: by the rules of the register that each load writes and the values that `loadPart_eq` and `ofBytes_words` give. -/
theorem loadsReadLocalMemory : Obligations.LoadsReadLocalMemory := by
  unfold Obligations.LoadsReadLocalMemory
  intro s t lg sx sd vd slot a hi
  refine ⟨fun ha hr hs hclean => .of_issue hi rfl ?ld, fun ha hr hs hclean => .of_issue hi rfl ?ldV, .of_issue hi rfl ?ldHdr⟩
  case ld =>
    dsimp only
    rw [State.access_issued ha hr hs, State.issuedAt_lword, if_neg (by simp [hclean]), State.setSreg_nextPc, loadPart_eq _ _ (Nat.two_pow_pos _)]
    obtain ⟨hissued, hreg, hbut⟩ := State.setSreg_issued s (thrOf t) _ sd.isLt _ _
    exact ⟨hissued, hbut, hreg⟩
  case ldV =>
    dsimp only
    rw [State.access_issued ha hr hs, State.issuedAt_lwords, if_neg (State.lwords_clean hclean), State.setVreg_nextPc]
    obtain ⟨hissued, hreg, hbut⟩ := State.setVreg_issued s (thrOf t) _ vd.isLt _ _
    refine ⟨hissued, hbut, fun i hlt => ?_⟩
    have hlen : i < (s.lwords t a.toNat 8).length := by simpa [State.lwords] using hlt
    rw [hreg, setWidth_ofNat_shift _ hlt]
    apply BitVec.eq_of_toNat_eq
    rw [BitVec.toNat_ofNat, ofBytes_words _ hlen]
    simp [State.lwords]
  case ldHdr =>
    rw [State.setVreg_nextPc]
    obtain ⟨hissued, hreg, hbut⟩ := State.setVreg_issued s (thrOf t) _ vd.isLt _ _
    exact ⟨hissued, hbut, hreg⟩

/-- Settles O5: ST by the bytes of `mergePart`, ST.V by the rule of words stored. -/
theorem storesWriteLocalMemory : Obligations.StoresWriteLocalMemory := by
  unfold Obligations.StoresWriteLocalMemory
  intro s t lg sb vb a hi
  refine ⟨fun ha hr hs hclean => .of_issue hi rfl ?st, fun ha hr hs => .of_issue hi rfl ?stV⟩
  case st =>
    have hwhole : ¬((s.lword t (a.toNat / 8)).poison = true ∧ 2 ^ lg.val < 8) := by
      rcases hclean with hclean | rfl
      · exact fun h => absurd h.1 (by simp [hclean])
      · exact fun h => absurd h.2 (by decide)
    dsimp only
    rw [State.access_issued ha hr hs, State.issuedAt_lword, State.issuedAt_sreg, if_neg hwhole]
    refine ⟨(State.setWord_sameBut _ _ _).nextPc_issued (by simp) (by simp),
      fun k hk => State.word_setWord_ne _ _ _ _ (hk 0 (by simp)), ?_, ?_, fun j hj => ?_⟩
    · rw [State.nextPc_lword, State.lword_setWord_same]
    · rw [State.nextPc_lword, State.lword_setWord_same]
    · rw [State.nextPc_lword, State.lword_setWord_same]
      exact byte_mergePart _ _ hj
  case stV =>
    rw [State.access_issued ha hr hs]
    have hlen : (vecWords (s.vreg (thrOf t) vb.val)).length = 8 := by simp [vecWords]
    obtain ⟨hissued, hwords, hbut⟩ := State.putWords_issued s t (thrOf t) a.toNat _ (vecWords (s.vreg (thrOf t) vb.val))
    rw [hlen] at hbut
    refine ⟨hissued, hbut, fun i hlt => (hwords i (by omega)).trans ?_⟩
    rw [vecWords_getElem]

/-! ### Headers and threads (R154, R585) -/

/-- Settles O16: ST.HDR by the rule of one header slot, THR.START and THR.EXIT by the writes of the threads they name. -/
theorem headersAndThreadStart : Obligations.HeadersAndThreadStart := by
  unfold Obligations.HeadersAndThreadStart
  intro s t vb slot j g d hi
  refine ⟨.of_issue hi rfl ?stHdr, fun hrun hprog hdecl hspan hst => ?start, .of_issueJump hi rfl ?exit⟩
  case stHdr =>
    refine ⟨(State.setHdr_sameBut _ _ _).nextPc_issued (by simp) (by simp), ?_, fun k hk => ?_⟩
    · rw [State.nextPc_hdr, State.hdr_setHdr_same, State.issuedAt_thrSource, State.thrSource_part, State.issuedAt_vreg]
    · rw [State.nextPc_hdr, State.hdr_setHdr_ne _ _ _ _ hk, State.issuedAt_hdr]
  case start =>
    have hne : thrKey t.f.val t.m.val j.val ≠ thrOf t := by
      intro heq
      rw [heq, hi.ready] at hst
      simp at hst
    refine ⟨_, execThrStart_declared hi hrun hprog hdecl hspan hne hst, ?_⟩
    refine ⟨?_, ?_, ?_, ?_, fun q r hr hqr => ?_, fun q hq hqj => ?_, ?_⟩
    · rw [State.nextPc_thread_ne _ hne, State.setSreg_thread, State.thread_setThread_same]
    · rw [State.nextPc_thread_ne _ hne, State.setSreg_thread, State.thread_setThread_same]
    · rw [State.nextPc_thread, State.setSreg_thread, State.thread_setThread_ne _ _ _ _ hne.symm, State.issuedAt_thread]
    · rw [State.nextPc_sreg, State.sreg_setSreg_same]
    · rw [State.nextPc_sreg, State.sreg_setSreg_ne _ _ _ _ _ _ (by omega), State.setThread_sreg, State.issuedAt_sreg]
    · rw [State.nextPc_thread_ne _ hq, State.setSreg_thread, State.thread_setThread_ne _ _ _ _ hqj, State.issuedAt_thread_ne _ _ _ hq]
    · exact ((((State.issuedAt_sameBut _ _ _).mono (by simp)).trans ((State.setThread_sameBut _ _ _).mono (by simp))).trans
        ((State.setSreg_sameBut _ _ _ _).mono (by simp))).trans ((State.nextPc_sameBut _ _).mono (by simp))
  case exit =>
    refine ⟨?_, ?_, fun q hq => ?_, ?_⟩
    · rw [State.thread_setThread_same]
    · rw [State.thread_setThread_same, State.issuedAt_thread]
    · rw [State.thread_setThread_ne _ _ _ _ hq, State.issuedAt_thread_ne _ _ _ hq]
    · exact (State.issuedAt_sameBut _ _ _).trans ((State.setThread_sameBut _ _ _).mono (by simp))

end Sys2Proof.Machine
end
